-- ==== Sys2Proof/Word.lean ====
section
/-!
DEFINITION. The word types of the 4128 (R6: host-port registers, queue entries and mailbox words are 32-bit words;
memory is addressed by bytes).
-/
namespace Sys2Proof

/-- A 32-bit register, queue or mailbox word (R6, R367). -/
abbrev Word := BitVec 32

/-- One byte of memory or of a frame (R6). -/
abbrev Byte := BitVec 8

end Sys2Proof
end

