-- ==== Sys2Proof/Syntax.lean ====
section
/-!
DEFINITION. The commands of the block: mailbox commands, register accesses, and the events of its pins, links and
engines, one constructor for each row of the operation table, with the data each brings from outside.
-/
namespace Sys2Proof

/-- Header fields of a mailbox command as the host writes them (Table 14.6); the opcode is the command's own. -/
structure Hdr where
  /-- `MSG.TAG`. -/
  tag : Byte := 0
  /-- `MSG.LEN`. -/
  len : Byte := 0
  /-- `MSG.TARGET`. -/
  target : Fin 4 := 0
  /-- `MSG.FENCE`. -/
  fence : Bool := false
  /-- `MSG.QUIET`. -/
  quiet : Bool := false
  /-- The reserved bits w1[31:4]. -/
  rsv : BitVec 28 := 0
  /-- Time from the taking of the command to its arrival at the unit that carries it out, ns (R51, R95). -/
  lag : Nat := 0
  /-- ENV_WE has been seen high; its falls come by ENV_WE_FALL (R254). -/
  we : Bool := false
  /-- The two safety channels disagree on `SAFE.CFG_ID` as the device leaves CONFIGURE (R261). -/
  cfgDiffer : Bool := false
  /-- Of a CLUSTER.MOVE_AXIS that the lead forwards: the source axis, on another member, holds a queued move (R221). -/
  queued : Bool := false
  deriving DecidableEq, Repr

/-- What the FCS check of a received copy finds (R80, R81). -/
inductive Fcs where
  /-- Correct. -/
  | good
  /-- The bitwise inverse: marked bad upstream. -/
  | inverted
  /-- Any other value. -/
  | wrong
  deriving DecidableEq, Repr

/-- The feedback half of a returning spoke (Tables 3.10 and 3.15). -/
structure Feedback where
  /-- `SPK.STATUS`, with `SEQ_ECHO[3:0]` in bits 3:0 in a compact spoke. -/
  status : BitVec 16 := 0
  /-- `SPK.SEQ_ECHO` (full spokes). -/
  seqEcho : Byte := 0
  /-- `SPK.ERROR` (full spokes). -/
  error : Byte := 0
  /-- `SPK.POS`. -/
  pos : Word := 0
  /-- `SPK.VEL`; in a compact spoke its low 16 bits. -/
  vel : Word := 0
  /-- `SPK.STIME` (full spokes). -/
  stime : Word := 0
  deriving DecidableEq, Repr

/-- Header, trailer and FCS of a copy that comes back to the head (Tables 3.6, 3.7 and 3.16). -/
structure CopyInfo where
  /-- Port of arrival: false left, true right. -/
  right : Bool := false
  /-- `SA` is the head's own address. -/
  own : Bool := true
  version : BitVec 4 := 2
  kind : BitVec 4 := 1
  cycle : BitVec 16 := 0
  count : BitVec 16 := 0
  /-- `FLAGS.WRAPPED`. -/
  wrapped : Bool := false
  /-- `FLAGS.SPOKE_FMT`. -/
  fmt : Bool := false
  /-- `TRL.PASS_SUM`. -/
  passSum : BitVec 16 := 0
  /-- `TRL.WRAP_ADDR`. -/
  wrapAddr : Byte := 0xFF
  /-- `HDR.LAUNCH`. -/
  launch : Nat := 0
  /-- Receive stamp of the stamp point, ns (R72). -/
  rxStamp : Nat := 0
  fcs : Fcs := .good
  deriving DecidableEq, Repr

/-- A request slot as it returns (Table 3.18). -/
structure Reply where
  addr : Byte := 0
  op : Byte := 0
  status : Byte := 0
  len : Byte := 0
  index : Word := 0
  data : List Byte := []
  deriving DecidableEq, Repr

/-- A census record (Table 3.20). -/
structure CensusRec where
  addr : Byte := 0xFF
  axes : Byte := 0
  vendor : BitVec 16 := 0
  product : BitVec 16 := 0
  fwd : Byte := 0
  flags : Byte := 0
  deriving DecidableEq, Repr

/-- A delay-measurement record (Table 3.20). -/
structure DelayRec where
  rxTime : Word := 0
  residence : BitVec 16 := 0
  addr : Byte := 0xFF
  port : Byte := 0
  deriving DecidableEq, Repr

/-- A claim frame from another device, or one of the device's own coming back (Table 3.19). -/
structure ClaimFrame where
  side : Bool := false
  hash : Word := 0
  round : Byte := 0
  roll : Byte := 0
  /-- `HDR.LAUNCH`. -/
  launch : Nat := 0
  /-- Low 24 bits of the source address (R120). -/
  src : BitVec 24 := 0
  deriving DecidableEq, Repr

/-- A beacon frame (Table 3.19). -/
structure BeaconFrame where
  leaseSeq : Word := 0
  stateSeq : Word := 0
  l : Byte := 3
  gear : Byte := 2
  hash : Word := 0
  /-- `FLAGS.LEASE`. -/
  lease : Bool := false
  /-- The frame comes from the device's twin (R296). -/
  twin : Bool := true
  fcs : Fcs := .good
  deriving DecidableEq, Repr

/-- A frame that reaches a pass-through member (R63, R66, R120, R292). -/
structure PassFrame where
  /-- Port of arrival: false left, true right. -/
  right : Bool := false
  version : BitVec 4 := 2
  kind : BitVec 4 := 1
  /-- `FLAGS.CHANNEL`: true channel B. -/
  chanB : Bool := false
  wrapped : Bool := false
  /-- EtherType as it arrives (R67). -/
  etype : BitVec 16 := 0x88B5
  /-- `HDR.CYCLE` and `HDR.LAUNCH`. -/
  cycle : BitVec 16 := 0
  launch : Nat := 0
  /-- `DSC.HOPS` of a discovery frame as it arrives. -/
  hops : Nat := 0
  /-- ASSIGN slots with `INDEX`[31] = 1: `INDEX`[23:0] and the address (R120). -/
  assigns : List (BitVec 24 × Byte) := []
  /-- `NTC.TIMED` = close, with `NTC.EFFECT` (R103, R123). -/
  close : Option (BitVec 16) := none
  wrapAddr : Byte := 0xFF
  /-- Own time at the ingress medium and own time of residence to the egress boundary (R292). -/
  tIn : Nat := 0
  residence : Nat := 0
  fcs : Fcs := .good
  /-- The payload is a claim from this claimant. -/
  claim : Option ClaimFrame := none
  /-- Safe region of a service frame as it passes: head PDU and node replies (R278). -/
  safe : List Byte := []
  deriving DecidableEq, Repr

/-- What a sync link or bridge peer reports of itself (R287, R313). -/
structure PairId where
  side : Bool := false
  member : Fin 4 := 0
  stepping : Byte := 0xB1
  fwMajor : Byte := 3
  fwMinor : Byte := 2
  protocol : Byte := 3
  cfgId : Word := 0
  /-- Time base of the peer at the exchange, ns. -/
  time : Nat := 0
  /-- Low 24 bits of the peer's source address (R67, R120). -/
  src : BitVec 24 := 0
  deriving DecidableEq, Repr

/-- The control block that closes a state copy (Table 12.9). -/
structure ControlBlock where
  cycle : Nat := 0
  gear : Byte := 2
  l : Byte := 3
  recs : BitVec 16 := 0
  precs : BitVec 16 := 0
  cfgGen : Word := 0
  ring0 : Word := 0
  ring1 : Word := 0
  shiftGear : Byte := 0
  shiftE : Nat := 0
  /-- State sequence number of the copy (R24). -/
  stateSeq : Word := 0
  /-- B(0) of the active's gear and cycle origin (R291). -/
  origin : Nat := 0
  originCycle : Nat := 0
  /-- The transfer paused or the CRC over the whole copy failed. -/
  crcOk : Bool := true
  deriving DecidableEq, Repr

/-- One axis record of the state copy (Table 12.7a). -/
structure AxisRec where
  axis : Byte := 0
  state : BitVec 4 := 0
  enabled : Bool := false
  held : Bool := false
  p : Int := 0
  v : Int := 0
  a : Int := 0
  pgen : BitVec 16 := 0
  clampP : Bool := false
  clampN : Bool := false
  soft : Bool := false
  i : Int := 0
  cmd : Word := 0
  w : List Word := []
  deriving DecidableEq, Repr

/-- One profile record of the state copy (Table 12.8). -/
structure ProfileRec where
  axis : Byte := 0
  state : BitVec 4 := 0
  queued : Bool := false
  scurve : Bool := false
  kind : BitVec 2 := 0
  pgen : BitVec 16 := 0
  target : Int := 0
  v : Int := 0
  acc : Int := 0
  dec : Int := 0
  jerk : Int := 0
  t0 : Nat := 0
  x0 : Int := 0
  a0 : Int := 0
  deriving DecidableEq, Repr

/-- A word a host writes to a register, and ENV_WE seen high by then (R254). -/
structure HostWord where
  word : Word := 0
  we : Bool := false
  deriving DecidableEq, Repr

/-- Instruction byte of a QSPI transaction (R347), and ENV_WE seen high by then (R254). -/
structure QspiIns where
  ins : Byte := 0
  we : Bool := false
  deriving DecidableEq, Repr

/-- A lease grant: the cycle it is for, and the member's offset from the lead as the bridge measures it (R291, R294). -/
structure Grant where
  cycle : Nat := 0
  off : Int := 0
  deriving DecidableEq, Repr

/-- A debounced limit level, and for how many µs it has held (R211). -/
structure LimitLevel where
  level : Bool := false
  held : Byte := 0
  deriving DecidableEq, Repr

/-- RESTART as each channel samples it (R275). -/
structure RestartLevels where
  ch1 : Bool := false
  ch2 : Bool := false
  deriving DecidableEq, Repr

/-- What the bridge carries of an axis that moves to another member (R221, R315): configuration words, with the two coefficient sets
behind them, state record, profile records, and how its last move ended. -/
structure MovedAxis where
  cfg : List Word := []
  record : AxisRec := {}
  precs : List ProfileRec := []
  endCause : BitVec 4 := 0
  remain : Int := 0
  target : Int := 0
  deriving DecidableEq, Repr

/-- What a boundary finds: the period of the ring reference (R43), and an axis that moves here (R221, R315). -/
structure BoundaryIn where
  ringPeriod : Nat := 0
  moved : Option MovedAxis := none
  deriving DecidableEq, Repr

/-- A change that the active forwards (R305): the accepted command, and the cycle at which it takes effect there. -/
structure Forwarded where
  opcode : BitVec 16 := 0
  payload : List Word := []
  /-- Effective cycle; 0 = at once. -/
  effect : Nat := 0
  deriving DecidableEq, Repr

/-- An executor of the scheduler (R185). -/
inductive Executor where
  /-- Loop core LCk. -/
  | core (k : Fin 16)
  | filter
  | supervisor
  deriving DecidableEq, Repr

/-- An edge pair at a pulse input (R217). -/
inductive PulseStep where
  | forward
  | backward
  /-- Both lines changed in one sample: an error. -/
  | both
  deriving DecidableEq, Repr

/-- An edge of an incremental encoder (R229, R230). -/
inductive QuadEdge where
  | forward
  | backward
  /-- A and B changed in one sample. -/
  | double
  deriving DecidableEq, Repr

/-- A converter result as the analogue part delivers it (R238, R245). -/
structure Conversion where
  /-- Mean input voltage over the integration, in nV. -/
  vin : Int := 0
  /-- The same with the open-wire current on, where the entry converts twice. -/
  second : Int := 0
  /-- The three references as they stand, in nV: internal, VREF_EXT, VAA33 (Table 10.7). -/
  internal : Nat := 2500000000
  external : Nat := 2500000000
  supply : Nat := 3300000000
  deriving DecidableEq, Repr

/-- What the two safety channels bring to E(j) from outside the block's own data (R267). -/
structure SafeExchange where
  /-- The cross-link exchange completed within its time. -/
  complete : Bool := true
  /-- Zones for which channel 2 reached a different verdict. -/
  differ : Byte := 0
  /-- The channels hold different `CFG_ID` values. -/
  cfgDiffer : Bool := false
  deriving DecidableEq, Repr

/-- CAN frame formats (R317). -/
inductive CanKind where
  | classic
  | fd
  | xl
  deriving DecidableEq, Repr

/-- A CAN frame (R321, R325, R326). -/
structure CanFrame where
  kind : CanKind := .classic
  /-- 29-bit identifier. -/
  ext : Bool := false
  id : BitVec 29 := 0
  rtr : Bool := false
  brs : Bool := false
  esi : Bool := false
  /-- CAN XL: SDU type, VCID, acceptance field. -/
  sdt : Byte := 0
  vcid : Byte := 0
  af : Word := 0
  sec : Bool := false
  data : List Byte := []
  deriving DecidableEq, Repr

/-- A time-triggered reference message (R332, R333, R337): a message by whose identifier a port takes it for one of its schedule. -/
structure RefMessage where
  id : BitVec 11 := 0
  data : List Byte := []
  fd : Bool := false
  deriving DecidableEq, Repr

/-- A CAN bus error or error-counter change (R328). -/
inductive CanErr where
  /-- Transmit error: +8. -/
  | transmit
  /-- Receive error: +1. -/
  | receive
  /-- Receive error that adds 8. -/
  | receive8
  /-- Missing acknowledgement of a transmission. -/
  | ack
  /-- Frame received without error: receive counter down. -/
  | okReceive
  deriving DecidableEq, Repr

/-- One access over PCI Express (R351): an offset in BAR0 or BAR2. -/
structure MemAccess where
  bar2 : Bool := false
  addr : BitVec 24 := 0
  /-- ENV_WE has been seen high; its falls come by ENV_WE_FALL (R254). -/
  we : Bool := false
  /-- `none`: a read of `len` bytes; otherwise the bytes written. -/
  write : Option (List Byte) := none
  len : Nat := 4
  deriving DecidableEq, Repr

/-- An off-pulse and the read-back of its side (R273): the instant at which it starts, and in ns from there when the read-back has gone
off for good, and when it is on again; none = not at all. -/
structure Readback where
  start : Nat := 0
  off : Option Nat := none
  on : Option Nat := none
  deriving DecidableEq, Repr

/-- Strap levels sampled at the end of RESET (R423). -/
structure StrapLevels where
  cid : Fin 4 := 0
  lead : Bool := true
  hsel : Bool := false
  side : Bool := false
  bootsel : Fin 4 := 0
  deriving DecidableEq, Repr

/-- What the read and check of one boot image finds (R362, R363). -/
structure ImageHeader where
  slotB : Bool := false
  magic : Word := 0x414C594E
  layout : Word := 1
  length : Word := 1
  version : BitVec 16 := 0
  svn : BitVec 16 := 0
  seq : Word := 0
  /-- The hash of `IMG.KEY` equals the fused key hash. -/
  keyOk : Bool := true
  /-- `IMG.SIG` is valid. -/
  sigOk : Bool := true
  deriving DecidableEq, Repr

/-- Self-test failures (R423; event 1 `ARG32`). -/
structure SelfTest where
  cores : BitVec 16 := 0
  convS : Bool := false
  convP : Bool := false
  safety : Bool := false
  hardwired : Bool := false
  deriving DecidableEq, Repr

/-- How a flash operation ends (R365). -/
inductive FlashResult where
  /-- Erase, program done. -/
  | done
  /-- No answer within 5 s. -/
  | timeout
  /-- A verification found this header. -/
  | checked (h : ImageHeader)
  deriving DecidableEq, Repr

/-- The commands and events of the block, one constructor per row of the operation table, in its order. -/
inductive Instr where
  /-- SYS_IDENT (R10). Host command that returns identity, serial number, serial hash and strap levels. -/
  | sysIdent (h : Hdr) (p : List Word)
  /-- SYS_RESET (R422). Host command that schedules a full host reset or a recovery reset 100 µs after its response, optionally for every cluster member. -/
  | sysReset (h : Hdr) (p : List Word)
  /-- SYS_NOP (R367). Host command that echoes its payload words. -/
  | sysNop (h : Hdr) (p : List Word)
  /-- MODE_READ (R419). Host command that returns the mode, the cause of the last change and the cycle of that change. -/
  | modeRead (h : Hdr) (p : List Word)
  /-- MODE_SET (R374). Host command that requests CONFIGURE, SYNC-UP or SAFE-HOLD, with the leaving-CONFIGURE checks and the transitions of Table 15.3. -/
  | modeSet (h : Hdr) (p : List Word)
  /-- GEAR_READ (R30). Host command that returns the gear, any pending shift and Tc. -/
  | gearRead (h : Hdr) (p : List Word)
  /-- GEAR_SET (R48). Host command that sets the gear directly in CONFIGURE, after the limit checks. -/
  | gearSet (h : Hdr) (p : List Word)
  /-- GEAR_SHIFT (R48). Host command that requests a shift at cycle e with a budget set and the slot tables of both chains, checked and committed as one unit. -/
  | gearShift (h : Hdr) (p : List Word)
  /-- TABLE_WIN_WRITE (R90). Host command that writes slot-table window entries into the shadow. -/
  | tableWinWrite (h : Hdr) (p : List Word)
  /-- TABLE_MAP_WRITE (R99). Host command that writes spoke-map entries into the shadow unless a pending commit or staging locks it. -/
  | tableMapWrite (h : Hdr) (p : List Word)
  /-- TABLE_NODE_WRITE (R94). Host command that writes node-table entries into the shadow. -/
  | tableNodeWrite (h : Hdr) (p : List Word)
  /-- TABLE_BUDGET_WRITE (R34). Host command that writes the shadow budget set and the headroom window word. -/
  | tableBudgetWrite (h : Hdr) (p : List Word)
  /-- TABLE_READ (R90). Host command that reads the shadow or active windows, spoke map, node table or budget set. -/
  | tableRead (h : Hdr) (p : List Word)
  /-- TABLE_STAGE (R375). Host command that stages the shadow spoke map at the affected nodes by MAP_STAGE and responds at completion with the confirmation mask. -/
  | tableStage (h : Hdr) (p : List Word)
  /-- TABLE_COMMIT (R95). Host command that checks a commit of chain tables and/or the budget set and schedules it for cycle e, or applies it at once in CONFIGURE. -/
  | tableCommit (h : Hdr) (p : List Word)
  /-- CHAIN_CFG_WRITE (R61). Host command that writes the chain configuration word and both port words in CONFIGURE. -/
  | chainCfgWrite (h : Hdr) (p : List Word)
  /-- CHAIN_CFG_READ (R61). Host command that reads the chain and port configuration words. -/
  | chainCfgRead (h : Hdr) (p : List Word)
  /-- CHAIN_SUPV_WRITE (R61). Host command that writes the empty-spoke supervision threshold. -/
  | chainSupvWrite (h : Hdr) (p : List Word)
  /-- CHAIN_GUARD_WRITE (R111). Host command that writes the drift-guard configuration of a chain, applying from the next boundary. -/
  | chainGuardWrite (h : Hdr) (p : List Word)
  /-- CHAIN_MISS_AT_WRITE (R165). Host command that writes the miss instant of a chain, applying from the next boundary. -/
  | chainMissAtWrite (h : Hdr) (p : List Word)
  /-- CHAIN_SUPV_READ (R61). Host command that reads the empty-spoke threshold, guard and miss instant. -/
  | chainSupvRead (h : Hdr) (p : List Word)
  /-- CHAIN_NODE_READ (R376). Host command that queues a READ request to a node object and responds at completion with the reply. -/
  | chainNodeRead (h : Hdr) (p : List Word)
  /-- CHAIN_NODE_WRITE (R376). Host command that queues a WRITE request to a node object and responds at completion with the node status. -/
  | chainNodeWrite (h : Hdr) (p : List Word)
  /-- CHAIN_DESC_READ (R135). Host command that returns the descriptor read from a node. -/
  | chainDescRead (h : Hdr) (p : List Word)
  /-- CHAIN_CENSUS_READ (R122). Host command that returns census records of the last census on a channel. -/
  | chainCensusRead (h : Hdr) (p : List Word)
  /-- CHAIN_DELAY_READ (R106). Host command that returns the measured delays of a node on both channels. -/
  | chainDelayRead (h : Hdr) (p : List Word)
  /-- TIME_READ (R14). Host command that returns the time base, cycle counter, rate offset and time status. -/
  | timeRead (h : Hdr) (p : List Word)
  /-- TIME_STAGE (R104). Host command that stages or discards the value to which the time base steps in SYNC-UP. -/
  | timeStage (h : Hdr) (p : List Word)
  /-- TIME_RATE (R105). Host command that requests a new rate offset, carried out in steps of at most 50 ppm per millisecond. -/
  | timeRate (h : Hdr) (p : List Word)
  /-- TIME_CP_WRITE (R26). Host command that configures the offset, enable and strobe of a cycle point. -/
  | timeCpWrite (h : Hdr) (p : List Word)
  /-- TIME_CAP_CFG (R455). Host command that selects the edges recorded on a capture input. -/
  | timeCapCfg (h : Hdr) (p : List Word)
  /-- TIME_CAP_READ (R455). Host command that returns the last captured edge time, count and level, optionally clearing them. -/
  | timeCapRead (h : Hdr) (p : List Word)
  /-- AXIS_ENABLE (R461). Host command that enables an axis after the template, coefficient, limit and safety checks and loads its generator. -/
  | axisEnable (h : Hdr) (p : List Word)
  /-- AXIS_DISABLE (R204). Host command that disables a stopped axis, ending its activity and clearing its queued move. -/
  | axisDisable (h : Hdr) (p : List Word)
  /-- AXIS_STATUS_READ (R206). Host command that returns the profile status record and axis flags. -/
  | axisStatusRead (h : Hdr) (p : List Word)
  /-- AXIS_PRF_CFG_WRITE (R211). Host command that writes the stop and limit configuration of an axis. -/
  | axisPrfCfgWrite (h : Hdr) (p : List Word)
  /-- AXIS_PRF_CFG_READ (R211). Host command that reads the stop and limit configuration of an axis. -/
  | axisPrfCfgRead (h : Hdr) (p : List Word)
  /-- AXIS_MISS_WINDOW (R86). Host command that sets the feedback-missing window of one axis from the next boundary. -/
  | axisMissWindow (h : Hdr) (p : List Word)
  /-- AXIS_STREAM_INFO (R215). Host command that returns the fixed offset of the axis's stream slot. -/
  | axisStreamInfo (h : Hdr) (p : List Word)
  /-- AXIS_AUX_WRITE (R377). Host command that sets the auxiliary outputs and brake release and can start a 16-cycle fault acknowledgement. -/
  | axisAuxWrite (h : Hdr) (p : List Word)
  /-- MOVE_START (R378). Host command that accepts a move record with a start cycle, queued or replacing as the generator state allows. -/
  | moveStart (h : Hdr) (p : List Word)
  /-- MOVE_QUICK_STOP (R207). Host command that requests a quick-stop ramp of an axis under Table 9.3. -/
  | moveQuickStop (h : Hdr) (p : List Word)
  /-- MOVE_HOLD (R207). Host command that requests a hold ramp of an axis under Table 9.3. -/
  | moveHold (h : Hdr) (p : List Word)
  /-- MOVE_RESUME (R208). Host command that continues an interrupted activity of an axis. -/
  | moveResume (h : Hdr) (p : List Word)
  /-- MOVE_ABORT (R209). Host command that aborts the activity of an axis under Table 9.3. -/
  | moveAbort (h : Hdr) (p : List Word)
  /-- MOVE_SET_STOP (R378). Host command that applies one stop, hold, resume or abort request to a set of axes in the same profile step. -/
  | moveSetStop (h : Hdr) (p : List Word)
  /-- LOOP_CFG_WRITE (R157). Host command that writes the loop configuration of an axis, including a set-point source change. -/
  | loopCfgWrite (h : Hdr) (p : List Word)
  /-- LOOP_CFG_READ (R157). Host command that reads the loop configuration of an axis. -/
  | loopCfgRead (h : Hdr) (p : List Word)
  /-- LOOP_CUR_WRITE (R170). Host command that writes the current-loop configuration of an axis. -/
  | loopCurWrite (h : Hdr) (p : List Word)
  /-- LOOP_COEF_WRITE (R379). Host command that writes coefficient entries and the gear of the shadow set and clears its ready flag. -/
  | loopCoefWrite (h : Hdr) (p : List Word)
  /-- LOOP_PARAM_WRITE (R379). Host command that writes the parameter words and gear of the shadow set and clears its ready flag. -/
  | loopParamWrite (h : Hdr) (p : List Word)
  /-- LOOP_READY (R150). Host command that checks the shadow set and marks it ready. -/
  | loopReady (h : Hdr) (p : List Word)
  /-- LOOP_SWAP (R151). Host command that schedules the swap of active and shadow sets of named axes at cycle e. -/
  | loopSwap (h : Hdr) (p : List Word)
  /-- LOOP_COEF_READ (R149). Host command that reads coefficient entries or parameter words of a set. -/
  | loopCoefRead (h : Hdr) (p : List Word)
  /-- PULSE_PIN_CFG (R217). Host command that configures a pulse input. -/
  | pulsePinCfg (h : Hdr) (p : List Word)
  /-- PULSE_STP_CFG (R219). Host command that configures a step output. -/
  | pulseStpCfg (h : Hdr) (p : List Word)
  /-- PULSE_READ (R219). Host command that returns pulse count, step position, suppressed pulses and pulse errors. -/
  | pulseRead (h : Hdr) (p : List Word)
  /-- FEEDBACK_CFG_WRITE (R223). Host command that writes a feedback port configuration after the range and timing checks. -/
  | feedbackCfgWrite (h : Hdr) (p : List Word)
  /-- FEEDBACK_CFG_READ (R223). Host command that reads a feedback port configuration. -/
  | feedbackCfgRead (h : Hdr) (p : List Word)
  /-- FEEDBACK_RESULT_READ (R234). Host command that returns the port result record and clears Z_SEEN. -/
  | feedbackResultRead (h : Hdr) (p : List Word)
  /-- FEEDBACK_SINGLE_READ (R237). Host command that makes one serial request in CONFIGURE or SYNC-UP and responds at completion with its result. -/
  | feedbackSingleRead (h : Hdr) (p : List Word)
  /-- ADC_CFG_WRITE (R242). Host command that writes a converter configuration, arming or disarming its trigger. -/
  | adcCfgWrite (h : Hdr) (p : List Word)
  /-- ADC_SEQ_WRITE (R241). Host command that writes sequence entries of a converter. -/
  | adcSeqWrite (h : Hdr) (p : List Word)
  /-- ADC_START (R243). Host command that starts a converter sequence when the converter is idle. -/
  | adcStart (h : Hdr) (p : List Word)
  /-- ADC_RESULT_READ (R244). Host command that returns result records by tag. -/
  | adcResultRead (h : Hdr) (p : List Word)
  /-- ADC_STAT_READ (R246). Host command that returns reference, lock and sequence status and the skip count. -/
  | adcStatRead (h : Hdr) (p : List Word)
  /-- ENV_READ (R250). Host command that returns the seal state and the envelope words of axes. -/
  | envRead (h : Hdr) (p : List Word)
  /-- ENV_CLAMP_READ (R253). Host command that returns the clamp count and lasting state of an axis. -/
  | envClampRead (h : Hdr) (p : List Word)
  /-- SAFE_CFG_WRITE (R261). Host command that writes the safety configuration words in CONFIGURE. -/
  | safeCfgWrite (h : Hdr) (p : List Word)
  /-- SAFE_ZONE_WRITE (R261). Host command that writes zone entries in CONFIGURE. -/
  | safeZoneWrite (h : Hdr) (p : List Word)
  /-- SAFE_AXIS_WRITE (R261). Host command that writes safe-axis entries in CONFIGURE. -/
  | safeAxisWrite (h : Hdr) (p : List Word)
  /-- SAFE_SI_WRITE (R261). Host command that writes safe-input entries in CONFIGURE. -/
  | safeSiWrite (h : Hdr) (p : List Word)
  /-- SAFE_READ (R261). Host command that reads the safety configuration, zones, safe axes or safe inputs. -/
  | safeRead (h : Hdr) (p : List Word)
  /-- SAFE_CONFIRM (R380). Host command that confirms CFG_ID to both channels, ending the unconfirmed hold. -/
  | safeConfirm (h : Hdr) (p : List Word)
  /-- SAFE_DEMAND (R380). Host command that places or withdraws host STO or SS1 demands on zones. -/
  | safeDemand (h : Hdr) (p : List Word)
  /-- SAFE_STATUS (R268). Host command that returns zone, demand, pair, input and configuration status. -/
  | safeStatus (h : Hdr) (p : List Word)
  /-- TWIN_CFG_WRITE (R286). Host command that writes the twin configuration in CONFIGURE. -/
  | twinCfgWrite (h : Hdr) (p : List Word)
  /-- TWIN_STATUS (R310). Host command that returns the twin status record and TWIN.CFG_ID. -/
  | twinStatus (h : Hdr) (p : List Word)
  /-- TWIN_SWAP (R307). Host command that starts a planned swap and responds at completion with the swap cycle. -/
  | twinSwap (h : Hdr) (p : List Word)
  /-- CLUSTER_CFG_WRITE (R311). Host command that writes the cluster member set on the lead. -/
  | clusterCfgWrite (h : Hdr) (p : List Word)
  /-- CLUSTER_STATUS (R311). Host command that returns joined and lost members, bridge direction and member offsets. -/
  | clusterStatus (h : Hdr) (p : List Word)
  /-- CLUSTER_MOVE_AXIS (R315). Host command that schedules moving a stopped axis to another member at cycle e. -/
  | clusterMoveAxis (h : Hdr) (p : List Word)
  /-- CAN_CFG_WRITE (R319). Host command that writes a CAN port configuration in CONFIGURE. -/
  | canCfgWrite (h : Hdr) (p : List Word)
  /-- CAN_FILTER_WRITE (R325). Host command that writes acceptance-filter entries of a port. -/
  | canFilterWrite (h : Hdr) (p : List Word)
  /-- CAN_SCHED_WRITE (R335). Host command that writes time-triggered schedule windows after the whole-schedule checks. -/
  | canSchedWrite (h : Hdr) (p : List Word)
  /-- CAN_SAFE_WRITE (R340). Host command that writes the CAN1 safety schedule after its placement checks. -/
  | canSafeWrite (h : Hdr) (p : List Word)
  /-- CAN_ABORT (R324). Host command that withdraws a transmit entry unless its frame is on the bus. -/
  | canAbort (h : Hdr) (p : List Word)
  /-- CAN_RECOVER (R330). Host command that starts bus-off recovery of a port. -/
  | canRecover (h : Hdr) (p : List Word)
  /-- CAN_INFO (R321). Host command that returns the offsets of the transmit queue and receive ring. -/
  | canInfo (h : Hdr) (p : List Word)
  /-- CAN_READ (R381). Host command that reads port configuration, schedule windows, filters or safety schedule. -/
  | canRead (h : Hdr) (p : List Word)
  /-- TRACE_CFG_WRITE (R387). Host command that writes divider, reduction group, pre-trigger and signal count. -/
  | traceCfgWrite (h : Hdr) (p : List Word)
  /-- TRACE_SIG_WRITE (R386). Host command that writes acquisition signal entries. -/
  | traceSigWrite (h : Hdr) (p : List Word)
  /-- TRACE_TRIG_WRITE (R393). Host command that writes trigger sequencer states. -/
  | traceTrigWrite (h : Hdr) (p : List Word)
  /-- TRACE_ARM (R391). Host command that arms an acquisition from slot 0. -/
  | traceArm (h : Hdr) (p : List Word)
  /-- TRACE_STOP (R391). Host command that stops an acquisition to idle or done. -/
  | traceStop (h : Hdr) (p : List Word)
  /-- TRACE_STATUS (R391). Host command that returns acquisition state, records, trigger time and offset and gap count. -/
  | traceStatus (h : Hdr) (p : List Word)
  /-- FILTER_JOB_START (R382). Host command that queues a filter job and raises its request for the engine. -/
  | filterJobStart (h : Hdr) (p : List Word)
  /-- FILTER_JOB_STATUS (R398). Host command that reports a job and frees its number once done or aborted. -/
  | filterJobStatus (h : Hdr) (p : List Word)
  /-- FILTER_JOB_ABORT (R398). Host command that ends a filter job at its running chunk. -/
  | filterJobAbort (h : Hdr) (p : List Word)
  /-- EVENT_CLASS_WRITE (R408). Host command that sets N, W and reaction of a fault class from the next boundary. -/
  | eventClassWrite (h : Hdr) (p : List Word)
  /-- EVENT_CLASS_READ (R383). Host command that returns a class's settings, transient count and stamps, optionally clearing them. -/
  | eventClassRead (h : Hdr) (p : List Word)
  /-- BBR_READ (R431). Host command that reads BBR words, checking the region seal. -/
  | bbrRead (h : Hdr) (p : List Word)
  /-- BBR_WRITE (R432). Host command that writes settings or user words as one sealed write operation. -/
  | bbrWrite (h : Hdr) (p : List Word)
  /-- FW_WRITE (R384). Host command that writes an image chunk into the inactive slot, erasing its sector first when needed, responding at completion. -/
  | fwWrite (h : Hdr) (p : List Word)
  /-- FW_VERIFY (R363). Host command that verifies an image slot and responds at completion with OK or AUTH_FAIL. -/
  | fwVerify (h : Hdr) (p : List Word)
  /-- FW_ACTIVATE (R365). Host command that makes a verified slot the boot choice by a sealed write of SET.BOOT. -/
  | fwActivate (h : Hdr) (p : List Word)
  /-- FW_INFO (R365). Host command that returns the state of both image slots. -/
  | fwInfo (h : Hdr) (p : List Word)
  /-- DIAG_ACT_READ (R40). Host command that returns activity counter records, optionally clearing them. -/
  | diagActRead (h : Hdr) (p : List Word)
  /-- DIAG_HEADROOM_READ (R44). Host command that returns the headroom record. -/
  | diagHeadroomRead (h : Hdr) (p : List Word)
  /-- DIAG_CHAIN_COUNTERS (R89). Host command that returns the chain counter record, optionally clearing it. -/
  | diagChainCounters (h : Hdr) (p : List Word)
  /-- DIAG_SCHED_READ (R196). Host command that returns the scheduler record and restarts its peaks. -/
  | diagSchedRead (h : Hdr) (p : List Word)
  /-- DIAG_QUEUE_SNAPSHOT (R184). Host command that returns the descriptors of a level, earliest deadline first. -/
  | diagQueueSnapshot (h : Hdr) (p : List Word)
  /-- DIAG_LOOP_COUNTERS (R169). Host command that returns the axis loop counter record. -/
  | diagLoopCounters (h : Hdr) (p : List Word)
  /-- DIAG_CAN_COUNTERS (R343). Host command that returns the CAN counter record. -/
  | diagCanCounters (h : Hdr) (p : List Word)
  /-- DIAG_CORE_TEST (R193). Host command that tests a loop core in CONFIGURE and responds at completion. -/
  | diagCoreTest (h : Hdr) (p : List Word)
  /-- DIAG_MEM_STATUS (R426). Host command that returns ECC error counts and repair-column use. -/
  | diagMemStatus (h : Hdr) (p : List Word)
  /-- CMDQ_TAIL_WRITE (R353). Doorbell write of the command-queue tail that starts command processing, ignored when invalid. -/
  | cmdqTailWrite (v : Word)
  /-- RSPQ_HEAD_WRITE (R354). Host write of the response-queue head that frees response reservations. -/
  | rspqHeadWrite (v : Word)
  /-- EVTQ_HEAD_WRITE (R352). Host write of the event-queue head that frees event entries. -/
  | evtqHeadWrite (v : Word)
  /-- IRQ_PEND_WRITE (R360). Write-one-to-clear of pending event bits. -/
  | irqPendWrite (k : Fin 4) (v : Word)
  /-- IRQ_MASK_WRITE (R360). Write of mask bits that may send one MSI-X message per vector for pending bits it frees. -/
  | irqMaskWrite (k : Fin 4) (v : Word)
  /-- IRQ_ROUTE_WRITE (R360). Write of route bytes that may send one message per vector for pending bits it reroutes. -/
  | irqRouteWrite (w : Fin 32) (v : Word)
  /-- REGISTER_WRITE (R349). Write to a host-port register without behaviour of its own, such as WIN_CTRL or HP_STATUS flags. -/
  | registerWrite (off : BitVec 16) (v : HostWord)
  /-- ENV_KEY_WRITE (R254). Write of a key word that unlocks, locks or faults the envelope path. -/
  | envKeyWrite (v : Word) (we : Bool)
  /-- ENV_DATA_WRITE (R255). Write of an envelope word that stores it, advances the address and starts a seal update. -/
  | envDataWrite (v : Word) (we : Bool)
  /-- RXQ_TAIL_WRITE (R326). Host write that returns receive entries to the CAN port in ring order. -/
  | rxqTailWrite (n : Fin 2) (v : Word)
  /-- RXW_READ (R327). Read of the CAN receive word window that locks, advances and on the last word returns the entry. -/
  | rxwRead (n : Fin 2)
  /-- CAN_TX_ENTRY_OWN (R321). Host write of a transmit entry header word 0 with OWN set that hands the entry to the port. -/
  | canTxEntryOwn (n : Fin 2) (i : Fin 32) (w0 w1 w2 w3 : Word) (data : List Byte)
  /-- QSPI_WRITE (R347). QSPI write transaction to the BAR0 or BAR2 image on one, two or four lines. -/
  | qspiWrite (ins : QspiIns) (addr : BitVec 24) (data : List Byte)
  /-- QSPI_READ (R347). QSPI read transaction returning a ready byte and data, or a pause under A6. -/
  | qspiRead (ins : QspiIns) (addr : BitVec 24) (n : Nat)
  /-- PCIE_MEMORY_ACCESS (R351). PCI Express read or write of queue areas, BAR2 or the aperture, charged to A6 and held when A6 is exhausted. -/
  | pcieMemoryAccess (a : MemAccess)
  /-- PERST_ASSERT (R346). PERST# falls and resets only the PCI Express link and configuration space. -/
  | perstAssert
  /-- PERST_RELEASE (R346). PERST# rises and link training starts. -/
  | perstRelease
  /-- HOST_LINK (R413). The host link trains, retrains or goes down and event 11 is raised. -/
  | hostLink (gen : BitVec 2) (x2 : Bool)
  /-- MSIX_PENDING_SEND (R360). A vector marked pending sends its message once the link is up, MSI-X enabled and the vector unmasked. -/
  | msixPendingSend (v : Fin 32) (enabled : Bool)
  /-- EVENT_LOST (R359). Once event-queue space returns, an EVENT_LOST entry with the number lost is written before later events. -/
  | eventLost
  /-- CYCLE_BOUNDARY (R15). At B(n) the cycle begins: copy windows close, budgets refill, tables, swaps and shifts take effect, set-points are taken and the next cycle's work starts. -/
  | cycleBoundary (b : BoundaryIn)
  /-- CYCLE_POINT (R26). A cycle point fires at its offset, raising its event, driving its strobe and starting bound converter sequences. -/
  | cyclePoint (k : Fin 8)
  /-- SERVICE_FRAME_LAUNCH (R101). The service frame is launched in the service window with notice block, request slots and safe region. -/
  | serviceFrameLaunch (c : Fin 2)
  /-- OPEN_FRAME_LAUNCH (R91). A second service frame for host bulk transfers is launched in the open window when transfers are queued. -/
  | openFrameLaunch (c : Fin 2)
  /-- BEACON_LAUNCH (R69). The head launches the beacon frame in the claim/beacon window. -/
  | beaconLaunch (c : Fin 2)
  /-- DISCOVERY_LAUNCH (R122). A census or delay-measurement frame is launched in the discovery window. -/
  | discoveryLaunch (c : Fin 2)
  /-- ACYCLIC_FILL (R400). At the fill instant before an acyclic window, the arbiter decides the holder and the holder fills the request slots. -/
  | acyclicFill (c : Fin 2) (open_ : Bool)
  /-- MISS_INSTANT (R165). At MISS.AT held AXIS_UPDATE items are posted for spokes without any candidate. -/
  | missInstant (c : Fin 2)
  /-- CANDIDATE_SPOKE (R17). A returning spoke copy becomes complete and, as the first candidate, posts its axis's item. -/
  | candidateSpoke (c : Fin 2) (b : Bool) (k : Fin 128) (fb : Feedback) (t : Nat)
  /-- COPY_CONFIRM (R19). A returning copy's FCS is checked, confirming or discarding its spokes and checking the pass sum. -/
  | copyConfirm (c : Fin 2) (b : Bool) (i : CopyInfo) (t : Nat)
  /-- SERVICE_COPY_RETURN (R102). A returning service copy delivers node replies and safe replies, completing or resending requests. -/
  | serviceCopyReturn (c : Fin 2) (b : Bool) (i : CopyInfo) (replies : List Reply) (safe : List Byte) (t : Nat)
  /-- DISCOVERY_COPY_RETURN (R118). A returning census copy yields node records, addresses to assign and wrap states. -/
  | discoveryCopyReturn (c : Fin 2) (b : Bool) (i : CopyInfo) (hops : Nat) (recs : List CensusRec) (t : Nat)
  /-- DELAY_COPY_RETURN (R106). A returning delay-measurement copy contributes a round to each node's delays. -/
  | delayCopyReturn (c : Fin 2) (b : Bool) (i : CopyInfo) (round : Fin 16) (hops : Nat) (recs : List DelayRec) (t : Nat)
  /-- CLAIM_FRAME_RECEIVED (R114). A claim frame is compared by rank, making the claimant yield, continue or clash. -/
  | claimFrameReceived (c : Fin 2) (f : ClaimFrame) (t : Nat)
  /-- BEACON_RECEIVED (R296). A beacon from the twin is read as a heartbeat path, or ends a listening claimant's claim. -/
  | beaconReceived (c : Fin 2) (f : BeaconFrame) (t : Nat)
  /-- FOREIGN_FRAME (R65). A frame not launched by the head and not a claim is discarded and counted foreign. -/
  | foreignFrame (c : Fin 2)
  /-- PASS_THROUGH_FORWARD (R66). A pass-through member forwards a frame on the fly, reading lease flags and assignments. -/
  | passThroughForward (c : Fin 2) (f : PassFrame) (t : Nat)
  /-- LINK_UP (R59). A chain port declares its link up after debounce or PHY status. -/
  | linkUp (c : Fin 2) (right : Bool) (t : Nat)
  /-- LINK_DOWN (R59). A chain port declares its link down and a member wraps. -/
  | linkDown (c : Fin 2) (right : Bool) (t : Nat)
  /-- PHY_STATUS_POLL (R58). Every 100 µs the MDIO master reads each PHY's link status. -/
  | phyStatusPoll (up : BitVec 4) (t : Nat)
  /-- LISTEN_END (R113). The 3 ms SYNC-UP listen ends and claiming begins unless a beacon was heard. -/
  | listenEnd
  /-- CLAIM_PERIOD (R113). Each 1 ms claim period launches a claim, counts silence after a roll, or declares the claim won. -/
  | claimPeriod
  /-- PPS_EDGE (R104). A PPS_IN edge is stamped and, when ordered, takes the staged time step. -/
  | ppsEdge (t : Nat)
  /-- RATE_STEP (R105). Every 1 ms a pending rate change moves by up to 50 ppm. -/
  | rateStep
  /-- LEASE_RENEWAL (R294). At R(n) a device with H1 to H6 holding renews its token and sends a heartbeat. -/
  | leaseRenewal
  /-- SILENCE_CHECK (R296). At D(n) a standby counts the cycle silent and reports to its lead after L+2 silent cycles. -/
  | silenceCheck
  /-- LEASE_LAPSE (R295). The token lapses at B(k+L): the device goes dark and enters CONFIGURE. -/
  | leaseLapse
  /-- TAKEOVER (R298). Once every standby member has reported silence, the standby cluster becomes head at B(n+1). -/
  | takeover
  /-- HEARTBEAT_RECEIVED (R296). A sync-link heartbeat with the next lease sequence arrives at the standby. -/
  | heartbeatReceived (seq : Word) (t : Nat)
  /-- SYNC_LINK_LOCK (R287). Both sync lanes reach block lock and the pair identities are exchanged and checked. -/
  | syncLinkLock (peer : PairId)
  /-- SYNC_LINK_CHANGE (R315). A sync lane loses or regains lock, making the standby not ready. -/
  | syncLinkChange (lanes : BitVec 2)
  /-- COPY_CONTROL_BLOCK (R302). The copy control block arrives and closes the state copy or marks it incomplete. -/
  | copyControlBlock (cb : ControlBlock) (recs : List AxisRec) (precs : List ProfileRec) (t : Nat)
  /-- FORWARDED_CHANGE (R305). A configuration change forwarded over the sync link is received for application at the same boundary. -/
  | forwardedChange (gen : Word) (x : Forwarded) (t : Nat)
  /-- CONFIG_REFRESH_DONE (R305). A requested refresh of forwarded words and tables completes, making the standby configuration-current. -/
  | configRefreshDone (gen : Word)
  /-- MEMBER_HEALTH (R294). The lead receives a member's H1 to H5 result for a cycle. -/
  | memberHealth (m : Fin 4) (ok : BitVec 5) (cycle : Nat) (t : Nat)
  /-- LEASE_GRANT (R294). A member receives the lead's grant for a cycle. -/
  | leaseGrant (g : Grant) (t : Nat)
  /-- MEMBER_LOST (R314). Nothing arrives from a member or the lead for 2 cycles. -/
  | memberLost (m : Fin 4)
  /-- MEMBER_JOINED (R313). A member joins the lead in CONFIGURE after version checks. -/
  | memberJoined (m : Fin 4) (id : PairId) (dup : Bool)
  /-- CLAIM_REPORT (R288). The lead receives a member's claim result and orders the step or forwarding, or raises CLAIM_SPLIT. -/
  | claimReport (m : Fin 4) (won : Bool)
  /-- BRIDGE_CHANGE (R311). A bridge link breaks or returns and traffic takes the other way round. -/
  | bridgeChange (otherWay : Bool)
  /-- BRIDGE_RESPONSE (R371). The lead receives a forwarded command's response from a member and returns it. -/
  | bridgeResponse (m : Fin 4) (tag : Byte) (opcode : BitVec 16) (status : Byte) (p : List Word)
  /-- SWAP_ACK (R307). The standby acknowledges the named swap cycle over the sync link. -/
  | swapAck (e : Nat)
  /-- SWAP_DUE (R309). The swap reminder interval passes with a ready standby. -/
  | swapDue
  /-- DISPATCH (R185). A free executor takes the highest-priority earliest-deadline item that fits its budget and has a release entry. -/
  | dispatch (x : Executor)
  /-- SPILL_RETURN (R187). A spilled item returns to a freed hardware entry of its level. -/
  | spillReturn (level : Fin 8)
  /-- ITEM_COMPLETE (R143). A work item completes, writes its state and passes its result through the envelope. -/
  | itemComplete (x : Executor) (occ : Nat) (residueOk : Bool) (t : Nat)
  /-- RELEASE (R189). The release unit releases the next result of an ordered flow into its destination. -/
  | release (flow : Fin 64) (t : Nat)
  /-- ITEM_DEADLINE (R191). An item's deadline passes while queued, running or awaiting release and it is released as failed. -/
  | itemDeadline
  /-- DISPATCH_ACK_TIMEOUT (R192). A core does not acknowledge a dispatch within 100 ns and is fenced. -/
  | dispatchAckTimeout (x : Fin 16)
  /-- OCCUPANCY_LIMIT (R192). An item's occupancy passes twice its charge and its core is fenced. -/
  | occupancyLimit (x : Fin 16)
  /-- LIMIT_DEBOUNCED (R211). A local limit input level holds for LIM.FILT and counts, gating step pulses. -/
  | limitDebounced (n : Fin 16) (positive : Bool) (l : LimitLevel)
  /-- PULSE_INPUT_STEP (R217). A pulse input edge counts a signed step or a both-lines error. -/
  | pulseInputStep (n : Fin 16) (s : PulseStep) (t : Nat)
  /-- STEP_PULSE (R219). A step output's accumulator passes a whole number and emits a pulse. -/
  | stepPulse (n : Fin 16)
  /-- STEP_RATE_EXPIRY (R219). Tc after the last release the step output's increment becomes 0. -/
  | stepRateExpiry (n : Fin 16)
  /-- ENCODER_REQUEST (R224). A serial feedback port makes its request at B(n)+OFFSET. -/
  | encoderRequest (n : Fin 16)
  /-- ENCODER_REQUEST_EDGE (R237). A standby port takes the active's request edge as its own request. -/
  | encoderRequestEdge (n : Fin 16) (t : Nat)
  /-- ENCODER_START_EDGE (R224). The start edge of the encoder word arrives and bit timing begins. -/
  | encoderStartEdge (n : Fin 16) (t : Nat)
  /-- ENCODER_TIMEOUT (R227). No start edge arrives within TIMEOUT and the cycle reports TIMEOUT. -/
  | encoderTimeout (n : Fin 16)
  /-- ENCODER_WORD_DONE (R226). The serial word completes and is checked and extended into the port position. -/
  | encoderWordDone (n : Fin 16) (bits : List Bool)
  /-- QUADRATURE_EDGE (R229). An A or B edge changes the incremental count or counts a double edge. -/
  | quadratureEdge (n : Fin 16) (e : QuadEdge) (t : Nat)
  /-- INCREMENTAL_LATCH (R231). At B(n)+OFFSET the incremental count and last edge are latched and velocity formed. -/
  | incrementalLatch (n : Fin 16)
  /-- INDEX_EDGE (R233). An index edge latches the count and, in mode 3 with Z_CLEAR, clears it. -/
  | indexEdge (n : Fin 16) (t : Nat)
  /-- CAPTURE_EDGE (R455). A selected edge on a capture input is time-stamped and counted. -/
  | captureEdge (n : Fin 4) (level : Bool) (t : Nat)
  /-- ADC_TIME_TRIGGER (R243). An absolute-time trigger instant starts a sequence or counts a skip. -/
  | adcTimeTrigger (x : Fin 2)
  /-- CONVERSION_DONE (R238). A conversion completes and writes its tag result, possibly ending the sequence. -/
  | conversionDone (x : Fin 2) (v : Conversion)
  /-- MAINS_CROSSING (R240). A rising AGND crossing on AIN23 updates the mains lock. -/
  | mainsCrossing (x : Fin 2) (t : Nat)
  /-- MAINS_LOCK_TIMEOUT (R240). No crossing arrives for 2 nominal periods and the lock is lost. -/
  | mainsLockTimeout (x : Fin 2)
  /-- REF_SETTLED (R246). The selected reference has settled and REF_OK rises. -/
  | refSettled (x : Fin 2)
  /-- ENV_KEY_TIMEOUT (R254). The second key word does not arrive within 1 ms. -/
  | envKeyTimeout
  /-- ENV_LOCKOUT_END (R254). The 1 s key lockout after a key fault ends. -/
  | envLockoutEnd
  /-- ENV_PATH_TIMEOUT (R256). 10 s pass without an ENV_DATA write and the path locks. -/
  | envPathTimeout
  /-- ENV_WE_FALL (R256). ENV_WE falls and the envelope path locks. -/
  | envWeFall
  /-- ENV_SEAL_UPDATE_DONE (R255). An envelope seal update ends and BUSY clears. -/
  | envSealUpdateDone
  /-- SEAL_CHECK (R434). The envelope seal is checked every 1 ms and a loss raises its event. -/
  | sealCheck
  /-- SAFE_CYCLE_START (R262). At S(j) both channels build the head PDU and check the RC oscillator count. -/
  | safeCycleStart (rc : Nat)
  /-- SAFE_EVALUATION (R267). At E(j) the channels exchange replies, inputs and verdicts and set zone states. -/
  | safeEvaluation (v : SafeExchange)
  /-- SAFE_EXCHANGE_TIMEOUT (R267). The cross-link exchange is not complete within 100 µs, an internal fault. -/
  | safeExchangeTimeout
  /-- SAFE_INPUT_SAMPLE (R271). Every 250 µs each channel samples its safe inputs and demands functions. -/
  | safeInputSample (a b : Byte)
  /-- SI_DISCREPANCY (R272). The other contact does not follow within SI.DISC. -/
  | siDiscrepancy (m : Fin 8)
  /-- RESTART_SAMPLE (R275). Every 250 µs both channels sample RESTART and a valid release re-arms zones. -/
  | restartSample (r : RestartLevels)
  /-- RESTART_STUCK (R275). RESTART stays active beyond 3 s. -/
  | restartStuck
  /-- OFF_PULSE_TEST (R273). An energised side is given its periodic off-pulse with read-back. -/
  | offPulseTest (pair : Fin 4) (sideB : Bool) (r : Readback)
  /-- OUT_TEST_FAIL (R274). A SAFE read-back disagrees with its command and the pair is de-energised. -/
  | outTestFail (pair : Fin 4) (sideB : Bool) (level : Bool)
  /-- CAN_FRAME_RECEIVED (R326). A CAN frame is received, filtered and written to the ring or taken by the safety channel. -/
  | canFrameReceived (n : Fin 2) (f : CanFrame) (t : Nat)
  /-- REFERENCE_MESSAGE (R337). A time-triggered reference message is received and places the windows or changes the master role. -/
  | referenceMessage (n : Fin 2) (f : RefMessage) (t : Nat)
  /-- CAN_TX_OFFER (R322). The port starts the owned entry that wins arbitration when the bus allows. -/
  | canTxOffer (n : Fin 2)
  /-- CAN_TX_DONE (R324). A transmission succeeds and the entry's OWN is cleared. -/
  | canTxDone (n : Fin 2) (t : Nat)
  /-- CAN_ERROR (R328). A bus error updates the error counters and may change state or enter bus-off. -/
  | canError (n : Fin 2) (e : CanErr)
  /-- CAN_RECOVERY_DONE (R330). 128 recessive sequences pass and the port becomes error-active. -/
  | canRecoveryDone (n : Fin 2)
  /-- TT_BASIC_CYCLE (R334). A master starts a basic cycle with its reference message. -/
  | ttBasicCycle (n : Fin 2)
  /-- TT_WINDOW_START (R335). A schedule or safety window opens and its bound frame or head PDU is started. -/
  | ttWindowStart (n : Fin 2) (w : Nat) (free_ : Bool)
  /-- TT_WINDOW_MISS (R335). The Tx-enable interval of an own exclusive window ends without a start. -/
  | ttWindowMiss (n : Fin 2) (w : Nat)
  /-- REFERENCE_TIMEOUT (R337). A potential master sees no reference by its slot and sends its own. -/
  | referenceTimeout (n : Fin 2)
  /-- ARBITER_GRANT (R400). A free resource is granted to the raised request with the nearest deadline. -/
  | arbiterGrant (r : Fin 4)
  /-- ARB_CUTOFF (R401). A holder reaches its hold limit and the resource is taken from it. -/
  | arbCutoff (r : Fin 4)
  /-- TRACE_RECORD_WRITE (R390). A staged record or gap marker is written to the ring when A5 budget allows. -/
  | traceRecordWrite
  /-- FAULT_LOG_WRITE (R411). The supervisor writes a fault-log entry within 1 ms and reseals the region. -/
  | faultLogWrite
  /-- SUPERVISOR_HEARTBEAT (R293). The Alyan firmware writes the heartbeat register. -/
  | supervisorHeartbeat
  /-- HARDWARE_WATCHDOG (R409). 100 ms without heartbeat and no ready twin cause a recovery reset. -/
  | hardwareWatchdog
  /-- OSC_FAULT (R415). The time-base clock is lost or off-frequency and the launch stops. -/
  | oscFault (lost : Bool) (ppm : Int)
  /-- SUPPLY_DETECTOR (R415). A rail crosses its warning or fault threshold. -/
  | supplyDetector (rail : Fin 6) (mv : Nat)
  /-- TEMP_DETECTOR (R415). Tj crosses a warning or fault threshold. -/
  | tempDetector (tj : Int)
  /-- VBAT_LOW (R415). VBAT falls below 1.9 V with the main rails on. -/
  | vbatLow (mv : Nat)
  /-- MEM_ECC_ERROR (R426). An access or scrub finds a corrected or uncorrectable ECC error. -/
  | memEccError (area : Fin 5) (uncorrectable : Bool) (off : Nat)
  /-- SCRUB_PASS (R426). The scrubber reads and corrects every word within 2 s. -/
  | scrubPass (corrected : List (Fin 5))
  /-- PORST_LOW (R422). PORST# falls and the device enters RESET. -/
  | porstLow
  /-- RESET_END (R447). RESET ends, straps are sampled and BOOT begins. -/
  | resetEnd (s : StrapLevels)
  /-- SYS_RESET_EXPIRY (R420). 100 µs after the SYS.RESET response the reset begins. -/
  | sysResetExpiry
  /-- RAIL_POWER_FAIL (R447). A main rail falls below its power-fail threshold and the device enters DORMANT. -/
  | railPowerFail (vbat : Bool)
  /-- RAILS_IN_RANGE (R447). Every main rail is in range and the oscillator has run 2 ms. -/
  | railsInRange
  /-- BBR_SUPPLY_CHANGEOVER (R425). VIO18 crosses 1.60 V and the BBR supply changes over. -/
  | bbrSupplyChangeover (toVbat : Bool)
  /-- VBAT_POWER_ON_CLEAR (R436). VBAT rises through the clear threshold and every BBR word is set to 0. -/
  | vbatPowerOnClear
  /-- BANK_WAKE (R428). Retained banks wake at the start of BOOT after a recovery reset. -/
  | bankWake
  /-- MEMORY_CLEAR_DONE (R427). The memory clear ends and accesses are served. -/
  | memoryClearDone
  /-- IMAGE_VERIFIED (R364). A boot image read and check ends; the next image is tried or loader state entered. -/
  | imageVerified (h : ImageHeader)
  /-- SELF_TEST_DONE (R423). The BOOT self-test ends, fencing failed cores and reporting failures. -/
  | selfTestDone (fail : SelfTest)
  /-- BOOT_DONE (R361). Firmware start completes, the mailbox becomes ready and CONFIGURE begins. -/
  | bootDone
  /-- EXTEST_EXIT (R428). Leaving EXTEST acts as a recovery reset. -/
  | extestExit
  /-- FLASH_OPERATION_DONE (R365). A flash write, erase or image verify ends, or times out after 5 s. -/
  | flashOperationDone (r : FlashResult)
  /-- CORE_TEST_DONE (R193). A core test completes and returns or fences the core. -/
  | coreTestDone (x : Fin 16) (passed : Bool)
  /-- MODE_SET_TIMEOUT (R374). 30 s pass without a re-arming edge. -/
  | modeSetTimeout
  /-- FORWARDED_COMMAND (R312). A member receives over the bridge a command, shift or reset that the lead forwards to it, and executes it. -/
  | forwardedCommand (h : Hdr) (opcode : BitVec 16) (p : List Word)
  /-- CLAIM_ORDER (R288). A member receives the lead's order to step its time base for the cluster, or to stop claiming and forward. -/
  | claimOrder (step : Bool) (value : Option Nat)
  /-- MEMBER_EVENT (R312). An event raised on a member arrives over the bridge and is written into the lead's event queue with its member number. -/
  | memberEvent (m : Fin 4) (n : Fin 128) (a16 : BitVec 16) (a32 : Word) (time : Nat)
  /-- MIRRORED_EVENT (R310). An event raised in the active cluster arrives at the standby lead and is posted in its event queue, marked as mirrored. -/
  | mirroredEvent (m : Fin 4) (n : Fin 128) (a16 : BitVec 16) (a32 : Word) (time : Nat)
  /-- COPY_ACKNOWLEDGE (R301). The active receives the standby's acknowledgement of a state copy, fixing which profile records later copies must carry. -/
  | copyAcknowledge (seq : Word)
  /-- REFRESH_REQUEST (R305). The active receives a standby's request to refresh every forwarded word and the active tables, and starts sending them. -/
  | refreshRequest
  /-- SWAP_NOTICE (R307). The standby receives the swap cycle e named by the active over the sync link and acknowledges it. -/
  | swapNotice (e : Nat)
  /-- REFERENCES_LOST (R337). A time-triggered port that is not master sees no reference message for 2 basic cycles, clears REF_OK and raises CAN_STATE with cause 5. -/
  | referencesLost (n : Fin 2)
  /-- EXTEST_ENTRY (R428). Boundary scan puts the device into EXTEST, holding the memory banks at retention voltage. -/
  | extestEntry
  deriving DecidableEq, Repr

end Sys2Proof
end

