-- ==== Sys2Proof/WellFormed.lean ====
section
/-!
DEFINITION. Which commands are well formed: operands that the interface of the block can carry (R6, Tables 14.6 and 14.3). The
device refuses or ignores many well-formed commands; an ill-formed one cannot be sent at all.
-/
namespace Sys2Proof

/-- A mailbox entry: at most 62 payload words stand in an entry (R367, Table 14.6). -/
def wfEntry (p : List Word) : Bool := decide (p.length ≤ 62)

/-- Bytes of a 48-bit cycle number. -/
def wfCycle (c : Nat) : Bool := decide (c < 2 ^ 48)

/-- A time-base value: 64 bits (R14). -/
def wfTime (t : Nat) : Bool := decide (t < 2 ^ 64)

/-- A CAN frame with a length its format can carry (Table 13.1). -/
def CanFrame.wf (f : CanFrame) : Bool :=
  match f.kind with
  | .classic => decide (f.data.length ≤ 8)
  | .fd => decide (f.data.length ≤ 64)
  | .xl => decide (1 ≤ f.data.length) && decide (f.data.length ≤ 2048)

/-- A PCI Express access: at most 256 bytes written, at most 512 read (Table 14.1). -/
def MemAccess.wf (a : MemAccess) : Bool :=
  match a.write with
  | some bs => decide (1 ≤ bs.length) && decide (bs.length ≤ 256)
  | none => decide (1 ≤ a.len) && decide (a.len ≤ 512)

/-- A request slot carries at most 16 data bytes (Table 3.18). -/
def Reply.wf (r : Reply) : Bool := decide (r.data.length ≤ 16)

/-- Well-formed commands. -/
def Instr.wf : Instr → Bool
  | .canFrameReceived _ f t => f.wf && wfTime t
  | .canTxEntryOwn _ _ _ _ _ _ d => decide (d.length ≤ 2048)
  | .pcieMemoryAccess a => a.wf
  | .forwardedCommand _ _ p => wfEntry p
  | .bridgeResponse _ _ _ _ p => wfEntry p
  | .serviceCopyReturn _ _ _ rs safe t => rs.all Reply.wf && decide (rs.length ≤ 64) && decide (safe.length ≤ 2048) && wfTime t
  | .discoveryCopyReturn _ _ _ _ rs t => decide (rs.length ≤ 64) && wfTime t
  | .delayCopyReturn _ _ _ _ _ rs t => decide (rs.length ≤ 64) && wfTime t
  | .memberHealth _ _ c t => wfCycle c && wfTime t
  | .leaseGrant g t => wfCycle g.cycle && wfTime t
  | .swapAck e => wfCycle e
  | .swapNotice e => wfCycle e
  | .referenceMessage _ f t => decide (f.data.length ≤ 64) && wfTime t
  | .scrubPass l => decide (l.length ≤ 5)
  | .sysIdent _ p => wfEntry p
  | .sysReset _ p => wfEntry p
  | .sysNop _ p => wfEntry p
  | .modeRead _ p => wfEntry p
  | .modeSet _ p => wfEntry p
  | .gearRead _ p => wfEntry p
  | .gearSet _ p => wfEntry p
  | .gearShift _ p => wfEntry p
  | .tableWinWrite _ p => wfEntry p
  | .tableMapWrite _ p => wfEntry p
  | .tableNodeWrite _ p => wfEntry p
  | .tableBudgetWrite _ p => wfEntry p
  | .tableRead _ p => wfEntry p
  | .tableStage _ p => wfEntry p
  | .tableCommit _ p => wfEntry p
  | .chainCfgWrite _ p => wfEntry p
  | .chainCfgRead _ p => wfEntry p
  | .chainSupvWrite _ p => wfEntry p
  | .chainGuardWrite _ p => wfEntry p
  | .chainMissAtWrite _ p => wfEntry p
  | .chainSupvRead _ p => wfEntry p
  | .chainNodeRead _ p => wfEntry p
  | .chainNodeWrite _ p => wfEntry p
  | .chainDescRead _ p => wfEntry p
  | .chainCensusRead _ p => wfEntry p
  | .chainDelayRead _ p => wfEntry p
  | .timeRead _ p => wfEntry p
  | .timeStage _ p => wfEntry p
  | .timeRate _ p => wfEntry p
  | .timeCpWrite _ p => wfEntry p
  | .timeCapCfg _ p => wfEntry p
  | .timeCapRead _ p => wfEntry p
  | .axisEnable _ p => wfEntry p
  | .axisDisable _ p => wfEntry p
  | .axisStatusRead _ p => wfEntry p
  | .axisPrfCfgWrite _ p => wfEntry p
  | .axisPrfCfgRead _ p => wfEntry p
  | .axisMissWindow _ p => wfEntry p
  | .axisStreamInfo _ p => wfEntry p
  | .axisAuxWrite _ p => wfEntry p
  | .moveStart _ p => wfEntry p
  | .moveQuickStop _ p => wfEntry p
  | .moveHold _ p => wfEntry p
  | .moveResume _ p => wfEntry p
  | .moveAbort _ p => wfEntry p
  | .moveSetStop _ p => wfEntry p
  | .loopCfgWrite _ p => wfEntry p
  | .loopCfgRead _ p => wfEntry p
  | .loopCurWrite _ p => wfEntry p
  | .loopCoefWrite _ p => wfEntry p
  | .loopParamWrite _ p => wfEntry p
  | .loopReady _ p => wfEntry p
  | .loopSwap _ p => wfEntry p
  | .loopCoefRead _ p => wfEntry p
  | .pulsePinCfg _ p => wfEntry p
  | .pulseStpCfg _ p => wfEntry p
  | .pulseRead _ p => wfEntry p
  | .feedbackCfgWrite _ p => wfEntry p
  | .feedbackCfgRead _ p => wfEntry p
  | .feedbackResultRead _ p => wfEntry p
  | .feedbackSingleRead _ p => wfEntry p
  | .adcCfgWrite _ p => wfEntry p
  | .adcSeqWrite _ p => wfEntry p
  | .adcStart _ p => wfEntry p
  | .adcResultRead _ p => wfEntry p
  | .adcStatRead _ p => wfEntry p
  | .envRead _ p => wfEntry p
  | .envClampRead _ p => wfEntry p
  | .safeCfgWrite _ p => wfEntry p
  | .safeZoneWrite _ p => wfEntry p
  | .safeAxisWrite _ p => wfEntry p
  | .safeSiWrite _ p => wfEntry p
  | .safeRead _ p => wfEntry p
  | .safeConfirm _ p => wfEntry p
  | .safeDemand _ p => wfEntry p
  | .safeStatus _ p => wfEntry p
  | .twinCfgWrite _ p => wfEntry p
  | .twinStatus _ p => wfEntry p
  | .twinSwap _ p => wfEntry p
  | .clusterCfgWrite _ p => wfEntry p
  | .clusterStatus _ p => wfEntry p
  | .clusterMoveAxis _ p => wfEntry p
  | .canCfgWrite _ p => wfEntry p
  | .canFilterWrite _ p => wfEntry p
  | .canSchedWrite _ p => wfEntry p
  | .canSafeWrite _ p => wfEntry p
  | .canAbort _ p => wfEntry p
  | .canRecover _ p => wfEntry p
  | .canInfo _ p => wfEntry p
  | .canRead _ p => wfEntry p
  | .traceCfgWrite _ p => wfEntry p
  | .traceSigWrite _ p => wfEntry p
  | .traceTrigWrite _ p => wfEntry p
  | .traceArm _ p => wfEntry p
  | .traceStop _ p => wfEntry p
  | .traceStatus _ p => wfEntry p
  | .filterJobStart _ p => wfEntry p
  | .filterJobStatus _ p => wfEntry p
  | .filterJobAbort _ p => wfEntry p
  | .eventClassWrite _ p => wfEntry p
  | .eventClassRead _ p => wfEntry p
  | .bbrRead _ p => wfEntry p
  | .bbrWrite _ p => wfEntry p
  | .fwWrite _ p => wfEntry p
  | .fwVerify _ p => wfEntry p
  | .fwActivate _ p => wfEntry p
  | .fwInfo _ p => wfEntry p
  | .diagActRead _ p => wfEntry p
  | .diagHeadroomRead _ p => wfEntry p
  | .diagChainCounters _ p => wfEntry p
  | .diagSchedRead _ p => wfEntry p
  | .diagQueueSnapshot _ p => wfEntry p
  | .diagLoopCounters _ p => wfEntry p
  | .diagCanCounters _ p => wfEntry p
  | .diagCoreTest _ p => wfEntry p
  | .diagMemStatus _ p => wfEntry p
  | .cmdqTailWrite _ => true
  | .rspqHeadWrite _ => true
  | .evtqHeadWrite _ => true
  | .irqPendWrite _ _ => true
  | .irqMaskWrite _ _ => true
  | .irqRouteWrite _ _ => true
  | .registerWrite _ _ => true
  | .envKeyWrite _ _ => true
  | .envDataWrite _ _ => true
  | .rxqTailWrite _ _ => true
  | .rxwRead _ => true
  | .qspiWrite _ _ _ => true
  | .qspiRead _ _ _ => true
  | .perstAssert => true
  | .perstRelease => true
  | .hostLink _ _ => true
  | .msixPendingSend _ _ => true
  | .eventLost => true
  | .cycleBoundary _ => true
  | .cyclePoint _ => true
  | .serviceFrameLaunch _ => true
  | .openFrameLaunch _ => true
  | .beaconLaunch _ => true
  | .discoveryLaunch _ => true
  | .acyclicFill _ _ => true
  | .missInstant _ => true
  | .candidateSpoke _ _ _ _ t => wfTime t
  | .copyConfirm _ _ _ t => wfTime t
  | .claimFrameReceived _ _ t => wfTime t
  | .beaconReceived _ _ t => wfTime t
  | .foreignFrame _ => true
  | .passThroughForward _ _ t => wfTime t
  | .linkUp _ _ t => wfTime t
  | .linkDown _ _ t => wfTime t
  | .phyStatusPoll _ t => wfTime t
  | .listenEnd => true
  | .claimPeriod => true
  | .ppsEdge t => wfTime t
  | .rateStep => true
  | .leaseRenewal => true
  | .silenceCheck => true
  | .leaseLapse => true
  | .takeover => true
  | .heartbeatReceived _ t => wfTime t
  | .syncLinkLock _ => true
  | .syncLinkChange _ => true
  | .copyControlBlock _ _ _ t => wfTime t
  | .forwardedChange _ _ t => wfTime t
  | .configRefreshDone _ => true
  | .memberLost _ => true
  | .memberJoined _ _ _ => true
  | .claimReport _ _ => true
  | .bridgeChange _ => true
  | .swapDue => true
  | .dispatch _ => true
  | .spillReturn _ => true
  | .itemComplete _ _ _ t => wfTime t
  | .release _ t => wfTime t
  | .itemDeadline => true
  | .dispatchAckTimeout _ => true
  | .occupancyLimit _ => true
  | .limitDebounced _ _ _ => true
  | .pulseInputStep _ _ t => wfTime t
  | .stepPulse _ => true
  | .stepRateExpiry _ => true
  | .encoderRequest _ => true
  | .encoderRequestEdge _ t => wfTime t
  | .encoderStartEdge _ t => wfTime t
  | .encoderTimeout _ => true
  | .encoderWordDone _ _ => true
  | .quadratureEdge _ _ t => wfTime t
  | .incrementalLatch _ => true
  | .indexEdge _ t => wfTime t
  | .captureEdge _ _ t => wfTime t
  | .adcTimeTrigger _ => true
  | .conversionDone _ v => decide (0 < v.internal) && decide (0 < v.external) && decide (0 < v.supply)
  | .mainsCrossing _ t => wfTime t
  | .mainsLockTimeout _ => true
  | .refSettled _ => true
  | .envKeyTimeout => true
  | .envLockoutEnd => true
  | .envPathTimeout => true
  | .envWeFall => true
  | .envSealUpdateDone => true
  | .sealCheck => true
  | .safeCycleStart _ => true
  | .safeEvaluation _ => true
  | .safeExchangeTimeout => true
  | .safeInputSample _ _ => true
  | .siDiscrepancy _ => true
  | .restartSample _ => true
  | .restartStuck => true
  | .offPulseTest _ _ _ => true
  | .outTestFail _ _ _ => true
  | .canTxOffer _ => true
  | .canTxDone _ t => wfTime t
  | .canError _ _ => true
  | .canRecoveryDone _ => true
  | .ttBasicCycle _ => true
  | .ttWindowStart _ _ _ => true
  | .ttWindowMiss _ _ => true
  | .referenceTimeout _ => true
  | .arbiterGrant _ => true
  | .arbCutoff _ => true
  | .traceRecordWrite => true
  | .faultLogWrite => true
  | .supervisorHeartbeat => true
  | .hardwareWatchdog => true
  | .oscFault _ _ => true
  | .supplyDetector _ _ => true
  | .tempDetector _ => true
  | .vbatLow _ => true
  | .memEccError _ _ _ => true
  | .porstLow => true
  | .resetEnd _ => true
  | .sysResetExpiry => true
  | .railPowerFail _ => true
  | .railsInRange => true
  | .bbrSupplyChangeover _ => true
  | .vbatPowerOnClear => true
  | .bankWake => true
  | .memoryClearDone => true
  | .imageVerified _ => true
  | .selfTestDone _ => true
  | .bootDone => true
  | .extestExit => true
  | .flashOperationDone _ => true
  | .coreTestDone _ _ => true
  | .modeSetTimeout => true
  | .claimOrder _ _ => true
  | .memberEvent _ _ _ _ _ => true
  | .mirroredEvent _ _ _ _ _ => true
  | .copyAcknowledge _ => true
  | .refreshRequest => true
  | .referencesLost _ => true
  | .extestEntry => true

end Sys2Proof
end

