-- ==== Sys2Proof/Decode.lean ====
section
/-!
DEFINITION. The decoder over the operation table: no row of the table gives its command any bits, so no word spells a
command. Commands reach the block as accesses, frames and pin events, never as words of an instruction stream.
-/
namespace Sys2Proof

/-- The command that a word spells by the table's bits: the table gives none (every row's field list is empty). -/
def decodeTableWord (_nbits _w : Nat) : Option Instr := none

end Sys2Proof
end

