-- ==== Sys2Proof/Config.lean ====
section
/-!
DEFINITION. What an implementation fixes and the spec leaves open: constants without a body, so that nothing can be
proved of a value the spec does not give. Each is named in the assumption log.
-/
namespace Sys2Proof.Config

/-- A fresh value for the n-th use of an open value that changes from use to use (the die roll of R116). -/
opaque fresh : Nat → Nat

/-- Serial number of the device and its 32-bit hash (Table 15.2, R67): fixed at production. -/
opaque serial : Nat

/-- 32-bit hash of the serial number. -/
opaque serialHash : BitVec 32

/-- Does an inexact quotient `a / d` round up, where the spec gives no rounding (R202, R207 and others)? -/
opaque roundUp : Int → Nat → Bool

/-- Fused minimum security version (R363). -/
opaque minSvn : BitVec 16

/-- Fused worst-corner period of the ring reference (R43), in the unit in which the present period is measured. -/
opaque fusedRing : Nat

/-- Byte offsets in the BAR2 image of transmit entry 0 and receive entry 0 of CAN port n (CAN.INFO, R321). -/
opaque canTxOffset : Nat → Nat

/-- See `canTxOffset`. -/
opaque canRxOffset : Nat → Nat

/-- Areas that use repair columns (DIAG.MEM_STATUS P6, R430). -/
opaque repairUse : BitVec 5

/-- Entry k of the quarter-wave table of T4, Q1.31 (R176): the spec lists no entries. Used within one unit of the sine. -/
opaque sinTable : Nat → Int

/-- A component scaled by `V_MAX` / |v| in T4 (R176): component, other component, limit; used to choose between the two Q1.31 values
next to the real one. -/
opaque scaleV : Int → Int → Int → Int

/-- Byte i of a filter job's destination after a chunk: kind, log2 N, chunk, P4, P5, source bytes, i (R395): the contents of the
workspace before the job is done and the arithmetic of the notches are not given. -/
opaque filterByte : Nat → Nat → Nat → BitVec 32 → BitVec 32 → List (BitVec 8) → Nat → BitVec 8

/-- Component i of a filter job's result before the final shift of its block: kind, log2 N, P4, P5, source bytes, i (R396): the
rounding of the engine's stages is not given. -/
opaque filterRaw : Nat → Nat → BitVec 32 → BitVec 32 → List (BitVec 8) → Nat → Int

/-- Block exponent of a filter job's result before the final shift (R396), from kind, log2 N and source bytes. -/
opaque filterExp : Nat → Nat → List (BitVec 8) → Int

/-- Peaks a notch suggestion finds (Table 16.6), from P4, P5 and source bytes. -/
opaque filterPeaks : BitVec 32 → BitVec 32 → List (BitVec 8) → Nat

/-- Time from the posting of chunk n of job j to the deadline the job sets for it (Table 8.1). -/
opaque chunkTime : Nat → Nat → Nat

/-- Chunks of a filter job of kinds 2 to 4 after its chirp, from kind, log2 N and P4, P5 (R395). -/
opaque filterChunks : Nat → Nat → BitVec 32 → BitVec 32 → Nat

/-- The chirp u(n) of R397, Q1.31: amplitude, f0, f1, N, n - n_0 and Tc; the rounding of the sine is not given. -/
opaque chirp : Int → Nat → Nat → Nat → Nat → Nat → Int

/-- `SAFE.CFG_ID` of a configuration: the CRC-32C of R261 over its words, in an order of bytes the spec does not give. -/
opaque safeCfgId : List (BitVec 32) → BitVec 32

/-- `TWIN.CFG_ID` of a configuration (R287), likewise. -/
opaque twinCfgId : List (BitVec 32) → BitVec 32

/-- `h_S` of the standby on chain c, as the active knows it at a swap (R307): how it comes to know it is not given. -/
opaque twinHops : Nat → Nat

/-- Rate request that steers the time base back by an offset in ns (R291): the law is not given, its limits are. -/
opaque steer : Int → Int

end Sys2Proof.Config
end

