-- ==== Sys2Proof/Machine/Bits.lean ====
section
/-!
DEFINITION. Bit fields, byte order, fixed-point rounding, saturation and CRC-32C: the helpers every field map of the
spec is read with (R6, R7).
-/
namespace Sys2Proof.Machine

/-- Field `[hi:lo]` of a number (R7: bit 0 is the least significant). -/
def nfld (n hi lo : Nat) : Nat := (n >>> lo) % 2 ^ (hi + 1 - lo)

/-- Field `[hi:lo]` of a word. -/
def fld (w : Word) (hi lo : Nat) : Nat := nfld w.toNat hi lo

/-- Bit `i` of a word. -/
def bit (w : Word) (i : Nat) : Bool := w.toNat.testBit i

/-- A number read as two's complement of `n` bits. -/
def sgn (n : Nat) (v : Nat) : Int :=
  if 2 * (v % 2 ^ n) < 2 ^ n then ((v % 2 ^ n : Nat) : Int) else ((v % 2 ^ n : Nat) : Int) - (2 ^ n : Nat)

/-- Field `[hi:lo]` of a word as a signed number. -/
def sfld (w : Word) (hi lo : Nat) : Int := sgn (hi + 1 - lo) (fld w hi lo)

/-- The low `n` bits of an integer, as two's complement. -/
def ubits (n : Nat) (v : Int) : Nat := (v % (2 ^ n : Nat)).toNat

/-- A word from a natural number (low 32 bits). -/
def wd (n : Nat) : Word := BitVec.ofNat 32 n

/-- A word from an integer (low 32 bits). -/
def wdi (n : Int) : Word := BitVec.ofInt 32 n

/-- 0 or 1. -/
def b2n (b : Bool) : Nat := if b then 1 else 0

/-- A value placed at bit `lo`. -/
def at_ (lo v : Nat) : Nat := v <<< lo

/-- A Boolean placed at bit `lo`. -/
def bitAt (lo : Nat) (b : Bool) : Nat := if b then 2 ^ lo else 0

/-- `w` with field `[hi:lo]` replaced by `v`. -/
def setFld (w : Word) (hi lo v : Nat) : Word :=
  wd (w.toNat - (fld w hi lo) <<< lo + (v % 2 ^ (hi + 1 - lo)) <<< lo)

/-- Is every bit of `w` outside `mask` zero (R8: reserved bits of a payload)? -/
def within (w : Word) (mask : Nat) : Bool := w.toNat == w.toNat &&& mask

/-- Two words, the low one first, as one 64-bit number (R6, R367). -/
def w64 (lo hi : Word) : Nat := lo.toNat + hi.toNat * 2 ^ 32

/-- The two words of a 64-bit number, low first. -/
def words64 (n : Nat) : List Word := [wd n, wd (n / 2 ^ 32)]

/-- The two words of a signed 64-bit number, low first. -/
def words64i (n : Int) : List Word := words64 (ubits 64 n)

/-- Word `i` of a payload; absent words read 0. -/
def pw (p : List Word) (i : Nat) : Word := p.getD i 0

/-- The four bytes of a word, least significant first (R6, R367). -/
def wordBytes (w : Word) : List Byte :=
  [BitVec.ofNat 8 w.toNat, BitVec.ofNat 8 (w.toNat / 2 ^ 8), BitVec.ofNat 8 (w.toNat / 2 ^ 16),
   BitVec.ofNat 8 (w.toNat / 2 ^ 24)]

/-- A little-endian number from bytes. -/
def leNat : List Byte → Nat
  | [] => 0
  | b :: bs => b.toNat + 256 * leNat bs

/-- A big-endian number from bytes (R6: chain frame fields). -/
def beNat (bs : List Byte) : Nat := bs.foldl (fun a b => a * 256 + b.toNat) 0

/-- `n` bytes of a number, least significant first. -/
def leBytes : Nat → Nat → List Byte
  | 0, _ => []
  | n + 1, v => BitVec.ofNat 8 v :: leBytes n (v / 256)

/-- `n` bytes of a number, most significant first. -/
def beBytes (n v : Nat) : List Byte := (leBytes n v).reverse

/-- Four bytes to a word (R367: byte 4k + j in bits 8j + 7:8j of word k). -/
def bytesWord (bs : List Byte) : Word := wd (leNat (bs.take 4))

/-- Byte string packed four to a word (R367); `n` words. -/
def packWords : Nat → List Byte → List Word
  | 0, _ => []
  | n + 1, bs => bytesWord bs :: packWords n (bs.drop 4)

/-- Saturation to a signed field of `n` bits. -/
def satS (n : Nat) (v : Int) : Int :=
  if v > (2 ^ (n - 1) : Nat) - 1 then (2 ^ (n - 1) : Nat) - 1 else if v < -(2 ^ (n - 1) : Nat) then -(2 ^ (n - 1) : Nat) else v

/-- Does `v` fit a signed field of `n` bits? -/
def fitsS (n : Nat) (v : Int) : Bool := satS n v == v

/-- Saturation to an unsigned field of `n` bits. -/
def satU (n : Nat) (v : Int) : Nat := if v < 0 then 0 else if v > (2 ^ n : Nat) - 1 then 2 ^ n - 1 else v.toNat

/-- A 64-bit two's complement value (R148). -/
def wrap64 (v : Int) : Int := sgn 64 (ubits 64 v)

/-- A 32-bit counter adds and saturates (R40). -/
def cadd (c n : Nat) : Nat := min (c + n) 0xFFFF_FFFF

/-- Clamp between two bounds. -/
def clampI (lo hi v : Int) : Int := if v > hi then hi else if v < lo then lo else v

/-- Division by a positive number, to the nearest, ties to even (R54, R147). -/
def divRne (a : Int) (d : Nat) : Int :=
  if d = 0 then 0 else
  if 2 * (a % (d : Int)) < d then a / (d : Int)
  else if 2 * (a % (d : Int)) > d then a / (d : Int) + 1
  else if (a / (d : Int)) % 2 = 0 then a / (d : Int) else a / (d : Int) + 1

/-- Arithmetic right shift by `n` with round half to even (R147). -/
def shrRne (a : Int) (n : Nat) : Int := divRne a (2 ^ n)

/-- Bits 0 to n-1 of a number that are set, ascending. -/
def setBits (n v : Nat) : List Nat := (List.range n).filter (fun i => v.testBit i)

/-- The number whose set bits are listed. -/
def ofBits (l : List Nat) : Nat := l.foldl (fun a i => a ||| 2 ^ i) 0

/-- A number with one bit set or cleared. -/
def putBit (v i : Nat) (b : Bool) : Nat :=
  if b then v ||| 2 ^ i else if v.testBit i then v - 2 ^ i else v

/-- Eight steps of the reflected CRC-32C (polynomial 0x82F6_3B78, the Castagnoli polynomial reversed). -/
def crcBits : Nat → Nat → Nat
  | 0, c => c
  | n + 1, c => crcBits n (if c % 2 = 1 then (c >>> 1) ^^^ 0x82F63B78 else c >>> 1)

/-- CRC-32C register over bytes. -/
def crcBytes (c : Nat) : List Byte → Nat
  | [] => c
  | b :: bs => crcBytes (crcBits 8 (c ^^^ b.toNat)) bs

/-- CRC-32C of a byte string, initial value and final inversion all ones (the CRC the seals, the safe PDUs and the
configuration words use). -/
def crc32c (bs : List Byte) : Nat := crcBytes 0xFFFFFFFF bs ^^^ 0xFFFFFFFF

/-- CRC-32C over words, each taken as 4 bytes least significant first (R434). -/
def crcWords (ws : List Word) : Nat := crc32c (ws.flatMap wordBytes)

/-- Insertion into a list in order; an equal element keeps its place before the new one. -/
def insertBy {α : Type} (le : α → α → Bool) (x : α) : List α → List α
  | [] => [x]
  | y :: l => if le y x then y :: insertBy le x l else x :: y :: l

/-- A list in order, equal elements as they stood. -/
def sortBy {α : Type} (le : α → α → Bool) (l : List α) : List α := l.foldl (fun a x => insertBy le x a) []

end Sys2Proof.Machine
end

