-- ==== Sys2Proof/Machine/Tbl.lean ====
section
/-!
DEFINITION. Tables by number and memory by byte address. A table holds what differs from its default; memory is kept in
one canonical form (addresses strictly rising, no entry equal to what an unlisted address reads as, R427).
-/
namespace Sys2Proof.Machine

/-- A table by number: axes, spokes, nodes, queue words and the like. -/
abbrev Tbl (α : Type) := List (Nat × α)

/-- The entry of number `k`, `d` where none is listed. -/
def Tbl.get {α : Type} (d : α) : Tbl α → Nat → α
  | [], _ => d
  | (j, v) :: t, k => if j = k then v else Tbl.get d t k

/-- The table with entry `k` set to `v`, kept in rising order of its numbers. -/
def Tbl.put {α : Type} : Tbl α → Nat → α → Tbl α
  | [], k, v => [(k, v)]
  | (j, w) :: t, k, v =>
    if k < j then (k, v) :: (j, w) :: t else if j = k then (k, v) :: t else (j, w) :: Tbl.put t k v

/-- Entries `k`, `k + 1`, ... set to the listed values. -/
def Tbl.putRange {α : Type} (t : Tbl α) (k : Nat) : List α → Tbl α
  | [] => t
  | v :: vs => Tbl.putRange (Tbl.put t k v) (k + 1) vs

/-- `n` entries from `k`. -/
def Tbl.getRange {α : Type} (d : α) (t : Tbl α) (k n : Nat) : List α :=
  (List.range n).map (fun i => Tbl.get d t (k + i))

/-- Change entry `k`. -/
def Tbl.upd {α : Type} (d : α) (t : Tbl α) (k : Nat) (f : α → α) : Tbl α := Tbl.put t k (f (Tbl.get d t k))

/-- Byte memory: the canonical list of (address, byte) pairs (R350, R426). -/
abbrev Memory := List Host.Cell

/-- What an address that the list does not hold reads as: 0, as the memory clear leaves it (R427). -/
def Memory.blank : Byte := 0

/-- One byte of memory. -/
def Memory.read : Memory → Nat → Byte
  | [], _ => Memory.blank
  | (j, b) :: m, a => if j = a then b else Memory.read m a

/-- Memory with one byte written; the canonical form is kept. -/
def Memory.write : Memory → Nat → Byte → Memory
  | [], a, b => if b = Memory.blank then [] else [(a, b)]
  | (j, c) :: m, a, b =>
    if a < j then (if b = Memory.blank then (j, c) :: m else (a, b) :: (j, c) :: m)
    else if j = a then (if b = Memory.blank then m else (a, b) :: m)
    else (j, c) :: Memory.write m a b

/-- Every address listed in `m` is above `a`. -/
def Memory.above (a : Nat) : Memory → Bool
  | [] => true
  | (j, _) :: m => decide (a < j) && Memory.above a m

/-- The canonical form: addresses strictly rising and no entry equal to the blank byte. -/
def Memory.wf : Memory → Bool
  | [] => true
  | (j, b) :: m => decide (b ≠ Memory.blank) && Memory.above j m && Memory.wf m

/-- Bytes written from address `a` upward. -/
def Memory.writeBytes (m : Memory) (a : Nat) : List Byte → Memory
  | [] => m
  | b :: bs => Memory.writeBytes (Memory.write m a b) (a + 1) bs

/-- `n` bytes read from address `a` upward. -/
def Memory.readBytes (m : Memory) (a n : Nat) : List Byte := (List.range n).map (fun i => Memory.read m (a + i))

/-- A 32-bit word, least significant byte first (R6). -/
def Memory.readWord (m : Memory) (a : Nat) : Word :=
  BitVec.ofNat 32 ((Memory.read m a).toNat + 256 * (Memory.read m (a + 1)).toNat
    + 65536 * (Memory.read m (a + 2)).toNat + 16777216 * (Memory.read m (a + 3)).toNat)

/-- A 32-bit word written, least significant byte first (R6). -/
def Memory.writeWord (m : Memory) (a : Nat) (w : Word) : Memory :=
  Memory.writeBytes m a [BitVec.ofNat 8 w.toNat, BitVec.ofNat 8 (w.toNat / 256), BitVec.ofNat 8 (w.toNat / 65536),
    BitVec.ofNat 8 (w.toNat / 16777216)]

end Sys2Proof.Machine
end

