-- ==== Sys2Proof/Machine/StHost.lean ====
section
/-!
DEFINITION. State of the host port, the queues, interrupts, the envelope path, the battery-backed registers and the
firmware slots (chapters 11, 14 and 18).
-/
namespace Sys2Proof.Machine

/-- A taken command whose response is still to be written (R354, R372). -/
structure MsgRef where
  opcode : Nat := 0
  tag : Byte := 0
  quiet : Bool := false
  /-- The command came over the bridge from the lead (R312). -/
  viaBridge : Bool := false
  /-- Time from its taking to its arrival at the unit that carries it out, ns. -/
  lag : Nat := 0
  /-- The safety channels disagree on `SAFE.CFG_ID` at the exit from CONFIGURE (R261). -/
  cfgDiffer : Bool := false
  /-- The source of an axis move, on another member, holds a queued move (R221). -/
  queued : Bool := false
  deriving DecidableEq, Repr

/-- A QSPI write held under R351: the 24-bit image address and its bytes. -/
abbrev HeldWrite := Nat × List Byte

/-- Host port (Tables 14.3 to 14.5, R345 to R361). -/
structure HostPort where
  /-- `HS.GEN` (R345). -/
  gen : Nat := 0
  /-- `HS.X2`. -/
  x2 : Bool := false
  /-- PERST# is low (R346). -/
  perst : Bool := false
  /-- The firmware runs, so `HP_IDENT` shows its version (Table 14.5). -/
  fwRunning : Bool := false
  mbxReady : Bool := false
  loader : Bool := false
  imageB : Bool := false
  fallback : Bool := false
  dbErr : Bool := false
  qspiDrop : Bool := false
  evtLost : Bool := false
  cmdTail : Nat := 0
  cmdHead : Nat := 0
  rspHead : Nat := 0
  rspTail : Nat := 0
  evtHead : Nat := 0
  evtTail : Nat := 0
  /-- Commands taken whose response is not yet written: reserved slots (R354). -/
  reserved : Nat := 0
  /-- Command queue area, 64 entries of 64 words. -/
  cmdMem : Tbl Word := []
  /-- Response queue area, 64 entries of 64 words. -/
  rspMem : Tbl Word := []
  /-- Event queue area, 256 entries of 4 words. -/
  evtMem : Tbl Word := []
  /-- Entries lost since the last EVENT_LOST entry (R359). -/
  lost : Nat := 0
  deriving DecidableEq, Repr

/-- Interrupts and MSI-X (R360, R345). -/
structure Irq where
  /-- Bit e of `IRQ_PEND0..3` as one number. -/
  pend : Nat := 0
  /-- Bit e of `IRQ_MASK0..3`; 1 = masked. -/
  mask : Nat := 2 ^ 128 - 1
  route : Tbl Word := []
  msixEnabled : Bool := false
  /-- MSI-X table, 4 words per vector: address, address, data, vector control. -/
  msixTable : Tbl Word := []
  /-- MSI-X pending-bit array. -/
  pba : Nat := 0
  /-- Messages sent, per vector: the port's output, counted. -/
  sent : Tbl Nat := []
  /-- Tick of the last event signalled, and the events of that tick: a clearing write in it leaves their bits set (R360). -/
  risenAt : Nat := 0
  risen : Nat := 0
  deriving DecidableEq, Repr

/-- Window, held accesses and the data the last read returned (R347 to R351). -/
structure PortData where
  winBase : Nat := 0
  winRotate : Bool := false
  qspiHeld : List HeldWrite := []
  pcieHeld : List MemAccess := []
  /-- Data of the paused read at the head of the held accesses, as far as it went (R37). -/
  partData : List Byte := []
  /-- Data of the last completed read. -/
  readData : List Byte := []
  /-- Ready byte of the last QSPI read (R347). -/
  readyByte : Byte := 0
  deriving DecidableEq, Repr

/-- Envelope path (R254 to R256, Table 11.4). -/
structure EnvPath where
  /-- The first key word has been taken; its time, ns. -/
  firstKey : Option Nat := none
  /-- Level of the ENV_WE ball. -/
  we : Bool := false
  unlocked : Bool := false
  /-- Key lockout until this time (R254). -/
  lockout : Option Nat := none
  /-- A seal update runs (R255). -/
  busy : Bool := false
  /-- Data writes held while BUSY, oldest first, with their addresses (R255). -/
  held : List (Nat × Word) := []
  /-- `ENV_ADDR`. -/
  addr : Nat := 0
  /-- Time of the last data write or of the unlock. -/
  lastWrite : Nat := 0
  /-- Words written since the unlock. -/
  written : Nat := 0
  /-- The word whose seal update runs. -/
  busyWord : Nat := 0
  /-- Pairs that take effect at the next boundary: their odd word has been written and sealed. -/
  nextWords : Tbl Word := []
  /-- Envelope words in force, by word 2i, 2i + 1 (R255). -/
  inForce : Tbl Word := []
  deriving DecidableEq, Repr

/-- Battery-backed registers: 1,024 words (R431), and what the checks last found of each seal (R434). -/
structure Bbr where
  words : Tbl Word := []
  /-- Seal of region r was valid at the last check. -/
  ok0 : Bool := false
  ok1 : Bool := false
  ok2 : Bool := false
  ok3 : Bool := false
  /-- Region whose write operation is running (R434). -/
  running : Option Nat := none
  /-- The supply in use: true VBAT (R425). -/
  onVbat : Bool := false
  deriving DecidableEq, Repr

/-- One firmware slot as the device knows it (R362 to R365, R384). -/
structure FwSlot where
  header : Option ImageHeader := none
  headerValid : Bool := false
  /-- Last verification passed after the last write. -/
  verified : Bool := false
  /-- Per 4 KiB sector: end of the last chunk written since its erase; none = the next chunk erases it (R384). -/
  ends : Tbl Nat := []
  deriving DecidableEq, Repr

/-- A running firmware stage (R365). -/
inductive FwStage where
  | write (slotB : Bool) (off : Nat) (data : List Word)
  | verify (slotB : Bool)
  deriving DecidableEq, Repr

/-- Firmware update state (R362 to R365, R384). -/
structure Fw where
  a : FwSlot := {}
  b : FwSlot := {}
  stage : Option (FwStage × MsgRef) := none
  /-- Boot flash contents programmed by FW.WRITE, by byte address. -/
  flash : Memory := []
  deriving DecidableEq, Repr

end Sys2Proof.Machine
end

