-- ==== Sys2Proof/Machine/StAxis.lean ====
section
/-!
DEFINITION. State of an axis: coefficient sets, loop state, feedback, profile generator, counters (chapters 6, 7 and 9; formats of R145,
templates of R152),
and of the work scheduler (chapter 8).
-/
namespace Sys2Proof.Machine

/-- A coefficient set (R146, R149, Tables 6.2 and 6.3). -/
structure CoefSet where
  /-- `COEF.M` by index. -/
  m : Tbl Word := []
  /-- Word 1 of each entry, `COEF.S` in bits 5:0. -/
  s : Tbl Word := []
  /-- Parameter words P0 to P7. -/
  p : Tbl Word := []
  gear : Nat := 0
  ready : Bool := false
  deriving DecidableEq, Repr

/-- Loop state of the axis record (R143, R153 to R156). -/
structure LoopState where
  i : Int := 0
  /-- Values at n - 1 and n - 2 of the section inputs and outputs u0 to u3. -/
  u0a : Int := 0
  u0b : Int := 0
  u1a : Int := 0
  u1b : Int := 0
  u2a : Int := 0
  u2b : Int := 0
  u3a : Int := 0
  u3b : Int := 0
  /-- The previous cycle's y was clamped at +`U_LIM` or -`U_LIM` (R154). -/
  clampP : Bool := false
  clampN : Bool := false
  /-- T3 (R156). -/
  xPrev : Int := 0
  dPrev : Int := 0
  /-- First cycle after enable. -/
  first : Bool := true
  /-- Rounded p_ref of the cycle before (T6 with step output). -/
  stepPrev : Int := 0
  deriving DecidableEq, Repr

/-- T4 state (R176, Table 7.5). -/
structure CurState where
  xd : Int := 0
  xq : Int := 0
  thPrev : Nat := 0
  iqRef : Int := 0
  /-- The outer result that passed the envelope in the last cycle, and the one that passed it in this cycle (R173). -/
  y : Int := 0
  yNext : Option Int := none
  /-- The q reference carried in the copy, until an outer result of this device replaces it (R182). -/
  iqCopied : Option Int := none
  limited : Bool := false
  vd : Int := 0
  vq : Int := 0
  /-- Duties last released (`CST.DUTY`). -/
  dutyA : Nat := 0
  dutyB : Nat := 0
  dutyC : Nat := 0
  /-- nu = 0 in the next run: first cycle after enable or takeover. -/
  fresh : Bool := true
  deriving DecidableEq, Repr

/-- Feedback of the axis (R148, R164). -/
structure AxisFb where
  /-- Extended position, Q32.32, of the last confirmed feedback. -/
  pos : Int := 0
  /-- A confirmed value has been taken since the enable or assignment. -/
  known : Bool := false
  /-- A confirmed position has been taken since reset (R252). -/
  seen : Bool := false
  /-- Velocity, Q16.16. -/
  vel : Int := 0
  /-- `SPK.POS` as process value (T3). -/
  proc : Int := 0
  status : Nat := 0
  error : Nat := 0
  /-- Phase currents word of the last confirmed spoke (T4). -/
  currents : Word := 0
  /-- Extended position one cycle before, and whether it is a confirmed neighbour (R174). -/
  posPrev : Int := 0
  prevOk : Bool := false
  /-- A candidate of this cycle was confirmed. -/
  confirmed : Bool := false
  /-- The last cycle ran on held feedback. -/
  held : Bool := false
  deriving DecidableEq, Repr

/-- A move record as the generator keeps it (Table 9.1). -/
structure Move where
  /-- Absolute target (position moves), Q32.32. -/
  target : Int := 0
  /-- Relative distance still to be resolved (a queued relative move). -/
  rel : Option Int := none
  /-- The target was given as a distance, now resolved (`PR.KIND`, Table 12.8). -/
  wasRel : Bool := false
  jog : Bool := false
  scurve : Bool := false
  /-- Position move: velocity limit; jog: signed velocity; Q16.16. -/
  v : Int := 0
  /-- Q8.24. -/
  acc : Nat := 0
  dec : Nat := 0
  /-- Q0.32. -/
  jerk : Nat := 0
  deriving DecidableEq, Repr

/-- One segment of a plan: duration in ns and jerk, Q32.32 counts per cycle³ of the plan's cycle. -/
abbrev Seg := Nat × Int

/-- A plan in time (R202, R207): start boundary, cycle length of its units, start values and segments. -/
structure Plan where
  t0 : Nat := 0
  tc : Nat := 31250
  p0 : Int := 0
  v0 : Int := 0
  a0 : Int := 0
  segs : List Seg := []
  /-- Value at the end: position target of a move, or velocity target of a ramp. -/
  vEnd : Int := 0
  deriving DecidableEq, Repr

/-- What the generator is doing or has interrupted (R201, R205, R208). -/
inductive Activity where
  | none
  | move (m : Move)
  | source
  deriving DecidableEq, Repr

/-- Profile generator (R197, R198, R206). -/
structure Gen where
  /-- `PRF.STATE`, Table 9.2. -/
  st : Nat := 0
  p : Int := 0
  v : Int := 0
  a : Int := 0
  act : Activity := .none
  /-- Queued move with its start cycle (R205, R378). -/
  queued : Option (Move × Nat) := none
  /-- A MOVE waiting for its start cycle (R378). -/
  pend : Option (Move × Nat) := none
  /-- The accepted stop has not yet met a PROFILE_STEP. -/
  rampNew : Bool := false
  /-- The interrupted activity was discarded by an ABORT: the ramp ends IDLE, or LIMIT_STOPPED with nothing kept. -/
  discard : Bool := false
  /-- The selected source is engaged in the next step (enable or source change). -/
  engageNew : Bool := false
  /-- A resumed S-curve is to be planned in the next step (R202, R208). -/
  planNew : Bool := false
  /-- Deceleration of the running ramp, Q8.24; its jerk, 0 = trapezoidal. -/
  rampDec : Nat := 0
  rampJerk : Nat := 0
  plan : Option Plan := none
  /-- `PRF.END`, `PRF.REMAIN`, `PRF.TARGET`. -/
  endCause : Nat := 0
  remain : Int := 0
  target : Int := 0
  limP : Bool := false
  limN : Bool := false
  /-- LIMIT_HIT already raised for the limit while it stays active. -/
  hitP : Bool := false
  hitN : Bool := false
  /-- Set-point handed to the loop: p_ref Q32.32, v_ref and a_ref Q16.16. -/
  pRef : Int := 0
  vRef : Int := 0
  aRef : Int := 0
  /-- Soft-start ramp: the set-point s (R163). -/
  soft : Option Int := none
  /-- A soft start begins in the next step (enable, source change or RESUME). -/
  softNew : Bool := false
  deriving DecidableEq, Repr

/-- Set-point source values taken at the boundary (R27, R160, R161, R218). -/
structure SrcState where
  /-- Stream or converter set-point: p Q32.32, v and a Q16.16. -/
  p : Int := 0
  v : Int := 0
  a : Int := 0
  /-- Pulse source: `OFFSET`, and the fine value of the cycle before. -/
  offset : Int := 0
  finePrev : Int := 0
  engaged : Bool := false
  deriving DecidableEq, Repr

/-- Axis loop counters (Table 6.13) and envelope clamp count (R253). -/
structure AxisCounters where
  held : Nat := 0
  late : Nat := 0
  usat : Nat := 0
  isat : Nat := 0
  clamps : Nat := 0
  deriving DecidableEq, Repr

/-- The command that last left the device for the axis (R21, R252, R298). -/
structure Released where
  mode : Nat := 0
  target : Int := 0
  ff1 : Int := 0
  ff2 : Int := 0
  /-- A command has left since the last reset or enable. -/
  valid : Bool := false
  /-- Clamped in this cycle, counted once (R253). -/
  clamped : Bool := false
  deriving DecidableEq, Repr

/-- Values of the last loop and profile items that an acquisition can record and no other field holds (Table 16.2), with the
cycle, plus 1, in which each last completed (R387). -/
structure AxisObs where
  ep : Int := 0
  ev : Int := 0
  /-- Template output before the envelope. -/
  y : Int := 0
  ia : Int := 0
  ib : Int := 0
  id : Int := 0
  iq : Int := 0
  loopAt : Nat := 0
  profAt : Nat := 0
  deriving DecidableEq, Repr

/-- The test signal a kind 2 filter job adds to the axis's output: first cycle n_0, N, amplitude, frequencies, Tc and the
capture area (R397). -/
structure Inject where
  n0 : Nat := 0
  n : Nat := 64
  amp : Int := 0
  f : Word := 0
  area : Nat := 0
  deriving DecidableEq, Repr

/-- Position, velocity and process value an item runs on (R148, R164, R174, R234). -/
structure FbView where
  pos : Int := 0
  vel : Int := 0
  proc : Int := 0
  deriving DecidableEq, Repr

/-- What a template reads. -/
structure LoopIn where
  pRef : Int := 0
  vRef : Int := 0
  aRef : Int := 0
  pFb : Int := 0
  vFb : Int := 0
  proc : Int := 0
  pLoad : Int := 0
  /-- The cycle runs on held feedback (R164). -/
  held : Bool := false
  deriving DecidableEq, Repr

/-- A set-point as handed to the loop: p, v and a. -/
structure SetPoint where
  p : Int := 0
  v : Int := 0
  a : Int := 0
  deriving DecidableEq, Repr

/-- Kinds of work items (Table 8.1). -/
inductive ItemKind where
  | current
  | axis
  | outer
  | profile
  | filter
  | house
  deriving DecidableEq, Repr

/-- Where an item stands. -/
inductive Stage where
  | queued
  | spilled
  | running (x : Executor) (since : Nat)
  /-- Completed, its result waiting for release (R189). -/
  | done
  deriving DecidableEq, Repr

/-- A computed result on its way to release. -/
structure Result where
  mode : Nat := 0
  target : Int := 0
  ff1 : Int := 0
  ff2 : Int := 0
  deriving DecidableEq, Repr

/-- A work item (Table 8.2). -/
structure Item where
  kind : ItemKind := .axis
  level : Nat := 1
  axis : Nat := 0
  chain : Nat := 0
  spoke : Nat := 0
  held : Bool := false
  flow : Option Nat := none
  fseq : Nat := 0
  charge : Nat := 0
  /-- Deadline, ns of the time base. -/
  deadline : Nat := 0
  posted : Nat := 0
  arg : Nat := 0
  /-- Cycle in which it was posted. -/
  cycle : Nat := 0
  stage : Stage := .queued
  /-- Deferred in this cycle: passed over until the boundary (R185). -/
  passed : Bool := false
  /-- The copy it runs on was discarded: its result goes nowhere (R19). -/
  dead : Bool := false
  /-- Copy whose candidate it runs on: none = held or local. -/
  copyB : Option Bool := none
  /-- Feedback read when the item was posted, and what it gives the template. -/
  fb : Feedback := {}
  view : FbView := {}
  /-- The set-point of the item's cycle, kept when the profile step of a later cycle completes first (R20). -/
  sp : Option SetPoint := none
  /-- Holds a shared release entry (R190). -/
  shared : Bool := false
  /-- The coefficient set was taken at dispatch: set then active (R151). -/
  set : CoefSet := {}
  /-- The axis record as it stood when the item started (R143). -/
  inp : LoopIn := {}
  ls : LoopState := {}
  cs : CurState := {}
  /-- A shift between G2 and G3 began while it ran: its result is rescaled, up or down (R54). -/
  units : Option Bool := none
  result : Result := {}
  deriving DecidableEq, Repr

/-- What the items of a cycle have changed in an axis record, as it stood before them: it comes back when the copy they ran on
is discarded (R19, R181). -/
structure Undo where
  loop : LoopState := {}
  curst : CurState := {}
  rel : Released := {}
  deriving DecidableEq, Repr

/-- One local axis. -/
structure Axis where
  /-- `LOOP.CFG` w0 to w2. -/
  cfg0 : Word := 0
  cfg1 : Word := 0
  cfg2 : Word := 0
  /-- Set-point source and soft bit waiting for the next boundary (R162): a new w0. -/
  srcNext : Option Word := none
  cur : Word := 0
  prf0 : Word := 0
  prf1 : Word := 0
  prf2 : Word := 0
  enabled : Bool := false
  /-- `CTRL.AUX` and `BRAKE_REL` as written, and in force from the boundary (R377). -/
  aux : Nat := 0
  brake : Bool := false
  auxNow : Nat := 0
  brakeNow : Bool := false
  /-- Fault acknowledgement asked for, and cycles left of a running one. -/
  ackNew : Bool := false
  ackLeft : Nat := 0
  act : CoefSet := {}
  sh : CoefSet := {}
  loop : LoopState := {}
  curst : CurState := {}
  fb : AxisFb := {}
  load : AxisFb := {}
  gen : Gen := {}
  src : SrcState := {}
  cnt : AxisCounters := {}
  rel : Released := {}
  obs : AxisObs := {}
  inj : Option Inject := none
  /-- Window of class 1 for the axis: as written, and in force (R86, R408). -/
  missN : Nat := 3
  missW : Nat := 16
  missNowN : Nat := 3
  missNowW : Nat := 16
  /-- Profile generation (R301). -/
  pgen : Nat := 0
  /-- `CTRL.ENABLE` went out in the last frame. -/
  enSent : Bool := false
  undo : Option Undo := none
  /-- Cycle, plus 1, in which `LCNT.USAT` last counted (Table 6.13). -/
  usatAt : Nat := 0
  /-- The item of the cycle waits for a posting condition: its profile step or a feedback port (R20, R172, R235). -/
  want : Option Item := none
  deriving DecidableEq, Repr

/-- Scheduler, release unit, flows and scheduler record (chapter 8). -/
structure Sched where
  /-- Items in posting order. -/
  items : List Item := []
  inService : Nat := 0xFFFF
  fenceCause : Nat := 0
  fenceCore : Nat := 0
  timeout : Nat := 0
  spillPeak : Nat := 0
  spilled : Nat := 0
  relPeak : Nat := 0
  late : Nat := 0
  /-- Flows 0 and 1: spokes released or failed of the items of this cycle and of the cycle before, as masks (R189). -/
  flow0 : Nat := 0
  flow1 : Nat := 0
  prev0 : Nat := 0
  prev1 : Nat := 0
  /-- Next FSEQ of flows 3 to 63. -/
  heads : Tbl Nat := []
  /-- Timeouts and drops of the cycle, with the first timed-out item (R38, R191). -/
  timeoutsNow : Nat := 0
  firstTimeout : Nat := 0
  dropsNow : Nat := 0
  /-- An item spilled in this cycle: event 49 raised (R187). -/
  spillNow : Bool := false
  /-- Last completion or failure of an A0 or A1 item of the cycle, and the busy run of its core (R42, R43). -/
  tEnd : Option Nat := none
  busyRun : Nat := 0
  /-- The meter of the cycle before is still open, and its last end and busy run so far (R42). -/
  open0 : Bool := false
  tEnd0 : Option Nat := none
  busyRun0 : Nat := 0
  /-- Per core: instant it last left idle. -/
  busySince : Tbl Nat := []
  /-- Per core: instant it became idle. -/
  idleSince : Tbl Nat := []
  deriving DecidableEq, Repr

end Sys2Proof.Machine
end

