-- ==== Sys2Proof/Machine/Loop.lean ====
section
/-!
DEFINITION. What a loop core computes: accumulator arithmetic (R147), the templates T1 to T6 (R153 to R156, R176) and
the checks of a coefficient set (R150, R177).
-/
namespace Sys2Proof.Machine

/-- Quotient whose rounding the spec leaves open: floor, or one more where `Config.roundUp` says so. -/
def divOpen (a : Int) (d : Nat) : Int :=
  if d = 0 then 0 else if a % (d : Int) = 0 then a / (d : Int)
  else if Config.roundUp a d then a / (d : Int) + 1 else a / (d : Int)

/-- Square root rounded down, found bit by bit from bit `b` (R200). -/
def isqrtFrom (n : Nat) : Nat → Nat → Nat
  | 0, r => if (r + 1) * (r + 1) ≤ n then r + 1 else r
  | b + 1, r => isqrtFrom n b (if (r + 2 ^ (b + 1)) * (r + 2 ^ (b + 1)) ≤ n then r + 2 ^ (b + 1) else r)

/-- Square root of a number below 2^160, rounded down. -/
def isqrt (n : Nat) : Nat := isqrtFrom n 79 0

/-- A value with the flag of any saturation on its way (R147). -/
abbrev SatVal := Int × Bool

/-- Saturation to 64 bits, with its flag. -/
def sat64 (v : Int) : SatVal := (satS 64 v, satS 64 v != v)

/-- Coefficient `k` of a set: mantissa and shift (R146). -/
def CoefSet.coef (c : CoefSet) (k : Nat) : Int × Int :=
  (sgn 32 (Tbl.get 0 c.m k).toNat, sgn 6 (Tbl.get 0 c.s k).toNat)

/-- Parameter word `k` as a signed number. -/
def CoefSet.par (c : CoefSet) (k : Nat) : Int := (Tbl.get (0 : Word) c.p k).toInt

/-- Coefficient × signal in accumulator units: the exact product scaled by 2^(s + 1) (R147). -/
def term (c : CoefSet) (k : Nat) (x : Int) : SatVal :=
  if (c.coef k).2 + 1 ≥ 0 then sat64 (x * (c.coef k).1 * (2 ^ ((c.coef k).2 + 1).toNat : Nat))
  else (shrRne (x * (c.coef k).1) (-((c.coef k).2 + 1)).toNat, false)

/-- A plain signal in accumulator units. -/
def plain (x : Int) : SatVal := (x * 4294967296, false)

/-- The negative of a term. -/
def negT (t : SatVal) : SatVal := (-t.1, t.2)

/-- Addition into the accumulator, saturating at 64 bits. -/
def addAcc (a t : SatVal) : SatVal :=
  (satS 64 (a.1 + t.1), a.2 || t.2 || (satS 64 (a.1 + t.1) != a.1 + t.1))

/-- A result leaves the accumulator: to nearest, ties to even, saturated to 32 bits (R147). -/
def outAcc (a : SatVal) : SatVal :=
  (satS 32 (shrRne a.1 32), a.2 || (satS 32 (shrRne a.1 32) != shrRne a.1 32))

/-- sat32(...): one accumulation of terms in order, then rounding and saturation. -/
def sat32 (ts : List SatVal) : SatVal := outAcc (ts.foldl addAcc (0, false))

/-- Difference of two Q32.32 positions, a 64-bit value, as Q24.8 counts (R148, R153). -/
def posError (a b : Int) : SatVal :=
  (satS 32 (shrRne (wrap64 (a - b)) 24), satS 32 (shrRne (wrap64 (a - b)) 24) != shrRne (wrap64 (a - b)) 24)

/-- The direct-form-I section with coefficients from index `b` (R153). -/
def biquad (c : CoefSet) (b : Nat) (x x1 x2 y1 y2 : Int) : SatVal :=
  sat32 [term c b x, term c (b + 1) x1, term c (b + 2) x2, negT (term c (b + 3) y1), negT (term c (b + 4) y2)]

/-- A signed quantity per cycle scaled by 2^k, up or down: its value in a field of `bits` bits and whether it saturated
(R54). -/
def scaleS (up : Bool) (k bits : Nat) (v : Int) : Int × Bool :=
  if up then (satS bits (v * (2 ^ k : Nat)), satS bits (v * (2 ^ k : Nat)) != v * (2 ^ k : Nat)) else (shrRne v k, false)

/-- A result by the mode of its command (Tables 2.10 and 6.9): velocity, position with its feed-forwards, step rate. -/
def Result.rescale (up : Bool) (r : Result) : Result × Bool :=
  if r.mode = 2 ∨ r.mode = 0xFF then ({ r with target := (scaleS up 1 32 r.target).1 }, (scaleS up 1 32 r.target).2)
  else if r.mode = 1 then ({ r with ff1 := (scaleS up 1 32 r.ff1).1, ff2 := (scaleS up 2 32 r.ff2).1 },
    (scaleS up 1 32 r.ff1).2 || (scaleS up 2 32 r.ff2).2)
  else (r, false)

/-- What a template gives. -/
structure LoopOut where
  res : Result := {}
  st : LoopState := {}
  usat : Bool := false
  isat : Bool := false
  /-- Position and velocity errors, where the template forms them. -/
  ep : Int := 0
  ev : Int := 0
  deriving DecidableEq, Repr

/-- The integrator stops in this cycle: held feedback (R164) or the conditional hold (R154). -/
def iHold (ls : LoopState) (e : Int) (held : Bool) : Bool :=
  held || (ls.clampP && decide (e > 0)) || (ls.clampN && decide (e < 0))

/-- The integrator's new value, before its limit. -/
def iRaw (c : CoefSet) (k : Nat) (ls : LoopState) (e : Int) : SatVal := sat32 [plain ls.i, term c k e]

/-- The integrator's new value (R153, R154, R164): a held one keeps its value, above a smaller `I_LIM` newly swapped in too
(DESIGN CHOICE, log entry 101). -/
def iNew (c : CoefSet) (k : Nat) (ls : LoopState) (e : Int) (held : Bool) : Int :=
  if iHold ls e held then ls.i else clampI (-(c.par 0)) (c.par 0) (iRaw c k ls e).1

/-- `LCNT.ISAT` counts the cycle (Table 6.13): the integrator is at ±`I_LIM`, or held under R154. -/
def iSatd (c : CoefSet) (k : Nat) (ls : LoopState) (e : Int) (held : Bool) : Bool :=
  (!held && iHold ls e false) || decide (iNew c k ls e held = c.par 0) || decide (iNew c k ls e held = -(c.par 0))

/-- Output clamped to ±`U_LIM`. -/
def uClamp (c : CoefSet) (v : Int) : Int := clampI (-(c.par 1)) (c.par 1) v

/-- Mode of Table 6.9 for an output kind; 0xFF = step rate. -/
def outMode : Nat → Nat
  | 0 => 3
  | 1 => 2
  | 2 => 5
  | 3 => 4
  | 4 => 1
  | _ => 0xFF

/-- Template T1 (R153). A sum that saturates at +`U_LIM` = 0x7FFF_FFFF counts as saturation and not as the clamp of R154 (DESIGN
CHOICE, log entry 100). -/
def runT1 (c : CoefSet) (out : Nat) (ls : LoopState) (x : LoopIn) : LoopOut :=
  let ep := posError x.pRef x.pFb
  let vc := sat32 [term c 0 ep.1, term c 1 x.vRef]
  if out = 1 then
    let ff := sat32 [term c 4 x.aRef]
    { res := { mode := 2, target := uClamp c vc.1, ff1 := ff.1 }
      st := { ls with first := false }
      usat := ep.2 || vc.2 || ff.2 || (uClamp c vc.1 != vc.1)
      ep := ep.1 }
  else
    let ev := sat32 [plain vc.1, negT (plain x.vFb)]
    let i' := iNew c 3 ls ev.1 x.held
    let u0 := sat32 [term c 2 ev.1, plain i']
    let u1 := biquad c 5 u0.1 ls.u0a ls.u0b ls.u1a ls.u1b
    let u2 := biquad c 10 u1.1 ls.u1a ls.u1b ls.u2a ls.u2b
    let u3 := biquad c 15 u2.1 ls.u2a ls.u2b ls.u3a ls.u3b
    let yr := sat32 [plain u3.1, term c 4 x.aRef]
    let y := uClamp c yr.1
    { res := { mode := outMode out, target := y }
      st := { ls with i := i', u0a := u0.1, u0b := ls.u0a, u1a := u1.1, u1b := ls.u1a, u2a := u2.1, u2b := ls.u2a,
                      u3a := u3.1, u3b := ls.u3a, clampP := decide (yr.1 > y), clampN := decide (yr.1 < y), first := false }
      usat := ep.2 || vc.2 || ev.2 || u0.2 || u1.2 || u2.2 || u3.2 || yr.2 || (!iHold ls ev.1 x.held && (iRaw c 3 ls ev.1).2)
        || (y != yr.1)
      isat := iSatd c 3 ls ev.1 x.held
      ep := ep.1
      ev := ev.1 }

/-- Template T2 (R156). -/
def runT2 (c : CoefSet) (out : Nat) (ls : LoopState) (x : LoopIn) : LoopOut :=
  let ev := sat32 [plain x.vRef, negT (plain x.vFb)]
  let i' := iNew c 3 ls ev.1 x.held
  let u0 := sat32 [term c 2 ev.1, plain i']
  let u1 := biquad c 5 u0.1 ls.u0a ls.u0b ls.u1a ls.u1b
  let yr := sat32 [plain u1.1, term c 4 x.aRef]
  let y := uClamp c yr.1
  { res := { mode := outMode out, target := y }
    st := { ls with i := i', u0a := u0.1, u0b := ls.u0a, u1a := u1.1, u1b := ls.u1a,
                    clampP := decide (yr.1 > y), clampN := decide (yr.1 < y), first := false }
    usat := ev.2 || u0.2 || u1.2 || yr.2 || (!iHold ls ev.1 x.held && (iRaw c 3 ls ev.1).2) || (y != yr.1)
    isat := iSatd c 3 ls ev.1 x.held
    ev := ev.1 }

/-- Template T3 (R156): r is p_ref rounded to whole units; the first cycle after enable takes x_prev = x, d_prev = 0; a cycle on held
feedback has x - x_prev = 0 (R164). A difference beyond 32 bits saturates (DESIGN CHOICE, log entry 102). -/
def runT3 (c : CoefSet) (out : Nat) (ls : LoopState) (x : LoopIn) : LoopOut :=
  let r := satS 32 (shrRne x.pRef 32)
  let xp := if ls.first || x.held then x.proc else ls.xPrev
  let dp := if ls.first then 0 else ls.dPrev
  let e := sat32 [plain r, negT (plain x.proc)]
  let i' := iNew c 3 ls e.1 x.held
  let d := sat32 [term c 20 dp, term c 21 (satS 32 (x.proc - xp))]
  let yr := sat32 [term c 0 e.1, plain i', negT (plain d.1), term c 4 r]
  let y := uClamp c yr.1
  { res := { mode := outMode out, target := y }
    st := { ls with i := i', xPrev := x.proc, dPrev := d.1,
                    clampP := decide (yr.1 > y), clampN := decide (yr.1 < y), first := false }
    usat := (r != shrRne x.pRef 32) || e.2 || d.2 || yr.2 || (satS 32 (x.proc - xp) != x.proc - xp)
      || (!iHold ls e.1 x.held && (iRaw c 3 ls e.1).2) || (y != yr.1)
    isat := iSatd c 3 ls e.1 x.held }

/-- Template T5 (R156). -/
def runT5 (c : CoefSet) (out : Nat) (ls : LoopState) (x : LoopIn) : LoopOut :=
  let ep := posError x.pRef x.pLoad
  let vc := sat32 [term c 0 ep.1, term c 1 x.vRef]
  let vm := sat32 [term c 22 x.vFb]
  let ev := sat32 [plain vc.1, negT (plain vm.1)]
  let i' := iNew c 3 ls ev.1 x.held
  let u0 := sat32 [term c 2 ev.1, plain i']
  let u1 := biquad c 5 u0.1 ls.u0a ls.u0b ls.u1a ls.u1b
  let u2 := biquad c 15 u1.1 ls.u1a ls.u1b ls.u2a ls.u2b
  let yr := sat32 [plain u2.1, term c 4 x.aRef]
  let y := uClamp c yr.1
  { res := { mode := outMode out, target := y }
    st := { ls with i := i', u0a := u0.1, u0b := ls.u0a, u1a := u1.1, u1b := ls.u1a, u2a := u2.1, u2b := ls.u2a,
                    clampP := decide (yr.1 > y), clampN := decide (yr.1 < y), first := false }
    usat := ep.2 || vc.2 || vm.2 || ev.2 || u0.2 || u1.2 || u2.2 || yr.2
      || (!iHold ls ev.1 x.held && (iRaw c 3 ls ev.1).2) || (y != yr.1)
    isat := iSatd c 3 ls ev.1 x.held
    ep := ep.1
    ev := ev.1 }

/-- Template T6 (R156, Table 6.9): position, or the step rate between rounded set-points: the difference is taken from the item that
last completed (DESIGN CHOICE, log entry 104). A position keeps its extended integer part for the window of the envelope (R251). -/
def runT6 (out : Nat) (ls : LoopState) (x : LoopIn) : LoopOut :=
  if out = 5 then
    { res := { mode := 0xFF, target := satS 32 ((shrRne x.pRef 32 - ls.stepPrev) * 65536) }
      st := { ls with stepPrev := shrRne x.pRef 32, first := false }
      usat := satS 32 ((shrRne x.pRef 32 - ls.stepPrev) * 65536) != (shrRne x.pRef 32 - ls.stepPrev) * 65536 }
  else
    { res := { mode := 1, target := shrRne x.pRef 32, ff1 := x.vRef, ff2 := x.aRef }
      st := { ls with stepPrev := shrRne x.pRef 32, first := false } }

/-- The template named by `t`; T4 is `runT4`, and template 0 computes nothing. -/
def runTemplate (t : Nat) (c : CoefSet) (out : Nat) (ls : LoopState) (x : LoopIn) : LoopOut :=
  match t with
  | 1 => runT1 c out ls x
  | 2 => runT2 c out ls x
  | 3 => runT3 c out ls x
  | 5 => runT5 c out ls x
  | 6 => runT6 out ls x
  | _ => { st := ls }

/-- Q1.31 product, to nearest, ties to even (R176). -/
def mulQ31 (x y : Int) : SatVal := (satS 32 (shrRne (x * y) 31), satS 32 (shrRne (x * y) 31) != shrRne (x * y) 31)

/-- A Q1.31 factor times a signal, in accumulator units. -/
def termQ (k x : Int) : SatVal := sat64 (x * k * 2)

/-! ### Sine, constants and scaling of T4 (R176) -/

/-- The built-in constants as Q1.31: 1/sqrt 3, with 2/sqrt 3 twice that, and sqrt 3 / 2 (to the nearest: DESIGN CHOICE, log entry
105; Table 7.2 gives 1/sqrt 3 so). -/
def invSqrt3 : Int := 0x49E69D16
def halfSqrt3 : Int := 0x6ED9EBA1

/-- Terms of the sine's series at x, in units of 2^-64: `t` the term in hand, `n` its degree. -/
def sinSeries : Nat → Int → Int → Int → Int
  | 0, _, _, _ => 0
  | f + 1, x2, t, n => t + sinSeries f x2 (-(t * x2 / 18446744073709551616) / ((n + 1) * (n + 2))) (n + 2)

/-- sin(pi/2 · k / 1024) in Q1.31, within one unit. -/
def sinNear (k : Nat) : Int :=
  let x : Int := 28976077832308491369 * k / 1024
  sinSeries 16 (x * x / 18446744073709551616) x 1 / 8589934592

/-- Entry k of the quarter-wave table, k = 0 to 1,024: within one unit of the sine; which value is open (log entry 11). -/
def sinEntry (k : Nat) : Int := clampI (sinNear k - 1) (min (sinNear k + 1) 0x7FFFFFFF) (Config.sinTable k)

/-- Linear interpolation in the first quarter: 10 bits of index, 20 bits of fraction. -/
def sinQuarter (a : Nat) : Int :=
  sinEntry (a / 1048576) + divOpen ((sinEntry (a / 1048576 + 1) - sinEntry (a / 1048576)) * (a % 1048576 : Nat)) 1048576

/-- Sine of an angle with 2^32 per turn, Q1.31. -/
def sinQ31 (th : Nat) : Int :=
  let a := th % 1073741824
  match th / 1073741824 % 4 with
  | 0 => sinQuarter a
  | 1 => sinQuarter (1073741824 - a)
  | 2 => -sinQuarter a
  | _ => -sinQuarter (1073741824 - a)

/-- Cosine. -/
def cosQ31 (th : Nat) : Int := sinQ31 (th + 1073741824)

/-- Sine of `num` / `den` turns, in units of 2^-64. -/
def turnSine (num : Int) (den : Nat) : Int :=
  let r := (num % (den : Int)).toNat
  let x : Int := 28976077832308491369 * (4 * r % den : Nat) / den
  let s (x : Int) : Int := sinSeries 16 (x * x / 18446744073709551616) x 1
  match 4 * r / den with
  | 0 => s x
  | 1 => s (28976077832308491369 - x)
  | 2 => -s x
  | _ => -s (28976077832308491369 - x)

/-- The chirp of R397 in its cycle k of n: A × sin(2π(f0 t + (f1 - f0) t² / (2T))), within one unit; which value is open (log entry
13). -/
def chirpAt (amp : Int) (f0 f1 n k tc : Nat) : Int :=
  let num : Int := (2 * n * f0 * k * tc : Nat) + ((f1 : Int) - f0) * (k * k * tc : Nat)
  let u := amp * turnSine num (2 * n * 1000000000) / 18446744073709551616
  if k = 0 then 0 else clampI (u - 1) (u + 1) (Config.chirp amp f0 f1 n k tc)

/-- A component `v` of the voltage vector (v, w) scaled by `m` / |v|: the real value rounded down or up, which is open (log entry
11). -/
def scaleV (v w m : Int) : Int :=
  let q : Int := isqrt ((v * v * (m * m)).natAbs / (v * v + w * w).natAbs)
  let r := clampI q (q + 1) (Config.scaleV v w m)
  if v < 0 then -r else r

/-- One T4 integrator (R176 with R154: held after a cycle with limited = 1 when the error has the sign of its voltage), with any
saturation. -/
def curInt (c : CoefSet) (k : Nat) (x e : Int) (limited : Bool) (v : Int) : SatVal :=
  if limited && ((decide (e > 0) && decide (v > 0)) || (decide (e < 0) && decide (v < 0))) then (x, false)
  else (clampI (-(c.par 6)) (c.par 6) (sat32 [plain x, term c k e]).1, (sat32 [plain x, term c k e]).2)

/-- What T4 gives: three duties and the new state. -/
structure CurOut where
  st : CurState := {}
  sat : Bool := false
  dutyA : Nat := 0
  dutyB : Nat := 0
  dutyC : Nat := 0
  ia : Int := 0
  ib : Int := 0
  id : Int := 0
  iq : Int := 0
  deriving DecidableEq, Repr

/-- Electrical angle (R176): `THETA_OFF` + low32(KTHETA × integer part of the extended position). -/
def elAngle (c : CoefSet) (pos : Int) : Nat :=
  (ubits 32 (c.par 7) +
    (if (c.coef 31).2 - 31 ≥ 0 then ubits 32 ((pos / 4294967296) * (c.coef 31).1 * (2 ^ ((c.coef 31).2 - 31).toNat : Nat))
     else ubits 32 ((pos / 4294967296) * (c.coef 31).1 / (2 ^ (31 - (c.coef 31).2).toNat : Nat)))) % 4294967296

/-- Duty of one phase (R176). -/
def dutyOf (v off : Int) : Nat := (clampI 0 0xFFFF (shrRne (1073741824 + v - off) 15)).toNat

/-- A voltage of the inverse transforms that Q1.31 cannot hold saturates. -/
def halfNeg (v : Int) : SatVal := (-(v * 2147483648), false)

/-- Template T4 (R176) with the q reference `iqr` of R173. -/
def runT4 (c : CoefSet) (s : CurState) (iqr : SatVal) (currents : Word) (pos : Int) : CurOut :=
  let ia := sgn 16 (fld currents 31 16) * 65536
  let ib := sgn 16 (fld currents 15 0) * 65536
  let th := elAngle c pos
  let nu := if s.fresh then 0 else sgn 32 (th + 4294967296 - s.thPrev)
  let co := cosQ31 th
  let si := sinQ31 th
  let ibe := sat32 [termQ invSqrt3 ia, termQ invSqrt3 (2 * ib)]
  let id := sat32 [termQ co ia, termQ si ibe.1]
  let iq := sat32 [termQ co ibe.1, negT (termQ si ia)]
  let ed := sat32 [plain (c.par 4), negT (plain id.1)]
  let eq := sat32 [plain iqr.1, negT (plain iq.1)]
  let xd := curInt c 25 s.xd ed.1 s.limited s.vd
  let xq := curInt c 27 s.xq eq.1 s.limited s.vq
  let mq := mulQ31 nu iq.1
  let md := mulQ31 nu id.1
  let vd0 := sat32 [term c 24 ed.1, plain xd.1, negT (term c 29 mq.1)]
  let vq0 := sat32 [term c 26 eq.1, plain xq.1, term c 28 md.1, term c 30 nu]
  let lim := decide (vd0.1 * vd0.1 + vq0.1 * vq0.1 > c.par 5 * c.par 5)
  let vd := if lim then scaleV vd0.1 vq0.1 (c.par 5) else vd0.1
  let vq := if lim then scaleV vq0.1 vd0.1 (c.par 5) else vq0.1
  let val := sat32 [termQ co vd, negT (termQ si vq)]
  let vbe := sat32 [termQ si vd, termQ co vq]
  let va := val.1
  let vb := sat32 [halfNeg val.1, termQ halfSqrt3 vbe.1]
  let vc := sat32 [halfNeg val.1, negT (termQ halfSqrt3 vbe.1)]
  let off := shrRne (max va (max vb.1 vc.1) + min va (min vb.1 vc.1)) 1
  { st := { s with xd := xd.1, xq := xq.1, thPrev := th, iqRef := iqr.1, limited := lim, vd := vd, vq := vq, fresh := false }
    sat := ibe.2 || id.2 || iq.2 || ed.2 || iqr.2 || eq.2 || xd.2 || xq.2 || mq.2 || md.2 || vd0.2 || vq0.2 || lim
      || val.2 || vbe.2 || vb.2 || vc.2
    dutyA := dutyOf va off
    dutyB := dutyOf vb.1 off
    dutyC := dutyOf vc.1 off
    ia := ia
    ib := ib
    id := id.1
    iq := iq.1 }

/-- Maximum step count of a template (Table 6.4). -/
def templateSteps : Nat → Nat
  | 1 => 280
  | 2 => 90
  | 3 => 110
  | 4 => 220
  | 5 => 340
  | 6 => 40
  | _ => 0

/-- Charge in ns of a step count at 2.9 ns a step (R35; Table 6.4's figures: 812, 261, 319, 638, 986, 116). -/
def chargeOf (steps : Nat) : Nat := steps * 29 / 10

/-- Charge of a PROFILE_STEP (Table 2.6). -/
def profileCharge : Nat := 232

/-- Entries a template uses (Tables 6.5, 6.7 and 7.2). -/
def usesCoef (t k : Nat) : Bool :=
  match t with
  | 1 => decide (k ≤ 19) || k == 23
  | 2 => (decide (2 ≤ k) && decide (k ≤ 9)) || k == 23
  | 3 => k == 0 || k == 3 || k == 4 || k == 20 || k == 21 || k == 23
  | 5 => decide (k ≤ 9) || (decide (15 ≤ k) && decide (k ≤ 19)) || k == 22 || k == 23
  | _ => false

/-- Entries a T4 axis uses, beside those of its outer template (R177). -/
def usesCur (k : Nat) : Bool := k == 20 || decide (24 ≤ k)

/-- The value of a coefficient in units of 2^-62. -/
def CoefSet.val62 (c : CoefSet) (k : Nat) : Int := (c.coef k).1 * (2 ^ ((c.coef k).2 + 31).toNat : Nat)

/-- A biquad section meets R150: shifts at most +2, |a2| < 1, |a1| < 1 + a2. -/
def sectionOk (c : CoefSet) (b : Nat) : Bool :=
  (List.range 5).all (fun j => decide ((c.coef (b + j)).2 ≤ 2)) &&
  decide ((c.val62 (b + 4)).natAbs < 2 ^ 62) &&
  decide (((c.val62 (b + 3)).natAbs : Int) < 2 ^ 62 + c.val62 (b + 4))

/-- Sections a template runs. -/
def sections : Nat → List Nat
  | 1 => [5, 10, 15]
  | 2 => [5]
  | 5 => [5, 15]
  | _ => []

/-- The checks of a ready request (R150, R177) for a template, its outer template when it is T4. -/
def readyOk (c : CoefSet) (t outer : Nat) : Bool :=
  let base := if t = 4 then outer else t
  decide (1 ≤ c.gear) && decide (c.gear ≤ 4) &&
  !bit (Tbl.get 0 c.p 0) 31 && !bit (Tbl.get 0 c.p 1) 31 &&
  (t == 0 ||
    ((List.range 32).all (fun k => usesCoef base k || (t == 4 && usesCur k) ||
        (Tbl.get 0 c.m k == 0 && Tbl.get 0 c.s k == 0)) &&
     (List.range 8).all (fun k => (decide (k ≤ 3) && base != 0 && base != 6) || (t == 4 && decide (4 ≤ k)) ||
        Tbl.get 0 c.p k == 0) &&
     (sections base).all (sectionOk c) &&
     (base != 3 || (decide (0 ≤ c.val62 20) && decide (c.val62 20 < 2 ^ 62))) &&
     (t != 4 || (decide (0 ≤ c.par 5) && decide (c.par 5 ≤ 0x49E69D16) && decide (0 ≤ c.par 6) &&
        decide (c.par 6 ≤ c.par 5)))))

/-- Extension of a 32-bit position to Q32.32 (R148). -/
def extendPos (known : Bool) (old : Int) (q : Word) : Int :=
  if known then wrap64 (old + sgn 32 (q.toNat + 4294967296 - ubits 32 (old / 4294967296)) * 4294967296)
  else q.toInt * 4294967296

end Sys2Proof.Machine
end

