-- ==== Sys2Proof/Machine/Profile.lean ====
section
/-!
DEFINITION. The profile generator of an axis: moves, plans, ramps, sources, limits (R197 to R214) and the requests of
Table 9.3.
-/
namespace Sys2Proof.Machine

/-- Quotient to the nearest whole number; the spec leaves a tie open. -/
def divNear (a : Int) (d : Nat) : Int :=
  if 2 * (a % (d : Int)) = (d : Int) then divOpen a d else (2 * a + d) / (2 * d)

/-- Square root whose rounding is open. -/
def sqrtOpen (n : Nat) : Nat :=
  if isqrt n * isqrt n = n then isqrt n else if Config.roundUp n 1 then isqrt n + 1 else isqrt n

/-- Sign of a number. -/
def sgnI (v : Int) : Int := if v > 0 then 1 else if v < 0 then -1 else 0

/-- Q16.16 to Q32.32. -/
def q16to32 (v : Int) : Int := v * 65536

/-- Q8.24 to Q32.32. -/
def q8to32 (v : Nat) : Int := (v : Int) * 256

/-- What a PROFILE_STEP reports (events 64, 65 and 66). -/
inductive PEvent where
  | moveEnd
  | stopDone
  | limitHit (mask : Nat)
  deriving DecidableEq, Repr

/-- One step along the direction of motion: position, new speed. -/
def advance (p v vn : Int) : Int := p + divOpen (v + vn) 2

/-- `max (s - d) 0` along the sign of v (R200, R207). -/
def slowBy (v d : Int) : Int := sgnI v * max ((v.natAbs : Int) - d) 0

/-- Result of one trapezoidal step: p, v, a, arrived. -/
structure TrapStep where
  p : Int := 0
  v : Int := 0
  a : Int := 0
  arrived : Bool := false
  deriving DecidableEq, Repr

/-- One cycle of a trapezoidal position move (R200), in Q32.32. -/
def trapStep (m : Move) (p v : Int) : TrapStep :=
  let dir := sgnI (m.target - p)
  let r := ((m.target - p).natAbs : Int)
  let d := q8to32 m.dec
  let vmax := q16to32 m.v
  let s := dir * v
  let past := decide (2 * d * r < v * v) || (decide (r > 0) && decide (s < 0))
  let hi := if s ≤ vmax then min (s + q8to32 m.acc) vmax else max (s - d) vmax
  let rad := d * d + 4 * d * (2 * r - s)
  let fit := if rad < d * d then 0 else (isqrt (rad / 4).toNat : Int) - d / 2
  let land := !past && decide (fit < s)
  let sn := if past then 0 else if fit ≥ s then min hi fit else max (s - divOpen (s * s) (2 * r).toNat) 0
  let vn := if past then slowBy v d else dir * sn
  if (land && decide (sn = 0)) || decide (r = 0) then { p := m.target, arrived := true }
  else { p := advance p v vn, v := vn, a := vn - v }

/-- One cycle of a trapezoidal jog (R203). -/
def jogStep (m : Move) (p v : Int) : TrapStep :=
  let vj := q16to32 m.v
  let vn :=
    if decide (v * vj < 0) || (vj == 0 && v != 0) then slowBy v (q8to32 m.dec)
    else if v.natAbs > vj.natAbs then sgnI v * max ((v.natAbs : Int) - q8to32 m.dec) vj.natAbs
    else sgnI vj * min ((v.natAbs : Int) + q8to32 m.acc) vj.natAbs
  { p := advance p v vn, v := vn, a := vn - v }

/-- Time in ns of a jerk-limited ramp between rest and w: jerk time and hold time (R202). -/
def accelTimes (w x j : Int) (tc : Nat) : Nat × Nat :=
  if w * j ≥ x * x then
    ((divOpen (x * tc) j.toNat).toNat, (divOpen (w * tc) x.toNat - divOpen (x * tc) j.toNat).toNat)
  else (sqrtOpen ((w * tc * tc / max j 1)).toNat, 0)

/-- accel(w, X).s + accel(w, D).s <= r, exactly (R202). -/
def fits (w r x d j : Int) : Bool :=
  let rat (l : Int) : Bool := decide (w * j ≥ l * l)
  -- twice the distance times X·J for a rational ramp: w·(w/X + X/J)
  if rat x && rat d then
    decide (w * (w * j + x * x) * d + w * (w * j + d * d) * x ≤ 2 * r * x * d * j)
  else if rat x then
    decide (0 ≤ 2 * r * x * j - w * (w * j + x * x)) &&
    decide (4 * w * w * w * x * x * j ≤ (2 * r * x * j - w * (w * j + x * x)) * (2 * r * x * j - w * (w * j + x * x)))
  else if rat d then
    decide (0 ≤ 2 * r * d * j - w * (w * j + d * d)) &&
    decide (4 * w * w * w * d * d * j ≤ (2 * r * d * j - w * (w * j + d * d)) * (2 * r * d * j - w * (w * j + d * d)))
  else decide (4 * w * w * w ≤ r * r * j)

/-- The largest w on the grid that fits, searched bit by bit (R202). -/
def searchW (r x d j : Int) : Nat → Int → Int
  | 0, w => if fits (w + 1) r x d j then w + 1 else w
  | b + 1, w => searchW r x d j b (if fits (w + 2 ^ (b + 1)) r x d j then w + 2 ^ (b + 1) else w)

/-- Segments of a ramp with jerk sign `s`: up, hold, down. -/
def rampSegs (t : Nat × Nat) (s j : Int) : List Seg := [(t.1, s * j), (t.2, 0), (t.1, -(s * j))]

/-- Plan of an S-curve position move from standstill (R202). -/
def planMove (m : Move) (p : Int) (bn tc : Nat) : Plan :=
  let r := ((m.target - p).natAbs : Int)
  let dir := sgnI (m.target - p)
  let x := q8to32 m.acc
  let d := q8to32 m.dec
  let j := (m.jerk : Int)
  let w := if fits (q16to32 m.v) r x d j then q16to32 m.v else searchW r x d j 62 0
  let ta := accelTimes w x j tc
  let td := accelTimes w d j tc
  let tv := (divOpen (r * tc) w.toNat - divOpen ((2 * ta.1 + ta.2 + 2 * td.1 + td.2 : Nat) : Int) 2).toNat
  { t0 := bn, tc := tc, p0 := p
    segs := if r = 0 then [] else rampSegs ta dir j ++ [(tv, 0)] ++ rampSegs td (-dir) j }

/-- Plan of an S-curve velocity change from rest to the jog velocity (R203). -/
def planJog (m : Move) (p : Int) (bn tc : Nat) : Plan :=
  { t0 := bn, tc := tc, p0 := p, vEnd := q16to32 m.v
    segs := if m.v = 0 then [] else
      rampSegs (accelTimes (q16to32 m.v).natAbs (q8to32 m.acc) m.jerk tc) (sgnI m.v) m.jerk }

/-- Time in ns until v reaches 0 under jerk +J from (v, a < 0), when it does before a does (R207). -/
def timeToZero (v a j : Int) (tc : Nat) : Nat :=
  (divOpen ((-a - (sqrtOpen (a * a - 2 * j * v).toNat : Int)) * tc) (max j 1).toNat).toNat

/-- Plan of an S-curve stop ramp from (v, a) (R207). -/
def planRamp (p v a : Int) (dec jerk : Nat) (bn tc : Nat) : Plan :=
  let s := if v ≠ 0 then sgnI v else sgnI a
  let sv := s * v
  let sa := s * a
  let j := (jerk : Int)
  let root := (sqrtOpen (j * sv + sa * sa / 2).toNat : Int)
  let ap := min root (q8to32 dec)
  let segs : List Seg :=
    if sa < -ap then
      (if decide (sa * sa ≥ 2 * j * sv) then [(timeToZero sv sa j tc, s * j)]
       else [((divOpen (-sa * tc) (max j 1).toNat).toNat, s * j)] ++
         [((divOpen (ap * tc) (max j 1).toNat).toNat, -(s * j)),
          ((divOpen ((sv - divOpen (sa * sa) (2 * max j 1).toNat - divOpen (ap * ap) (max j 1).toNat) * tc) (max ap 1).toNat).toNat, 0),
          ((divOpen (ap * tc) (max j 1).toNat).toNat, s * j)])
    else
      [((divOpen ((sa + ap) * tc) (max j 1).toNat).toNat, -(s * j)),
       ((divOpen ((sv + divOpen (sa * sa - 2 * ap * ap) (2 * max j 1).toNat) * tc) (max ap 1).toNat).toNat, 0),
       ((divOpen (ap * tc) (max j 1).toNat).toNat, s * j)]
  { t0 := bn, tc := tc, p0 := p, v0 := v, a0 := a, segs := segs }

/-- A segment's polynomials after t ns (R202). -/
def segAt (tc : Nat) (x : Int × Int × Int) (j : Int) (t : Nat) : Int × Int × Int :=
  (x.1 + divOpen (x.2.1 * t) tc + divOpen (x.2.2 * t * t) (2 * tc * tc) + divOpen (j * t * t * t) (6 * tc * tc * tc),
   x.2.1 + divOpen (x.2.2 * t) tc + divOpen (j * t * t) (2 * tc * tc),
   x.2.2 + divOpen (j * t) tc)

/-- p, v and a of a list of segments at an elapsed time. -/
def segsAt (tc : Nat) (x : Int × Int × Int) : List Seg → Nat → Int × Int × Int
  | [], _ => x
  | (d, j) :: ss, e => if e ≤ d then segAt tc x j e else segsAt tc (segAt tc x j d) ss (e - d)

/-- Length of a plan, ns. -/
def Plan.total (pl : Plan) : Nat := (pl.segs.map (·.1)).sum

/-- The plan's p, v and a at `bn`, in units of the present cycle (R202: a plan is held in time). -/
def Plan.at (pl : Plan) (bn tc : Nat) : Int × Int × Int :=
  let x := segsAt pl.tc (pl.p0, pl.v0, pl.a0) pl.segs (min (bn - pl.t0) pl.total)
  if pl.tc = tc then x else (x.1, divOpen (x.2.1 * tc) pl.tc, divOpen (x.2.2 * tc * tc) (pl.tc * pl.tc))

/-- The plan has ended at `bn`. -/
def Plan.ended (pl : Plan) (bn : Nat) : Bool := decide (pl.total ≤ bn - pl.t0)

/-- `LOOP.CFG` fields (Table 6.8). -/
def Axis.template (x : Axis) : Nat := fld x.cfg0 2 0
def Axis.out (x : Axis) : Nat := fld x.cfg0 5 3
def Axis.srcSel (x : Axis) : Nat := fld x.cfg0 7 6
def Axis.softOn (x : Axis) : Bool := bit x.cfg0 8
def Axis.fbLocal (x : Axis) : Bool := bit x.cfg0 9
def Axis.fbPort (x : Axis) : Nat := fld x.cfg0 19 16
def Axis.stpPort (x : Axis) : Nat := fld x.cfg0 23 20
def Axis.pinPort (x : Axis) : Nat := fld x.cfg0 27 24
def Axis.srcTag (x : Axis) : Nat := fld x.cfg1 7 0
def Axis.softRate (x : Axis) : Nat := x.cfg2.toNat
def Axis.outer (x : Axis) : Nat := fld x.cur 2 0
/-- A current-loop axis (R170). -/
def Axis.isCur (x : Axis) : Bool := x.template == 4
/-- A local step axis (Table 6.9). -/
def Axis.isStep (x : Axis) : Bool := x.out == 5 && x.template != 0
/-- The template whose loop state and equations the axis runs: the outer one of a current-loop axis. -/
def Axis.loopTemplate (x : Axis) : Nat := if x.isCur then x.outer else x.template
/-- The template uses coefficients (R461). -/
def Axis.usesSet (x : Axis) : Bool := x.template != 0 && x.template != 6

/-- At standstill (R198). -/
def Gen.still (g : Gen) : Bool := g.v == 0 && g.a == 0

/-- "Standstill or in hold" of R49: an axis in SOURCE counts as moving unless it is in hold, and a jog counts as moving. -/
def Axis.stillOrHold (x : Axis) : Bool :=
  !x.enabled || x.gen.st == 0 || x.gen.st == 6 || x.gen.st == 7 || x.gen.st == 9

/-- Bump of the profile generation (R301). -/
def Axis.bump (x : Axis) : Axis := { x with pgen := (x.pgen + 1) % 65536 }

/-- The move whose record the generator runs or keeps. -/
def Gen.curMove (g : Gen) : Option Move :=
  match g.act with
  | .move m => some m
  | _ => none

/-- Remaining distance as R207 holds it: target - p for a position move, 0 otherwise. -/
def Gen.leftOver (g : Gen) : Int :=
  match g.act with
  | .move m => if m.jog then 0 else m.target - g.p
  | _ => 0

/-- The running or interrupted activity is a position move. -/
def Gen.hasPos (g : Gen) : Bool :=
  match g.act with
  | .move m => !m.jog
  | _ => false

/-- The running or interrupted activity is a jog. -/
def Gen.hasJog (g : Gen) : Bool :=
  match g.act with
  | .move m => m.jog
  | _ => false

/-- The end of the activity has been reported: an ABORT discarded it and its ramp still runs (R204). -/
def Gen.reported (g : Gen) : Bool := g.st == 10 || g.discard

/-- MOVE_END is owed for the activity when it ends with a cause: for a position move, for a jog too when it is disabled (1) or removed
(3), for a source when it is removed (R204, R220). -/
def Gen.owes (g : Gen) (cause : Nat) : Bool :=
  !g.reported && (g.hasPos || (g.hasJog && (cause == 1 || cause == 3)) || (g.act == .source && cause == 3))

/-- End the activity with a cause; the queue goes with it unless it arrived (R204, R205). -/
def Axis.endActivity (x : Axis) (cause : Nat) : Axis × List PEvent :=
  let ev := if x.gen.owes cause then [PEvent.moveEnd] else []
  ((({ x with gen := { x.gen with act := .none, remain := if ev.isEmpty then x.gen.remain else x.gen.leftOver,
                                  endCause := if ev.isEmpty then x.gen.endCause else cause,
                                  queued := if cause = 0 then x.gen.queued else none,
                                  pend := if cause = 0 then x.gen.pend else none } } : Axis)).bump, ev)

/-- Start a move in this step (R200 to R203, R205, R378). A move ended from a stopped state is replaced (cause 2). -/
def Axis.startMove (x : Axis) (m : Move) (bn tc : Nat) : Axis × List PEvent :=
  let m' : Move := match m.rel with
    | some r => { m with target := x.gen.p + r, rel := none, wasRel := true }
    | none => m
  let stopped := x.gen.st == 6 || x.gen.st == 7 || x.gen.st == 9
  let e := if stopped && x.gen.hasPos then
             ({ x with gen := { x.gen with endCause := 2, remain := x.gen.leftOver, queued := none } }, [PEvent.moveEnd])
           else if stopped then ({ x with gen := { x.gen with queued := none } }, []) else (x, [])
  ((({ e.1 with gen := { e.1.gen with
        act := .move m', st := if m'.jog then 2 else 1, pend := none, rampNew := false, discard := false, planNew := false
        target := if m'.jog then e.1.gen.target else m'.target
        plan := if !m'.scurve then none
                else if m'.jog then some (planJog m' e.1.gen.p bn tc) else some (planMove m' e.1.gen.p bn tc) } } : Axis)).bump, e.2)

/-- A pulse input as the generator reads it at B(n) (R218). -/
structure PulseView where
  count : Int := 0
  dir : Int := 1
  tLast : Nat := 0
  period : Nat := 0
  /-- The last two steps agree in direction and two have been counted. -/
  ok : Bool := false
  k : Nat := 0
  tmax : Nat := 1000000
  deriving DecidableEq, Repr

/-- Fine position without the offset, Q32.32 (R218). -/
def finePos (v : PulseView) (bn : Nat) : Int :=
  let t := min v.period v.tmax
  let one : Int := 2 ^ (v.k + 32)
  let f : Int := if !v.ok || t == 0 || decide (bn - v.tLast ≥ t) then one else divOpen (((bn - v.tLast : Nat) : Int) * one) t
  one * (v.count - v.dir) + v.dir * f

/-- Value of the selected source in this step: p Q32.32, v and a Q16.16 (Table 6.10). -/
def Axis.sourceValue (x : Axis) (pv : PulseView) (bn : Nat) : Int × Int × Int :=
  if x.srcSel = 1 then
    let f := x.src.offset + finePos pv bn
    (f, shrRne (f - x.src.finePrev) 16, 0)
  else (x.src.p, x.src.v, x.src.a)

/-- Unit in which the source, and a soft start, run: velocity for T2, the outer template of a current-loop axis too, otherwise Q32.32
positions or units. -/
def Axis.velSource (x : Axis) : Bool := x.loopTemplate == 2

/-- The measured value a soft start begins with (R163); for T5 the extended position of the motor, not of the load (DESIGN CHOICE, log
entry 107). -/
def Axis.measured (x : Axis) : Int :=
  if x.loopTemplate = 2 then x.fb.vel else if x.loopTemplate = 3 then x.fb.proc * 4294967296 else x.fb.pos

/-- `SOFT_RATE` in the unit of the set-point it ramps (Table 6.8). -/
def Axis.rateUnits (x : Axis) : Int :=
  if x.loopTemplate = 2 then x.softRate else if x.loopTemplate = 3 then (x.softRate : Int) * 4294967296 else (x.softRate : Int) * 65536

/-- Deceleration of the stop ramp a request starts (R207), and its jerk. -/
def Axis.rampOf (x : Axis) (quick abort : Bool) : Nat × Nat :=
  let qs := x.prf0.toNat
  match x.gen.act with
  | .move m => (if quick then qs else if m.jog && !m.scurve && !abort then qs else m.dec, if m.scurve then m.jerk else 0)
  | _ => (qs, 0)

/-- Candidate of this step before limits: generator and events. -/
structure StepOut where
  ax : Axis := {}
  ev : List PEvent := []
  /-- A set-point saturated (R198). -/
  sat : Bool := false
  deriving DecidableEq, Repr

/-- A ramp at standstill: the state it ends in (Table 9.2) and STOP_DONE. -/
def Axis.rampEnd (x : Axis) : StepOut :=
  let st := if x.gen.st = 8 then 9 else if x.gen.discard || x.gen.st = 10 then 0 else if x.gen.st = 4 then 6 else 7
  let g := { x.gen with v := 0, a := 0, plan := none, remain := x.gen.leftOver, rampNew := false }
  if x.gen.discard || x.gen.st = 10 then
    { ax := { x with gen := { g with st := st, act := .none, discard := false } }, ev := [.stopDone] }
  else { ax := { x with gen := { g with st := st } }, ev := [.stopDone] }

/-- One step of a stop, abort or limit ramp (R207). -/
def Axis.rampStep (x : Axis) (bn tc : Nat) : StepOut :=
  let g := if x.gen.rampNew && decide (x.gen.rampJerk ≠ 0) && !x.gen.still then
      { x.gen with plan := some (planRamp x.gen.p x.gen.v x.gen.a x.gen.rampDec x.gen.rampJerk bn tc), rampNew := false }
    else { x.gen with rampNew := false, plan := if x.gen.rampNew then none else x.gen.plan }
  match g.plan with
  | some pl =>
    let y := pl.at bn tc
    if pl.ended bn then { x with gen := { g with p := y.1 } }.rampEnd
    else { ax := { x with gen := { g with p := y.1, v := y.2.1, a := y.2.2 } } }
  | none =>
    let vn := slowBy g.v (q8to32 g.rampDec)
    if vn = 0 then { x with gen := { g with p := advance g.p g.v 0 } }.rampEnd
    else { ax := { x with gen := { g with p := advance g.p g.v vn, v := vn, a := vn - g.v } } }

/-- Arrival of a position move (R200, R204). -/
def Axis.arrive (x : Axis) (m : Move) : StepOut :=
  { ax := ({ x with gen := { x.gen with p := m.target, v := 0, a := 0, st := 0, act := .none, plan := none,
                                        endCause := 0, remain := 0 } } : Axis).bump, ev := [.moveEnd] }

/-- One step of the running activity, without limits. -/
def Axis.coreStep (x : Axis) (pv : PulseView) (bn tc : Nat) : StepOut :=
  match x.gen.st, x.gen.act with
  | 1, .move m =>
    match x.gen.plan with
    | some pl =>
      if pl.ended bn then x.arrive m
      else
        let y := pl.at bn tc
        { ax := { x with gen := { x.gen with p := y.1, v := y.2.1, a := y.2.2 } } }
    | none =>
      let t := trapStep m x.gen.p x.gen.v
      if t.arrived then x.arrive m else { ax := { x with gen := { x.gen with p := t.p, v := t.v, a := t.a } } }
  | 2, .move m =>
    match x.gen.plan with
    | some pl =>
      let y := pl.at bn tc
      if pl.ended bn then
        let vj := q16to32 m.v
        { ax := { x with gen := { x.gen with p := y.1 + divOpen (vj * (bn - pl.t0 - pl.total : Nat)) tc, v := vj, a := 0, plan := none } } }
      else { ax := { x with gen := { x.gen with p := y.1, v := y.2.1, a := y.2.2 } } }
    | none =>
      if m.scurve then { ax := { x with gen := { x.gen with p := x.gen.p + x.gen.v, a := 0 } } }
      else
        let t := jogStep m x.gen.p x.gen.v
        { ax := { x with gen := { x.gen with p := t.p, v := t.v, a := t.a } } }
  | 3, _ =>
    let y := x.sourceValue pv bn
    { ax := { x with gen := { x.gen with p := y.1, v := q16to32 y.2.1, a := q16to32 y.2.2 } } }
  | 4, _ => x.rampStep bn tc
  | 5, _ => x.rampStep bn tc
  | 8, _ => x.rampStep bn tc
  | 10, _ => x.rampStep bn tc
  | _, _ => { ax := { x with gen := { x.gen with v := 0, a := 0 } } }

/-- The plan of a resumed S-curve, from standstill (R202, R208). -/
def Gen.resumePlan (g : Gen) (bn tc : Nat) : Option Plan :=
  match g.act with
  | .move m => if !m.scurve then none else if m.jog then some (planJog m g.p bn tc) else some (planMove m g.p bn tc)
  | _ => none

/-- What starts in this step: a resumed S-curve, a pending start, a queued move after an arrival, a source engagement (R201, R205, R378). -/
def Axis.starts (x : Axis) (pv : PulseView) (bn tc cyc : Nat) : StepOut :=
  if x.gen.planNew then { ax := { x with gen := { x.gen with planNew := false, plan := x.gen.resumePlan bn tc } } }
  else if x.gen.engageNew then
    let off := x.gen.p - finePos pv bn
    { ax := { x with gen := { x.gen with st := 3, act := .source, engageNew := false, softNew := x.softOn || x.gen.softNew }
                     src := { x.src with offset := off, finePrev := x.gen.p, engaged := true } } }
  else
    match x.gen.pend with
    | some (m, s) => if s ≤ cyc then let r := x.startMove m bn tc; { ax := r.1, ev := r.2 } else { ax := x }
    | none =>
      match x.gen.queued with
      | some (m, s) =>
        if x.gen.st = 0 && decide (s ≤ cyc) then
          let x' := { x with gen := { x.gen with queued := none } }
          let r := x'.startMove m bn tc
          { ax := r.1, ev := r.2 }
        else { ax := x }
      | none => { ax := x }

/-- Limits that act on a motion (v, a) (R212). -/
def Gen.actsP (g : Gen) (v a : Int) : Bool := g.limP && (decide (v > 0) || decide (a > 0))
def Gen.actsN (g : Gen) (v a : Int) : Bool := g.limN && (decide (v < 0) || decide (a < 0))

/-- What a stop begins from: while a soft-start ramp runs for another source than the generator's own state, its set-point and the
change of it (R163, R210). -/
def Gen.base (g : Gen) (vel : Bool) : Gen :=
  if g.soft.isSome && !vel && g.st != 3 then { g with p := g.pRef, v := q16to32 g.vRef, a := 0 } else g

/-- The motion of the set-point that a limit judges: that of the soft-start ramp while it runs (R163, R212). -/
def Gen.motion (g : Gen) : Int × Int := if g.soft.isSome then (q16to32 g.vRef, 0) else (g.v, g.a)

/-- Hand the set-point to the loop: p_ref = p, v_ref and a_ref rounded to Q16.16; a value beyond the range saturates (R198). -/
def Axis.handOver (x : Axis) : Axis × Bool :=
  let v := shrRne x.gen.v 16
  let a := shrRne x.gen.a 16
  ({ x with gen := { x.gen with pRef := x.gen.p, vRef := satS 32 v, aRef := satS 32 a } }, satS 32 v != v || satS 32 a != a)

/-- The limit reaction on a step's outcome (R212): `x` before the step, `o` after it, its set-point formed. -/
def Axis.limitStep (x : Axis) (o : StepOut) (bn tc : Nat) : StepOut :=
  let g := o.ax.gen
  let b := x.gen.base x.velSource
  let v := g.motion
  let ap := g.actsP v.1 v.2 && x.gen.st != 9 && (x.gen.st != 0 || g.st != 0)
  let an := g.actsN v.1 v.2 && x.gen.st != 9 && (x.gen.st != 0 || g.st != 0)
  if !ap && !an then o
  else
    let hard := (ap && !bit x.prf2 6) || (an && !bit x.prf2 7)
    let mask := (if ap && !g.hitP then 1 else 0) + (if an && !g.hitN then 2 else 0)
    let ev := if mask = 0 then [] else [PEvent.limitHit mask]
    let kept := { o.ax with gen := { g with hitP := g.hitP || ap, hitN := g.hitN || an } }
    let gone := g.reported || x.gen.reported
    if hard then
      let k2 := { kept.gen with p := b.p, v := 0, a := 0, st := 9, plan := none, rampNew := false, soft := none, softNew := false, discard := false }
      let k3 := { k2 with remain := k2.leftOver, act := if gone then .none else k2.act }
      let h := ({ kept with gen := k3 } : Axis).handOver
      { ax := h.1, ev := (o.ev.filter (· != .stopDone)) ++ ev, sat := h.2 }
    else if x.gen.st = 8 then { o with ax := kept, ev := o.ev ++ ev }
    else
      let ramping := x.gen.st == 4 || x.gen.st == 5 || x.gen.st == 10
      let dec := if ramping then max x.gen.rampDec x.prf1.toNat else x.prf1.toNat
      let back := { kept with gen := { kept.gen with p := b.p, v := b.v, a := b.a, st := 8, plan := none,
                                                     rampDec := dec, rampJerk := 0, rampNew := false
                                                     soft := none, softNew := false
                                                     discard := gone } }
      let r := back.rampStep bn tc
      let h := r.ax.handOver
      { ax := h.1, ev := (o.ev.filter (· != .stopDone)) ++ ev ++ r.ev, sat := h.2 }

/-- Soft start (R163): the set-point s that replaces the generator's own, with a saturation of it. -/
def Axis.softStep (x : Axis) : Axis × Bool :=
  let own : Int := if x.velSource then x.gen.vRef else x.gen.pRef
  let set_ (s prev : Int) : Axis × Bool :=
    if x.velSource then ({ x with gen := { x.gen with vRef := satS 32 s, aRef := 0, soft := some s, softNew := false } }, satS 32 s != s)
    else
      let d := shrRne (s - prev) 16
      ({ x with gen := { x.gen with pRef := s, vRef := satS 32 d, aRef := 0,
                                    p := if x.gen.st = 3 then s else x.gen.p
                                    v := if x.gen.st = 3 then s - prev else x.gen.v
                                    a := if x.gen.st = 3 then 0 else x.gen.a
                                    soft := some s, softNew := false } }, satS 32 d != d)
  if x.gen.softNew then
    match x.gen.soft with
    | some s => set_ s s
    | none => set_ x.measured x.measured
  else
    match x.gen.soft with
    | none => (x, false)
    | some s =>
      if ((own - s).natAbs : Int) ≤ x.rateUnits then ({ x with gen := { x.gen with soft := none } }, false)
      else set_ (s + clampI (-x.rateUnits) x.rateUnits (own - s)) s

/-- The generator's values as 64-bit numbers (R198). -/
def Gen.wrap (g : Gen) : Gen := { g with p := wrap64 g.p, v := wrap64 g.v, a := wrap64 g.a, pRef := wrap64 g.pRef }

/-- A PROFILE_STEP of cycle `cyc`, with B(n) = `bn` (R197): source, soft start, limits. -/
def Axis.profileStep (x : Axis) (pv : PulseView) (bn tc cyc : Nat) : StepOut :=
  let s := x.starts pv bn tc cyc
  let c := s.ax.coreStep pv bn tc
  let h := c.ax.handOver
  let f := h.1.softStep
  let l := s.ax.limitStep { c with ax := f.1, sat := if f.1.gen.soft.isSome then f.2 else h.2 } bn tc
  let fine := if l.ax.srcSel = 1 && l.ax.gen.st = 3 then (l.ax.sourceValue pv bn).1 else l.ax.src.finePrev
  { ax := { l.ax with gen := l.ax.gen.wrap, src := { l.ax.src with finePrev := fine } }, ev := s.ev ++ l.ev, sat := l.sat }

/-! Requests (Table 9.3, R205, R209). Each answers a status of Table 14.9 and the axis the request leaves. -/

/-- Status codes (Table 14.9). -/
def stOk : Nat := 0
def stBusy : Nat := 1
def stBadOpcode : Nat := 2
def stLenTooLong : Nat := 3
def stBadArg : Nat := 4
def stWrongMode : Nat := 5
def stBusyMoving : Nat := 6
def stNoResource : Nat := 7
def stEnvelope : Nat := 8
def stLocked : Nat := 9
def stTimeout : Nat := 10
def stNotLead : Nat := 11
def stCommitLate : Nat := 12
def stSafeHold : Nat := 13
def stAuthFail : Nat := 14
def stNotActive : Nat := 15
def stRemoved : Nat := 16
def stInternal : Nat := 255

/-- What a request leaves. -/
structure ReqOut where
  status : Nat := 0
  ax : Axis := {}
  ev : List PEvent := []
  deriving DecidableEq, Repr

/-- Enter a stop state with its ramp (R207, R210). -/
def Axis.toRamp (x : Axis) (st : Nat) (r : Nat × Nat) : Axis :=
  { x with gen := { x.gen.base x.velSource with
                               st := st, rampNew := true, rampDec := r.1, rampJerk := r.2, pend := none
                               planNew := false, soft := none, softNew := false }
           src := { x.src with engaged := false } }

/-- QUICK_STOP (Table 9.3). -/
def Axis.quickStop (x : Axis) : ReqOut :=
  let x := { x with gen := { x.gen with pend := none } }
  match x.gen.st with
  | 1 | 2 | 3 => { ax := x.toRamp 4 (x.rampOf true false) }
  | 5 => { ax := x.toRamp 4 (x.rampOf true false) }
  | 8 => if x.prf0.toNat > x.prf1.toNat then { ax := x.toRamp 4 (x.rampOf true false) } else { ax := x }
  | 10 => { ax := { x.toRamp 4 (x.rampOf true false) with gen := { (x.toRamp 4 (x.rampOf true false)).gen with discard := true } } }
  | _ => { ax := x }

/-- A quick stop acts on the axis: a request would change its state (Table 9.3). -/
def Axis.stopsQuick (x : Axis) : Bool :=
  x.gen.st == 1 || x.gen.st == 2 || x.gen.st == 3 || x.gen.st == 5 || x.gen.st == 10 ||
  (x.gen.st == 8 && decide (x.prf0.toNat > x.prf1.toNat))

/-- HOLD (Table 9.3). -/
def Axis.hold (x : Axis) : ReqOut :=
  let x := { x with gen := { x.gen with pend := none } }
  match x.gen.st with
  | 1 | 2 | 3 => { ax := x.toRamp 5 (x.rampOf false false) }
  | _ => { ax := x }

/-- ABORT (Table 9.3, R204): a position move ends here with cause 1; the queued move goes. -/
def Axis.abort (x : Axis) : ReqOut :=
  let x := { x with gen := { x.gen with pend := none, queued := none } }
  let ev := if x.gen.owes 4 then [PEvent.moveEnd] else []
  let mark (y : Axis) : Axis :=
    if ev.isEmpty then y.bump else ({ y with gen := { y.gen with endCause := 1, remain := x.gen.leftOver } } : Axis).bump
  match x.gen.st with
  | 1 | 2 | 3 => { ax := mark (x.toRamp 10 (x.rampOf false true)), ev := ev }
  | 4 => if x.gen.discard then { ax := x } else { ax := mark { x with gen := { x.gen with discard := true } }, ev := ev }
  | 5 => { ax := mark { x with gen := { x.gen with st := 10 } }, ev := ev }
  | 6 | 7 | 9 => { ax := mark { x with gen := { x.gen with st := 0, act := .none } }, ev := ev }
  | 8 => if x.gen.discard then { ax := x } else { ax := mark { x with gen := { x.gen with discard := true } }, ev := ev }
  | _ => { ax := x }

/-- Sign of the motion a MOVE or RESUME would start with (R213). -/
def Axis.motionSign (x : Axis) (pv : PulseView) (bn : Nat) : Int :=
  match x.gen.act with
  | .move m => if m.jog then sgnI m.v else sgnI (m.target - x.gen.p)
  | .source =>
    if x.velSource then sgnI (x.sourceValue pv bn).2.1
    else sgnI ((x.sourceValue pv bn).1 - x.gen.p)
  | .none => 0

/-- Motion toward an active limit (R213). -/
def Gen.towardLimit (g : Gen) (s : Int) : Bool := (g.limP && decide (s > 0)) || (g.limN && decide (s < 0))

/-- RESUME (Table 9.3, R208, R213): an S-curve is planned in the step in which it starts. -/
def Axis.resume (x : Axis) (pv : PulseView) (bn : Nat) : ReqOut :=
  match x.gen.st with
  | 1 | 2 | 3 => { ax := x }
  | 4 | 5 | 8 => { status := stBusyMoving, ax := x }
  | 6 | 7 | 9 =>
    match x.gen.act with
    | .none => { status := stBadArg, ax := x }
    | .source =>
      let x := if x.srcSel = 1 then { x with src := { x.src with offset := x.gen.p - finePos pv bn, finePrev := x.gen.p } } else x
      if !x.softOn || x.gen.towardLimit (x.motionSign pv bn) then { status := stBadArg, ax := x }
      else { ax := { x with gen := { x.gen with st := 3, softNew := true, soft := some (if x.velSource then x.gen.vRef else x.gen.p) }
                            src := { x.src with engaged := true } } }
    | .move m =>
      if x.gen.towardLimit (x.motionSign pv bn) then { status := stBadArg, ax := x }
      else
        { ax := ({ x with gen := { x.gen with st := if m.jog then 2 else 1, rampNew := false, plan := none, planNew := m.scurve } } : Axis).bump }
  | _ => { status := stBadArg, ax := x }

/-- Disable: AXIS.DISABLE or a zone's entry into STO (R204). -/
def Axis.disable (x : Axis) : ReqOut :=
  let e := x.endActivity 1
  { ax := { e.1 with enabled := false
                     gen := { e.1.gen with st := 0, v := 0, a := 0, plan := none, pend := none, queued := none, rampNew := false
                                           planNew := false, discard := false, soft := none, softNew := false, engageNew := false
                                           vRef := 0, aRef := 0 }
                     src := { e.1.src with engaged := false } }
    ev := e.2 }

/-- Enable: the generator starts afresh (R197), the loop in its first cycle (R156, R176), the last released command at zero motion
(R252). -/
def Axis.enable (x : Axis) : Axis :=
  { x with enabled := true
           gen := { p := x.fb.pos, pRef := x.fb.pos, limP := x.gen.limP, limN := x.gen.limN, target := x.gen.target
                    remain := x.gen.remain, endCause := x.gen.endCause, softNew := x.softOn
                    engageNew := decide (x.srcSel ≠ 0) }
           loop := { x.loop with first := true, stepPrev := shrRne x.fb.pos 32 }
           curst := { x.curst with fresh := true, y := 0, yNext := none, iqCopied := none }
           undo := none
           rel := {}
           load := { x.load with known := false }
           src := { x.src with p := x.measured, v := 0, a := 0, engaged := false }
           fb := { x.fb with prevOk := false, known := false } }

end Sys2Proof.Machine
end

