-- ==== Sys2Proof/Machine/StPins.lean ====
section
/-!
DEFINITION. State of pulse inputs, step outputs, feedback ports, converters, limit inputs, captures and cycle points
(chapters 9, 10 and 15).
-/
namespace Sys2Proof.Machine

/-- Pulse input PINn (R217, Table 9.8). -/
structure PulseIn where
  cfg : Word := 0x3E800
  /-- `PIN.COUNT`, not reduced to 32 bits, so that every axis's extension of it (R148) can be read from it. -/
  count : Int := 0
  lastDir : Int := 1
  tLast : Nat := 0
  period : Nat := 0
  /-- Steps counted since the start or the last both-lines error, up to 2. -/
  steps : Nat := 0
  /-- The last two steps agree in direction. -/
  agree : Bool := false
  /-- PULSE_ERR events, saturating. -/
  errs : Nat := 0
  /-- Count, direction, time, period and validity as they stood at the last boundary (R218). -/
  bCount : Int := 0
  bDir : Int := 1
  bLast : Nat := 0
  bPeriod : Nat := 0
  bOk : Bool := false
  deriving DecidableEq, Repr

/-- Step output STPn/DIRn (R219, Table 9.9). -/
structure StepPort where
  cfg : Word := 0x2280A
  /-- Rate in use, microsteps per cycle, Q16.16. -/
  rate : Int := 0
  /-- Phase gathered up to `since`, in Q16.16 × ns of the cycle. -/
  acc : Nat := 0
  since : Nat := 0
  /-- Tc after the last release: the rate ends (R219). -/
  expiry : Nat := 0
  /-- Sense of DIRn: true negative; and the time from which it is stable. -/
  dirNeg : Bool := false
  dirStable : Nat := 0
  /-- When the last pulse began. -/
  lastPulse : Option Nat := none
  /-- `STP.POS` and `STP.SUPPRESSED`. -/
  pos : Int := 0
  suppressed : Nat := 0
  deriving DecidableEq, Repr

/-- Result record of a feedback port (Table 10.3). -/
structure FbResult where
  pos : Word := 0
  vel : Word := 0
  valid : Bool := false
  crcErr : Bool := false
  encErr : Bool := false
  timeout : Bool := false
  doubleEdge : Bool := false
  dirChg : Bool := false
  discarded : Bool := false
  zSeen : Bool := false
  zCount : Word := 0
  startDly : Nat := 0
  deriving DecidableEq, Repr

/-- Feedback port ENCn (Table 10.2, R224 to R234). -/
structure FbPort where
  w0 : Word := 0x061A1400
  w1 : Word := 0x19010003
  w2 : Word := 0x12C00
  w3 : Word := 0
  w4 : Word := 1000
  /-- Serial: position, and the flags of R226 and R234. -/
  q32 : Nat := 0
  first : Bool := true
  goodPrev : Bool := false
  /-- Request time of the word in progress, and its start edge. -/
  request : Option Nat := none
  start : Option Nat := none
  /-- FEEDBACK.SINGLE_READ awaiting the word. -/
  single : Option MsgRef := none
  /-- Incremental count. -/
  count : Int := 0
  /-- Count and time of the last edge, and of the last edge at or before the previous latch (R231). -/
  ce : Int := 0
  te : Nat := 0
  cr : Int := 0
  tr : Nat := 0
  lastSign : Int := 0
  /-- An edge in this window; the last edge was a reversal. -/
  edge : Bool := false
  revLast : Bool := false
  /-- DOUBLE_EDGE and DIR_CHG of this window (R230, R232). -/
  dbl : Bool := false
  dir : Bool := false
  vPrev : Int := 0
  firstLatch : Bool := true
  /-- Time of the last index edge (R233). -/
  zAt : Option Nat := none
  /-- The port's result of the cycle is complete (R235), and free of faults (R167). -/
  complete : Bool := false
  faulty : Bool := false
  res : FbResult := {}
  deriving DecidableEq, Repr

/-- A running sequence (R242, R243). -/
structure ConvRun where
  idx : Nat := 0
  w0 : Word := 0
  w1 : Word := 0
  seq : Tbl Word := []
  /-- The conversion in hand began and completes at (R238, R239). -/
  begun : Nat := 0
  until_ : Nat := 0
  /-- `REF_OK` read 0 in the integration in hand (R246). -/
  refBad : Bool := false
  mainsBad : Bool := false
  /-- Tag of the first saturated result of the sequence. -/
  satTag : Option Nat := none
  deriving DecidableEq, Repr

/-- Converter S or P (Tables 10.6 to 10.8, R238 to R248). -/
structure Conv where
  w0 : Word := 0x10
  w1 : Word := 0x100
  w2 : Word := 0
  w3 : Word := 0
  w4 : Word := 0
  seq : Tbl Word := []
  /-- Results, two words per tag. -/
  res : Tbl Word := []
  run : Option ConvRun := none
  armed : Bool := false
  /-- Next absolute start (R243). -/
  next : Option Nat := none
  /-- A start in the tick in which the running sequence ends: it is made when the end is known (R243). -/
  again : Option Nat := none
  skip : Nat := 0
  refOk : Bool := false
  /-- The converter stays off after a failed self-test (R248). -/
  off : Bool := false
  /-- Mains lock: last crossing, last intervals newest first, lock, measured period (R240). -/
  cross : Option Nat := none
  intervals : List Nat := []
  lock : Bool := false
  period : Nat := 0
  deriving DecidableEq, Repr

/-- Debounced levels of a local limit pair (R211): bit f of a side is its level for an axis with `LIM.FILT` = f. -/
structure LimPair where
  p : Nat := 0
  n : Nat := 0
  deriving DecidableEq, Repr

/-- Capture input CAPn (R455, Table 15.7). -/
structure Capture where
  /-- Edge selection as written, and in force. -/
  edge : Nat := 0
  edgeNow : Nat := 0
  time : Nat := 0
  count : Nat := 0
  level : Bool := false
  more : Bool := false
  /-- An edge since the last read. -/
  seen : Bool := false
  deriving DecidableEq, Repr

/-- Cycle point CPk (R26): the word as written and in force. -/
structure CyclePt where
  cfg : Word := 0
  now : Word := 0
  /-- Cycle in which it last fired, plus 1. -/
  fired : Nat := 0
  /-- CPOk is driven high until this time. -/
  driveUntil : Nat := 0
  deriving DecidableEq, Repr

/-- All pins blocks of the device. -/
structure Pins where
  pin : Tbl PulseIn := []
  stp : Tbl StepPort := []
  fb : Tbl FbPort := []
  convS : Conv := {}
  convP : Conv := {}
  lim : Tbl LimPair := []
  cap : Tbl Capture := []
  cp : Tbl CyclePt := []
  deriving DecidableEq, Repr

end Sys2Proof.Machine
end

