-- ==== Sys2Proof/Machine/PinOps.lean ====
section
/-!
DEFINITION. Pulse inputs, step outputs, feedback ports and converters: counting, timing, velocity, CRC and result rules
(R214, R217 to R219, R222 to R246, R249).
-/
namespace Sys2Proof.Machine

/-- An event to raise: number, `ARG16`, `ARG32` (Table 17.4). -/
abbrev EvReq := Nat × Nat × Nat

/-! Pulse inputs. -/

def PulseIn.k (p : PulseIn) : Nat := fld p.cfg 6 2

/-- The view the generator reads at the boundary (R218). -/
def PulseIn.view (p : PulseIn) : PulseView :=
  { count := p.bCount, dir := p.bDir, tLast := p.bLast, period := p.bPeriod, ok := p.bOk
    k := p.k, tmax := fld p.cfg 23 8 * 1000 }

/-- The boundary samples a pulse input (R218). -/
def PulseIn.sample (p : PulseIn) : PulseIn :=
  { p with bCount := p.count, bDir := p.lastDir, bLast := p.tLast, bPeriod := p.period, bOk := decide (2 ≤ p.steps) && p.agree }

/-- One step of a pulse input, or a both-lines error (R217). -/
def PulseIn.step (p : PulseIn) (s : PulseStep) (t : Nat) : PulseIn :=
  match s with
  | .both => { p with steps := 0, agree := false, errs := cadd p.errs 1 }
  | _ =>
    let raw : Int := if s = .forward then 1 else -1
    let d := if bit p.cfg 1 then -raw else raw
    { p with count := p.count + d, lastDir := d, tLast := t, period := t - p.tLast, steps := min 2 (p.steps + 1)
             agree := decide (p.lastDir = d) }

/-- `PIN.CFGn` ranges (Table 9.8). -/
def pinCfgOk (w : Word) : Bool := within w 0xFFFF7F && decide (fld w 6 2 ≤ 16) && decide (fld w 23 8 ≠ 0)

/-! Step outputs. -/

/-- `STP.CFGn` ranges (Table 9.9). -/
def stpCfgOk (w : Word) : Bool := within w 0x3FFFF && decide (2 ≤ fld w 7 0) && decide (fld w 15 8 ≠ 0)

/-- Largest |y| of a step output, Q16.16 microsteps per cycle (R219, Table 9.9). -/
def StepPort.maxRate (p : StepPort) (tc : Nat) : Nat := min (tc * 65536 / (10 * fld p.cfg 7 0)) (tc * 65536 / 100)

/-- Phase gathered up to a time, in Q16.16 × ns. -/
def StepPort.phase (p : StepPort) (t : Nat) : Nat := p.acc + p.rate.natAbs * (min t p.expiry - p.since)

/-- Is |y| above what the output allows? -/
def StepPort.clamps (p : StepPort) (y : Int) (tc : Nat) : Bool := decide (y.natAbs > p.maxRate tc)

/-- A result is released to a step output (R159, R219). -/
def StepPort.release (p : StepPort) (y : Int) (t tc : Nat) : StepPort :=
  let y' : Int := sgnI y * min y.natAbs (p.maxRate tc)
  let neg := if y' = 0 then p.dirNeg else decide (y' < 0)
  { p with acc := p.phase t, since := t, rate := y', expiry := t + tc, dirNeg := neg
           dirStable := if neg = p.dirNeg then p.dirStable else t + 5 * fld p.cfg 15 8 }

/-- Level of DIRn: high for negative steps, or for positive ones with `STP.DIR_INV` (Table 9.9; DESIGN CHOICE, log
entry 118). -/
def StepPort.dirLevel (p : StepPort) : Bool := p.dirNeg != bit p.cfg 16

/-- A pulse that falls due at `t` leaves once DIRn is stable and two widths have passed since the last one (R219, Table 9.9). -/
def StepPort.spaced (p : StepPort) (t : Nat) : Nat :=
  max (max t p.dirStable) (match p.lastPulse with
    | some l => l + 10 * fld p.cfg 7 0
    | none => 0)

/-- The instant of the next pulse: one held back, or the next that the rate brings before it ends. -/
def StepPort.due (p : StepPort) (tc : Nat) : Option Nat :=
  if 65536 * tc ≤ p.acc then some (p.spaced p.since)
  else if p.rate = 0 then none
  else
    let at_ := p.since + (65536 * tc - p.acc + p.rate.natAbs - 1) / p.rate.natAbs
    if at_ ≤ p.expiry then some (p.spaced at_) else none

/-- A pulse leaves, or is suppressed by an active limit (R214, R219). -/
def StepPort.pulse (p : StepPort) (t tc : Nat) (gated : Bool) : StepPort :=
  let q := { p with acc := p.phase t - 65536 * tc, since := max p.since (min t p.expiry), lastPulse := some t }
  if gated then { q with suppressed := cadd q.suppressed 1 }
  else { q with pos := sgn 32 (ubits 32 (q.pos + if p.dirNeg then -1 else 1)) }

/-- Tc after the last release the increment becomes 0. -/
def StepPort.expire (p : StepPort) : StepPort := { p with acc := p.phase p.expiry, since := p.expiry, rate := 0 }

/-! Feedback ports. -/

def FbPort.mode (p : FbPort) : Nat := fld p.w0 1 0
def FbPort.dirInv (p : FbPort) : Bool := bit p.w0 2
def FbPort.zClear (p : FbPort) : Bool := bit p.w0 3
def FbPort.tclk (p : FbPort) : Nat := 10 * fld p.w0 15 8
def FbPort.dLen (p : FbPort) : Nat := fld p.w0 21 16
def FbPort.crcLen (p : FbPort) : Nat := fld p.w0 27 24
def FbPort.posBits (p : FbPort) : Nat := fld p.w1 29 24
def FbPort.offset (p : FbPort) : Nat := fld p.w3 23 0
def FbPort.timeoutNs (p : FbPort) : Nat := 10 * fld p.w2 19 8

/-- Duration from the start edge to the complete word (R224). -/
def FbPort.wordNs (p : FbPort) : Nat := (2 * (p.dLen + p.crcLen) + 3) * p.tclk / 2 + 10

/-- The timing check of R228 at a cycle length. -/
def FbPort.timingOk (p : FbPort) (tc : Nat) : Bool :=
  p.mode != 1 || decide (p.offset + p.timeoutNs + p.wordNs + fld p.w3 31 24 * 1000 ≤ tc)

/-- `FB.CFGn` as written: ranges and consistency (R223). -/
def FbPort.cfgOk (p : FbPort) (tc : Nat) : Bool :=
  within p.w0 0x0F3FFF7F && within p.w1 0x3F3FFFFF && within p.w2 0xFFF3F && within p.w4 0xFFFF &&
  decide (10 ≤ fld p.w0 15 8) && decide (fld p.w0 15 8 ≤ 200) && decide (8 ≤ p.dLen) && decide (p.dLen ≤ 48) &&
  decide (5 ≤ p.crcLen) && decide (p.crcLen ≤ 8) && decide (fld p.w1 7 0 < 2 ^ p.crcLen) &&
  decide (fld p.w1 15 8 < 2 ^ p.crcLen) && decide (fld p.w1 21 16 ≤ 47) && decide (1 ≤ p.posBits) && decide (p.posBits ≤ 32) &&
  decide (fld p.w1 21 16 + p.posBits ≤ p.dLen) && decide (1 ≤ fld p.w2 19 8) && decide (1 ≤ fld p.w4 15 0) &&
  decide (p.offset < tc) &&
  (!bit p.w0 6 || (decide (fld p.w2 5 0 < p.dLen) &&
    (decide (fld p.w2 5 0 < fld p.w1 21 16) || decide (fld p.w1 21 16 + p.posBits ≤ fld p.w2 5 0)))) &&
  (!p.zClear || p.mode == 3) && p.timingOk tc

/-- One bit into the CRC register of R225. -/
def fbCrcStep (poly c reg : Nat) (b : Bool) : Nat :=
  if reg.testBit (c - 1) != b then ((reg * 2) % 2 ^ c) ^^^ poly else (reg * 2) % 2 ^ c

/-- CRC over the data bits in the order received (R225). -/
def fbCrc (poly c reg : Nat) : List Bool → Nat
  | [] => reg
  | b :: bs => fbCrc poly c (fbCrcStep poly c reg b) bs

/-- Bits to a number, the first the most significant. -/
def bitsNat (bs : List Bool) : Nat := bs.foldl (fun a b => 2 * a + b2n b) 0

/-- The port makes its request (R224, R237). -/
def FbPort.requestAt (p : FbPort) (t : Nat) : FbPort :=
  { p with request := some t, start := none, complete := false }

/-- The word is complete (R225 to R227, R234). -/
def FbPort.wordDone (p : FbPort) (bits : List Bool) : FbPort :=
  let data := bits.take p.dLen
  let rx := bitsNat ((bits.drop p.dLen).take p.crcLen)
  let rx' := if bit p.w0 4 then rx ^^^ (2 ^ p.crcLen - 1) else rx
  let crcBad := fbCrc (fld p.w1 7 0) p.crcLen (fld p.w1 15 8) data != rx'
  let d := bitsNat data
  let errBad := bit p.w0 6 && (d.testBit (fld p.w2 5 0) == bit p.w0 5)
  let r0 := (d >>> fld p.w1 21 16) % 2 ^ p.posBits
  let r := if p.dirInv then (2 ^ p.posBits - r0) % 2 ^ p.posBits else r0
  let good := !crcBad && !errBad
  let q := if !good then p.q32 else if p.first then r
           else ubits 32 ((p.q32 : Int) + sgn p.posBits (r + 2 ^ p.posBits - p.q32 % 2 ^ p.posBits))
  let vel : Int := if good && p.goodPrev && !p.first then satS 32 (sgn 32 (q + 4294967296 - p.q32) * 65536) else 0
  { p with q32 := q, first := p.first && !good, goodPrev := good, complete := true, faulty := !good
           request := none, start := none
           res := { p.res with
             pos := wd q, vel := wdi vel, valid := good, crcErr := crcBad, encErr := errBad && !crcBad, timeout := false
             doubleEdge := false, dirChg := false, discarded := false
             startDly := match p.request, p.start with
               | some a, some b => min (b - a) 0xFFFF
               | _, _ => p.res.startDly } }

/-- No start edge in time (R227). -/
def FbPort.timedOut (p : FbPort) : FbPort :=
  { p with complete := true, faulty := true, goodPrev := false, request := none, start := none
           res := { p.res with pos := wd p.q32, vel := 0, valid := false, crcErr := false, encErr := false, timeout := true
                               doubleEdge := false, dirChg := false, discarded := false } }

/-- An edge of an incremental port at time t, and the events it raises (R229, R230, R232). The count that an index edge of the same
sample latched includes the edge, and a clear then leaves 0 (R233). -/
def FbPort.quadEdge (p : FbPort) (n : Nat) (e : QuadEdge) (t : Nat) : FbPort × List EvReq :=
  match e with
  | .double => ({ p with dbl := true }, [])
  | _ =>
    let raw : Int := if e = .forward then 1 else -1
    let s := if p.dirInv then -raw else raw
    let same := p.zAt == some t
    let c := if same && p.mode == 3 && p.zClear then p.count else sgn 32 (ubits 32 (p.count + s))
    let rev := decide (p.lastSign ≠ 0) && decide (s ≠ p.lastSign)
    let m2 := rev && p.mode == 2
    let m3 := rev && p.mode == 3
    ({ p with count := c, ce := c, te := t, lastSign := s, edge := true
              revLast := m2, cr := if m2 then c else p.cr, tr := if m2 then t else p.tr, dir := p.dir || m3
              res := if same then { p.res with zCount := wdi (p.res.zCount.toInt + s) } else p.res },
     if m3 && !p.dir then [(72, n, ubits 32 c)] else [])

/-- The latch of B(n) + OFFSET (R229 to R232). The next reference is the last edge at or before it; where no edge has come yet, or a
double edge stands alone, it is the latch itself. -/
def FbPort.latch (p : FbPort) (ts tc : Nat) : FbPort :=
  let stop := decide (ts - p.te ≥ fld p.w4 15 0 * 1000)
  let v : Int :=
    if p.firstLatch then 0
    else if p.dbl then p.vPrev
    else if !p.edge then
      (if stop then 0 else sgnI p.vPrev * min (p.vPrev.natAbs : Int) (satS 32 (divRne ((tc : Int) * 65536) (ts - p.te))))
    else if p.mode = 2 && p.revLast then 0
    else satS 32 (divRne (sgn 32 (ubits 32 (p.ce - p.cr)) * tc * 65536) (p.te - p.tr))
  let disc := p.dbl || (p.edge && p.mode == 2 && p.revLast)
  let here := p.dbl || p.lastSign == 0
  { p with vPrev := v, firstLatch := false, edge := false, revLast := false, dbl := false, dir := false
           cr := if p.edge then p.ce else if here then p.count else p.ce
           tr := if p.edge then p.te else if here then ts else p.te
           complete := true, faulty := false
           res := { p.res with pos := wdi p.count, vel := wdi v, valid := true, crcErr := false, encErr := false
                               timeout := false, doubleEdge := p.dbl, dirChg := p.dir, discarded := disc } }

/-- An index edge at time t (R233). -/
def FbPort.indexEdge (p : FbPort) (n t : Nat) : FbPort × List EvReq :=
  let q := { p with zAt := some t, res := { p.res with zCount := wdi p.count, zSeen := true } }
  if p.mode = 3 && p.zClear then ({ q with count := 0 }, [(73, n, ubits 32 p.count)]) else (q, [])

/-- Words of the result record (Table 10.3). -/
def FbResult.words (r : FbResult) : List Word :=
  [r.pos, r.vel,
   wd (bitAt 0 r.valid + bitAt 1 r.crcErr + bitAt 2 r.encErr + bitAt 3 r.timeout + bitAt 4 r.doubleEdge + bitAt 5 r.dirChg
     + bitAt 6 r.discarded + bitAt 7 r.zSeen),
   r.zCount, wd r.startDly]

/-- A port freshly configured: first word, first latch, and no result yet (R226, R231, R234). A single read that is out goes on with
its request. -/
def FbPort.fresh (p : FbPort) : FbPort :=
  { p with first := true, goodPrev := false, firstLatch := true, complete := false
           request := if p.single.isSome then p.request else none, start := if p.single.isSome then p.start else none
           res := { p.res with vel := 0, valid := false, crcErr := false, encErr := false, timeout := false, doubleEdge := false
                               dirChg := false, discarded := false } }

/-! Converters. -/

def Conv.seqLen (w0 : Word) : Nat := fld w0 8 4
def Conv.trig (c : Conv) : Nat := fld c.w0 10 9
def Conv.lowPwr (c : Conv) : Bool := bit c.w0 2

/-- One entry's fields against the converter's power mode (Table 10.6, R247). -/
def seqEntryOk (low : Bool) (e : Word) : Bool :=
  within e 0xFF3FFF && decide (fld e 4 0 ≤ 23) && decide (fld e 10 8 ≤ 5) && decide (fld e 12 11 ≤ 2) &&
  (!low || (decide (1 ≤ fld e 10 8) && decide (fld e 10 8 ≤ 3)))

/-- The first `SEQ_LEN` entries. -/
def usedEntries (seq : Tbl Word) (w0 : Word) : List Word := Tbl.getRange 0 seq 0 (Conv.seqLen w0)

/-- `ADC.CFGx` as written (R241, R246, R247, Table 10.7); `isS` = converter S. -/
def convCfgOk (isS : Bool) (seq : Tbl Word) (w0 w1 : Word) : Bool :=
  within w0 0x3FFF && within w1 0xFFFF && decide (fld w0 1 0 ≤ 2) && (!isS || fld w0 1 0 == 0) && (isS || !bit w0 2) &&
  decide (1 ≤ Conv.seqLen w0) && decide (Conv.seqLen w0 ≤ 16) && decide (fld w0 10 9 ≤ 2) &&
  (fld w1 15 0 != 0 || (usedEntries seq w0).all (fun e => fld e 12 11 == 0)) &&
  (!bit w0 2 || (usedEntries seq w0).all (seqEntryOk true))

/-- Integration time in ns of a code, for a mains period (R239, Table 10.5). -/
def intTime (code tm : Nat) : Nat :=
  match code with
  | 0 => tm
  | 1 => 2 * tm
  | 2 => 5 * tm
  | 3 => 10 * tm
  | 4 => 1000000
  | _ => 4000000

/-- Time of an entry: its integration and 50 µs, twice where the open-wire current is on (R238, R239, R245). -/
def Conv.entryTime (c : Conv) (r : ConvRun) (nominal : Nat) : Nat :=
  let e := Tbl.get (0 : Word) r.seq r.idx
  let one := intTime (fld e 10 8) (if bit r.w0 3 && c.lock then c.period else nominal) + 50000
  if fld e 12 11 = 0 then one else 2 * one

/-- Begin the sequence, or its next entry, at t: the flags of the integration and its end, on a tick (R239, R246). -/
def Conv.beginEntry (c : Conv) (r : ConvRun) (nominal t : Nat) : ConvRun :=
  { r with refBad := !c.refOk, mainsBad := bit r.w0 3 && !c.lock, begun := t, until_ := (t + c.entryTime r nominal + 4) / 5 * 5 }

/-- A sequence starts at t (R243). -/
def Conv.startSeq (c : Conv) (nominal t : Nat) : Conv :=
  { c with run := some (c.beginEntry { idx := 0, w0 := c.w0, w1 := c.w1, seq := c.seq } nominal t) }

/-- The reference settles; in the tick in which an integration starts it counts as settled (R246). -/
def Conv.settle (c : Conv) (t : Nat) : Conv :=
  { c with refOk := true, run := c.run.map (fun r => if r.begun = t then { r with refBad := false } else r) }

/-- The result word of an entry (R238, R245, Table 10.8). -/
def resultWord (code : Int) (refBad ow sat mains : Bool) : Word :=
  wd (ubits 24 code + bitAt 24 refBad + bitAt 25 ow + bitAt 26 sat + bitAt 27 mains + bitAt 31 true)

/-- Saturation of a result code (R238). -/
def convSat (c : Int) : Int := clampI (-8388607) 8388607 c

/-- V_ref of `ADC.REF` as a fraction in nV (Table 10.7): internal, VREF_EXT, or three quarters of VAA33. -/
def Conv.vref (c : Conv) (v : Conversion) : Nat × Nat :=
  match fld c.w0 1 0 with
  | 0 => (v.internal, 1)
  | 1 => (v.external, 1)
  | _ => (3 * v.supply, 4)

/-- 2^23 × G × V_in / V_ref, to nearest with ties to even, before saturation (R238). -/
def Conv.code (c : Conv) (v : Conversion) (gain : Nat) (vin : Int) : Int :=
  divRne (8388608 * 2 ^ gain * vin * (c.vref v).2) (c.vref v).1

/-- The running sequence ends in the tick t: its last entry completes then. -/
def ConvRun.endsAt (r : ConvRun) (t : Nat) : Bool := decide (Conv.seqLen r.w0 ≤ r.idx + 1) && decide (r.until_ ≤ t)

/-- A start that falls at t: made at once, kept for an end of the same tick, which counts as before it (R243), or skipped. -/
def Conv.startAt (c : Conv) (nominal t : Nat) (skip : Conv → Conv) : Conv :=
  match c.run with
  | none => c.startSeq nominal t
  | some r => if r.endsAt t && c.again.isNone then { c with again := some t } else skip c

/-- What a completed conversion leaves: converter, events, and an open-wire occurrence at an entry. -/
structure ConvOut where
  c : Conv := {}
  ev : List EvReq := []
  openWire : Option Nat := none
  deriving DecidableEq, Repr

/-- A conversion of the running sequence completes at t (R238, R243 to R246). `x` = 0 for S, 1 for P. -/
def Conv.done (c : Conv) (x : Nat) (r : ConvRun) (v : Conversion) (nominal t : Nat) : ConvOut :=
  let e := Tbl.get (0 : Word) r.seq r.idx
  let tag := fld e 23 16
  let raw := c.code v (fld e 7 5) v.vin
  let code := convSat raw
  let sat := code != raw
  let ow := fld e 12 11 != 0 && decide ((code - convSat (c.code v (fld e 7 5) v.second)).natAbs > fld r.w1 15 0 * 256)
  let res := Tbl.put (Tbl.put c.res (2 * tag) (resultWord code r.refBad ow sat
    (r.mainsBad && decide (fld e 10 8 ≤ 3)))) (2 * tag + 1) (wd t)
  let r' : ConvRun := { r with satTag := match r.satTag with
    | some g => some g
    | none => if sat then some tag else none }
  let c' : Conv := { c with res := res }
  let last := decide (Conv.seqLen r.w0 ≤ r.idx + 1)
  { c := if last then
        (match c.again with
        | some t0 => ({ c' with again := none } : Conv).startSeq nominal t0
        | none => { c' with run := none })
      else { c' with run := some (c'.beginEntry { r' with idx := r.idx + 1 } nominal t) }
    ev := if last then
        (74 + x, r.idx + 1, c.skip) :: (match r'.satTag with | some g => [(79, x, g)] | none => [])
      else []
    openWire := if ow then some r.idx else none }

/-- A rising crossing on AIN23 (R240): lock, period and event 78 when the lock changes. -/
def Conv.crossing (c : Conv) (x nominal t : Nat) : Conv × List EvReq :=
  match c.cross with
  | none => ({ c with cross := some t }, [])
  | some t0 =>
    let d := t - t0
    let inBand (i : Nat) : Bool := decide (95 * nominal ≤ 100 * i) && decide (100 * i ≤ 105 * nominal)
    let l := (d :: c.intervals).take 8
    let lock := if inBand d then c.lock || (decide (l.length = 8) && l.all inBand) else false
    let period := if lock then (divOpen l.sum 8).toNat else 0
    ({ c with cross := some t, intervals := l, lock := lock, period := period },
     if lock != c.lock then [(78, x + bitAt 1 lock, period)] else [])

/-- No crossing for 2 nominal periods (R240). -/
def Conv.lockLost (c : Conv) (x : Nat) : Conv × List EvReq :=
  ({ c with lock := false, intervals := [], period := 0 }, if c.lock then [(78, x, 0)] else [])

/-- The selected reference changes (R246): `REF_OK` falls and the conversion in hand is marked. -/
def Conv.refChange (c : Conv) (x : Nat) : Conv × List EvReq :=
  ({ c with refOk := false, run := c.run.map (fun r => { r with refBad := true }) },
   if c.refOk then [(77, x, 0)] else [])

end Sys2Proof.Machine
end

