-- ==== Sys2Proof/Machine/StCan.lean ====
section
/-!
DEFINITION. State of a CAN port: configuration, filters, schedule, queues, errors, time master and counters
(chapter 13).
-/
namespace Sys2Proof.Machine

/-- CAN counter record (Table 13.14). -/
structure CanCounters where
  txOk : Nat := 0
  rxOk : Nat := 0
  overrun : Nat := 0
  noMatch : Nat := 0
  malformed : Nat := 0
  winMiss : Nat := 0
  lateStart : Nat := 0
  misplaced : Nat := 0
  deriving DecidableEq, Repr

/-- What a port has on the bus. -/
inductive OnBus where
  /-- A queue entry, and the exclusive window it was started in. -/
  | entry (i : Nat) (window : Option Nat)
  /-- The own reference message, with its data (Table 13.9). -/
  | reference (data : List Byte)
  /-- The head PDU; true in the repeat window. -/
  | headPdu (again : Bool)
  deriving DecidableEq, Repr

/-- Configuration words of a port (Table 13.2). -/
structure CanCfg where
  w0 : Word := 0
  w1 : Word := 0x04081F0A
  w2 : Word := 0x02851304
  w3 : Word := 0
  w4 : Word := 2000
  deriving DecidableEq, Repr

/-- A CAN port. -/
structure CanPort where
  cfg : CanCfg := {}
  /-- Filter entries and schedule windows, two words each. -/
  filt : Tbl Word := []
  win : Tbl Word := []
  /-- The port runs and may transmit; otherwise it is off or monitoring (Table 13.3). -/
  active : Bool := false
  /-- The port receives (runs or monitors). -/
  listening : Bool := false
  tec : Nat := 0
  rec_ : Nat := 0
  passive : Bool := false
  busOff : Bool := false
  recovering : Bool := false
  noAck : Bool := false
  /-- Consecutive frames that ended in an ACK error. -/
  ackRun : Nat := 0
  waitIdx : Option Nat := none
  cause : Nat := 0
  master : Bool := false
  refOk : Bool := false
  /-- Owned transmit entries in the order their `OWN` was set. -/
  owned : List Nat := []
  onBus : Option OnBus := none
  txMem : Memory := []
  rxMem : Memory := []
  rxHead : Nat := 0
  rxTail : Nat := 0
  /-- Word window: entry and next word. -/
  lock : Option (Nat × Nat) := none
  cnt : CanCounters := {}
  deriving DecidableEq, Repr

/-- Time-triggered state of a port (R332 to R339). -/
structure CanTt where
  /-- Time base at the Sync_Mark of the last reference message, ns; basic cycle count. -/
  mark : Nat := 0
  count : Nat := 0
  /-- The basic cycle has begun at least once. -/
  begun : Bool := false
  /-- Time of the last basic cycle started by this port as master. -/
  base : Nat := 0
  /-- Global time less own time base, ns (slave). -/
  offset : Int := 0
  /-- LATE_SPEAKER raised in this basic cycle. -/
  late : Bool := false
  /-- Time base at the last reference message received, ns. -/
  refAt : Nat := 0
  /-- References lost has been raised. -/
  lostRaised : Bool := false
  deriving DecidableEq, Repr

/-- Both ports and the safety schedule (Table 13.12). -/
structure Can where
  p0 : CanPort := {}
  p1 : CanPort := {}
  t0 : CanTt := {}
  t1 : CanTt := {}
  s0 : Word := 0x00010010
  s1 : Word := 0x01720096
  s2 : Word := 0x03E80258
  deriving DecidableEq, Repr

end Sys2Proof.Machine
end

