-- ==== Sys2Proof/Machine/StChain.lean ====
section
/-!
DEFINITION. State of a chain unit: configuration, tables, frames launched and copies received, nodes, requests and
counters (chapters 3, 4 and 5).
-/
namespace Sys2Proof.Machine

/-- The command half of a spoke in the transmit buffer, with its ready flag (R22, Table 3.10). -/
structure TxSlot where
  ready : Bool := false
  /-- `SPK.CTRL`, or `CSP.CTRL` without its sequence bits. -/
  ctrl : Nat := 0
  /-- A launched compact spoke carries no mode, and its `CSP.FF` stands in `ff1` (Table 3.15). -/
  mode : Nat := 0
  target : Word := 0
  ff1 : Word := 0
  ff2 : Word := 0
  deriving DecidableEq, Repr

/-- One spoke of the frame launched in this cycle: the copies' candidates and the copy in use (R17 to R19). -/
structure SpokeRx where
  a : Option Feedback := none
  b : Option Feedback := none
  /-- Times at which the candidates were complete. -/
  ta : Nat := 0
  tb : Nat := 0
  /-- The copy in use: none, false A, true B. -/
  use : Option Bool := none
  /-- An item was posted for the spoke in this cycle. -/
  posted : Bool := false
  /-- Confirmed (R19). -/
  confirmed : Bool := false
  /-- Passed over, or due to go out empty, in the next frame. -/
  empty : Bool := false
  deriving DecidableEq, Repr

/-- What became of one returning copy of the cycle's servo frame (R79, R81, R85). -/
inductive CopyState where
  | outstanding
  | confirmed
  | discarded
  deriving DecidableEq, Repr

/-- One copy of the servo frame of the cycle. -/
structure CopyRec where
  state : CopyState := .discarded
  wrapped : Bool := false
  passSum : Nat := 0
  wrapAddr : Nat := 0xFF
  deriving DecidableEq, Repr

/-- What a node request is for (R101, R102, R135). -/
inductive ReqFor where
  | hostRead (m : MsgRef)
  | hostWrite (m : MsgRef)
  | stage
  | deliver
  | descriptor (part : Nat)
  | timeReport
  | setDelay
  | swapDelay
  deriving DecidableEq, Repr

/-- A queued node request (Table 4.6). -/
structure NodeReq where
  op : Nat := 0
  index : Word := 0
  len : Nat := 0
  data : List Byte := []
  use : ReqFor := .deliver
  /-- Times sent without a reply. -/
  sends : Nat := 0
  deriving DecidableEq, Repr

/-- What the head holds of one node address (chapters 4 and 5). -/
structure Node where
  assigned : Bool := false
  /-- Channel and hop of its census record, for ASSIGN. -/
  chanB : Bool := false
  hop : Nat := 0
  /-- Address to assign is waiting in service frames, with the sends made (R117). -/
  toAssign : Bool := false
  assignSends : Nat := 0
  dA : Word := 0xFFFFFFFF
  dB : Word := 0xFFFFFFFF
  /-- Sums of the measurement rounds, in 1/20 ns, and their number, per channel (R106, R107). -/
  sumA : Int := 0
  sumB : Int := 0
  roundsA : Nat := 0
  roundsB : Nat := 0
  queue : List NodeReq := []
  /-- The request at the front of the queue is in a frame that has not brought a final reply. -/
  inFlight : Bool := false
  /-- The node failed the match of its entry or the check of its descriptor: its spokes go out empty (R118, R135). -/
  mismatch : Bool := false
  desc : List Byte := []
  descParts : Nat := 0
  descOk : Bool := false
  /-- Its values were delivered before its descriptor was known: `APPLY_OFFSET` is still owed to it (R94). -/
  applyOwed : Bool := false
  /-- Cycle of the last TIME_REPORT sent (R112). -/
  lastReport : Nat := 0
  deriving DecidableEq, Repr

/-- A staging of a spoke map (R99, R100). -/
structure Staging where
  gen : Nat := 0
  e : Nat := 0
  map : Tbl Word := []
  /-- Nodes it affects, and those that confirmed, as address masks. -/
  affected : Nat := 0
  confirmed : Nat := 0
  /-- The TABLE.STAGE awaiting its completion. -/
  ref : Option MsgRef := none
  /-- The shadow map is locked by it (R99). -/
  lock : Bool := true
  /-- Spokes that leave empty until its e, for the staging it replaced (R99). -/
  carry : List Nat := []
  deriving DecidableEq, Repr

/-- A frame as launched: the block's output on one channel (Tables 3.5 to 3.8). -/
structure TxFrame where
  /-- `DA`, `SA` and EtherType (Table 3.5). -/
  da : Nat := 0
  sa : Nat := 0
  etype : Nat := 0
  kind : Nat := 0
  window : Nat := 0
  cycle : Nat := 0
  launchA : Nat := 0
  launchB : Nat := 0
  count : Nat := 0
  role : Nat := 0
  lease : Bool := false
  fmt : Bool := false
  rolling : Bool := false
  /-- `SPK.SEQ` of every spoke of a servo frame. -/
  seq : Nat := 0
  /-- Command halves of a servo frame, in spoke order. -/
  spokes : List TxSlot := []
  emptyCmd : Nat := 0
  /-- Payload bytes of the other kinds. -/
  payload : List Byte := []
  deriving DecidableEq, Repr

/-- Chain counter record (Table 3.23). -/
structure ChainCounters where
  crcLink : Nat := 0
  crcMarked : Nat := 0
  lost : Nat := 0
  passMismatch : Nat := 0
  emptyCmd : Nat := 0
  missing : Nat := 0
  foreign : Nat := 0
  wrapA : Nat := 0xFF
  wrapB : Nat := 0xFF
  deriving DecidableEq, Repr

/-- A chain's tables: one copy (Tables 4.1, 4.3 and 4.4). -/
structure Tables where
  /-- Windows, two words per entry. -/
  win : Tbl Word := []
  /-- Spoke map, one word per entry. -/
  map : Tbl Word := []
  /-- Node table, four words per entry. -/
  node : Tbl Word := []
  deriving DecidableEq, Repr

/-- Ring management of a head: census, close orders, delay measurement (R106, R107, R118, R122, R123). -/
structure Ring where
  /-- Last census per channel, as it came back. -/
  censusA : List CensusRec := []
  censusB : List CensusRec := []
  hopsA : Nat := 0
  hopsB : Nat := 0
  /-- The census before, for the agreement of Table 4.10. -/
  prevA : List CensusRec := []
  prevB : List CensusRec := []
  censuses : Nat := 0
  agree : Bool := false
  /-- The last census copy of each channel came back wrapped. -/
  backA : Bool := false
  backB : Bool := false
  /-- Time of the last census launched in RUN. -/
  lastCensus : Nat := 0
  /-- A delay measurement runs; its rounds still to launch, and on a wrapped ring those still to be named. -/
  measuring : Bool := false
  roundsLeft : Nat := 0
  round : Nat := 0
  byLoop : Bool := false
  toName : Nat := 0
  /-- Nodes to loop back on each channel, in order, and the nodes named in the last service frame and for this cycle (R107). -/
  sideA : List Nat := []
  sideB : List Nat := []
  loopA : Nat := 0xFF
  loopB : Nat := 0xFF
  loopNowA : Nat := 0xFF
  loopNowB : Nat := 0xFF
  /-- A node was given its address while running: `NTC.STEP` is owed to it (R123). -/
  stepOwed : Bool := false
  /-- Copies of the round in hand, channel A then B: receive stamp, launch stamp and records (R106). -/
  delayA : List DelayRec := []
  delayRxA : Nat := 0
  delayLaunchA : Nat := 0
  haveA : Bool := false
  delayB : List DelayRec := []
  delayRxB : Nat := 0
  delayLaunchB : Nat := 0
  haveB : Bool := false
  /-- Since when every census has shown the wrapping members' other ports up. -/
  healthySince : Option Nat := none
  /-- Effective cycle of the close order outstanding. -/
  close : Option Nat := none
  deriving DecidableEq, Repr

/-- A chain unit as a pass-through member (R63, R66, R120, R123, R292). -/
structure PassMember where
  /-- Node address given under R120; 0xFF = none. -/
  addr : Nat := 0xFF
  /-- The member wraps: the port that is live, true right. -/
  wrap : Option Bool := none
  /-- Effective cycle of the close order heard. -/
  closeAt : Option Nat := none
  /-- `DSC.HOPS` as channel-A discovery copies arrive (R298). -/
  hS : Nat := 0
  /-- Last x and r of each channel, ns (R292). -/
  xA : Int := 0
  xB : Int := 0
  rA : Int := 0
  rB : Int := 0
  /-- Last 64 values of the offset from the active and of K_A and K_B, newest first, as measured on this chain (R292). -/
  epsHist : List Int := []
  kaHist : List Int := []
  kbHist : List Int := []
  /-- Last forwarded frame: egress port (true right), wrapped flag, FCS inverted, wrap address. -/
  outRight : Bool := false
  outWrapped : Bool := false
  outInverted : Bool := false
  outWrapAddr : Nat := 0xFF
  forwarded : Nat := 0
  deriving DecidableEq, Repr

/-- One chain. -/
structure Chain where
  /-- `CHn.CFG` and the two port words. -/
  cfg : Word := 0x88B5
  portL : Word := 0
  portR : Word := 0
  emptyTh : Nat := 16
  /-- `CHn.GUARD` as written, and the values in force (R111). -/
  guard0 : Word := 0x000400C8
  guard1 : Word := 0x100
  guardNow0 : Word := 0x000400C8
  guardNow1 : Word := 0x100
  /-- `CHn.MISS_AT` as written, and the value in force (R165). -/
  missAt : Word := 0
  missAtNow : Word := 0
  linkL : Bool := false
  linkR : Bool := false
  /-- What the MDIO master last programmed into the PHY of each parallel port: its address, and 1000BASE-T full duplex advertised or
  100 Mbit/s full duplex forced (R58). -/
  phyL : Option (Nat × Bool) := none
  phyR : Option (Nat × Bool) := none
  shadow : Tables := {}
  active : Tables := {}
  /-- The spoke map of the frame that is out, and of the frame before it. -/
  launchMap : Tbl Word := []
  prevMap : Tbl Word := []
  staging : Option Staging := none
  gen : Nat := 0
  /-- Command sequence, +1 every cycle (R76). -/
  seq : Nat := 0
  /-- A servo frame of this cycle is out. -/
  out : Bool := false
  copyA : CopyRec := {}
  copyB : CopyRec := {}
  passDone : Bool := false
  spokes : Tbl SpokeRx := []
  slots : Tbl TxSlot := []
  /-- Spokes of the frame now leaving whose first byte is not yet due (R22). -/
  due : List Nat := []
  counters : ChainCounters := {}
  /-- Empty plus missing of the last 256 cycles, newest first (R87). -/
  hist : List Nat := []
  emptyNow : Nat := 0
  aboveTh : Bool := false
  wrapNow : Bool := false
  wrapped : Bool := false
  ring : Ring := {}
  nodes : Tbl Node := []
  /-- Pass-through members in the order their claims came (R120). -/
  members : List (BitVec 24) := []
  /-- Last frames launched, by kind. -/
  tx : Tbl TxFrame := []
  /-- Addresses whose request the holder of the acyclic windows has filled, for the service and the open frame (R400). -/
  filled : List Nat := []
  openFilled : List Nat := []
  pass : PassMember := {}
  /-- K_A and K_B of a head that took over (R298), ns; 0 on a head that won its claim. -/
  kA : Int := 0
  kB : Int := 0
  deriving DecidableEq, Repr

end Sys2Proof.Machine
end

