-- ==== Sys2Proof/Machine/StSafe.lean ====
section
/-!
DEFINITION. State of the safety function: configuration, zones, channels' data, inputs, output pairs and restart
(chapter 11).
-/
namespace Sys2Proof.Machine

/-- A node reply as one channel holds it for the safe cycle (R266). -/
structure SafeReply where
  accepted : Bool := false
  bytes : List Byte := []
  deriving DecidableEq, Repr

/-- Monitoring state of one safe axis (R269, R270). -/
structure SafeAxis where
  speed : Int := 0
  vStart : Nat := 0
  still : Nat := 0
  deriving DecidableEq, Repr

/-- One contact of a safe input as its channel filters it (R271). -/
structure Contact where
  /-- Filtered level: true closed. -/
  closed : Bool := false
  /-- Raw level of the last sample, and consecutive samples at it. -/
  raw : Bool := false
  same : Nat := 0
  deriving DecidableEq, Repr

/-- A safe input pair (R271, R272). -/
structure SafeIn where
  a : Contact := {}
  b : Contact := {}
  /-- Time at which one contact changed and the other has not yet followed. -/
  since : Option Nat := none
  /-- Discrepancy fault, and both contacts seen open together since. -/
  disc : Bool := false
  bothOpen : Bool := false
  deriving DecidableEq, Repr

/-- A zone in SS1 (R269, R270). -/
structure ZoneSs1 where
  /-- First safe cycle evaluated at or after the demand; set at that evaluation. -/
  j0 : Option Nat := none
  cause : Nat := 0
  deriving DecidableEq, Repr

/-- RESTART as one channel measures it (R275). -/
structure Press where
  /-- Since when it is active. -/
  since : Option Nat := none
  /-- Start and end of the press it last measured. -/
  last : Option (Nat × Nat) := none
  deriving DecidableEq, Repr

/-- The test of faulty pairs at a re-arming edge (R276). -/
structure PairTest where
  /-- Zones that leave STO if it passes, and the pairs under test. -/
  zones : Nat := 0
  pairs : Nat := 0
  /-- The test must have passed by then. -/
  until_ : Nat := 0
  /-- Pairs whose side A, and whose side B, has passed. -/
  okA : Nat := 0
  okB : Nat := 0
  deriving DecidableEq, Repr

/-- The safety function. -/
structure Safe where
  w0 : Word := 0x1142
  w1 : Word := 0x19003E8
  cfgId : Word := 0
  /-- Zone entries, safe-axis entries (three words each) and safe inputs. -/
  zone : Tbl Word := []
  axis : Tbl Word := []
  si : Tbl Word := []
  /-- Both channels have loaded the configuration. -/
  loaded : Bool := false
  confirmed : Bool := false
  /-- Zones in STO and SS1. -/
  sto : Nat := 0xFF
  ss1 : Nat := 0
  zss : Tbl ZoneSs1 := []
  hostSto : Nat := 0
  hostSs1 : Nat := 0
  /-- Safe cycle in progress, and whether one has begun. -/
  cycle : Nat := 0
  begun : Bool := false
  evaluated : Bool := false
  /-- Sequence of the last evaluated safe cycle. -/
  lastSeq : Nat := 0
  /-- Replies by node (address + 64 × chain), channel 1 and channel 2. -/
  rep1 : Tbl SafeReply := []
  rep2 : Tbl SafeReply := []
  /-- Last accepted `NSEQ` per node, plus 1; 0 = no baseline. -/
  nseq1 : Tbl Nat := []
  nseq2 : Tbl Nat := []
  mon : Tbl SafeAxis := []
  /-- Zones with a cause of Table 11.13 in the last evaluation. -/
  found : Nat := 0
  headPdu : List Byte := []
  /-- Copies of the head PDU sent in this safe cycle on CAN1. -/
  sent : Nat := 0
  /-- Output pairs: sides A and B energised, lasting fault. -/
  sideA : Nat := 0
  sideB : Nat := 0
  pairFault : Nat := 0
  /-- When the command of each pair last changed (R273). -/
  changedAt : Tbl Nat := []
  test : PairTest := {}
  input : Tbl SafeIn := []
  /-- RESTART as channels 1 and 2 measure it; held over from the entry into RUN-ACTIVE. -/
  press1 : Press := {}
  press2 : Press := {}
  held : Bool := false
  /-- The press has lasted beyond 3 s (R275). -/
  stuck : Bool := false
  /-- Lasting internal fault (R281). -/
  internal : Bool := false
  /-- MODE.SET 3 of SAFE-HOLD waiting for the re-arming edge, with its start (R374). -/
  waitArm : Option (MsgRef × Nat) := none
  /-- Verdict zones of the active's last head PDU, on a standby (R278, R279). -/
  seenSto : Nat := 0xFF
  /-- Zones in STO and in SS1 at S(j), and whether a head PDU of this safe cycle has been compared, on a standby (R278). -/
  stoAtS : Nat := 0xFF
  ss1AtS : Nat := 0
  pduSeen : Bool := false
  deriving DecidableEq, Repr

end Sys2Proof.Machine
end

