-- ==== Sys2Proof/Machine/StSys.lean ====
section
/-!
DEFINITION. State of the device as a whole: time base and cycle, modes and resets, straps, budgets and headroom, pending
changes, fault classes, power and memory detectors (chapters 1, 2, 4, 15, 17, 18 and 19; R1).
-/
namespace Sys2Proof.Machine

/-- The eight modes (Table 18.1). -/
inductive Mode where
  | dormant
  | reset
  | boot
  | configure
  | syncUp
  | runActive
  | runStandby
  | safeHold
  deriving DecidableEq, Repr

/-- Time base, rate correction and cycle counter (R14, R15, R104, R105, Table 15.7). -/
structure Clk where
  /-- Nanosecond counter, 64 bits. -/
  tb : Nat := 0
  /-- Its 32-bit fraction. -/
  frac : Nat := 0
  /-- Rate offset in force and requested, 2^-32 ns/ns. -/
  rate : Int := 0
  rateReq : Int := 0
  /-- Value staged to step to, and `PPS_STEP`. -/
  staged : Option Nat := none
  ppsStep : Bool := false
  /-- The step waits for a PPS edge (R104). -/
  waitPps : Bool := false
  stepped : Bool := false
  ppsLast : Option Nat := none
  /-- Origin of R15: time and cycle number. -/
  origin : Nat := 0
  originCycle : Nat := 0
  /-- The origin is fixed: cycles run or are to begin. -/
  fixed : Bool := false
  /-- The first cycle has begun. -/
  begun : Bool := false
  /-- 48-bit cycle counter. -/
  cycle : Nat := 0
  gear : Nat := 2
  deriving DecidableEq, Repr

/-- Straps as sampled at the end of RESET (R444). -/
structure Straps where
  cid : Nat := 0
  lead : Bool := true
  hsel : Bool := false
  side : Bool := false
  bootsel : Nat := 0
  deriving DecidableEq, Repr

/-- Mode, its last change, and what is to change it (R374, R419 to R422). -/
structure ModeRec where
  mode : Mode := .boot
  /-- CONFIGURE after a lapse (R295). -/
  lapsed : Bool := false
  /-- Chain ports dark whatever `CHn.CFG.PASS` holds (R295, R421). -/
  dark : Bool := false
  /-- Cause of the last change, as MODE.READ. -/
  cause : Nat := 6
  /-- Cycle counter at the last change. -/
  atCycle : Nat := 0
  /-- A change that takes effect at the next boundary: mode and cause. -/
  next : Option (Mode × Nat) := none
  /-- SYS.RESET accepted: RETAIN and the instant of the reset (R422). -/
  sysReset : Option (Bool × Nat) := none
  /-- The reset in progress, or the last one, retained the banks. -/
  retained : Bool := false
  /-- PORST# is low. -/
  porst : Bool := false
  /-- BOOT_DONE has been raised since the last reset. -/
  bootDone : Bool := false
  /-- Host link change seen during BOOT (R361). -/
  linkSeen : Bool := false
  /-- Self-test failures, as event 1 `ARG32`. -/
  selfTest : Nat := 0
  /-- The self-test found the safety processor, or the hard-wired logic, failed (R281). -/
  safetyBad : Bool := false
  hardwired : Bool := false
  /-- Boundary scan holds the device in EXTEST (R428). -/
  extest : Bool := false
  /-- No access is served: the memory clear has not ended (R427). -/
  clearing : Bool := true
  /-- Banks held at retention voltage (R428). -/
  asleep : Bool := false
  /-- Slots tried since the reset whose image failed, as bits: 0 slot A, 1 slot B (R364). -/
  tried : Nat := 0
  /-- An image has verified; the self-test has ended (R423). -/
  imageOk : Bool := false
  tested : Bool := false
  /-- A member loss or supervisor fault of R421 stands. -/
  stands : Bool := false
  deriving DecidableEq, Repr

/-- Phases of the claim and the start-up (R113 to R117). -/
inductive Phase where
  | idle
  | listen
  | claim
  /-- Won: waiting for the cluster's step order or a PPS edge. -/
  | won
  | census
  | assign
  | measure
  | deliver
  | stepClock
  | rolling
  /-- Forwarding as a pass-through member in SYNC-UP. -/
  | forward
  deriving DecidableEq, Repr

/-- The claim and the start-up (R113 to R117, Table 4.10). -/
structure Startup where
  phase : Phase := .idle
  /-- Time the phase or the claim period in hand began. -/
  since : Nat := 0
  /-- Consecutive quiet claim periods (R114). -/
  quiet : Nat := 0
  /-- A claim of lower or equal rank came in this period. -/
  heard : Bool := false
  round : Nat := 0
  roll : Nat := 0
  /-- Claim periods left until the next claim, the period in hand and the silent ones (R116); 0 = not silent. -/
  silent : Nat := 0
  /-- Launch stamps of own claims (R115). -/
  stamps : List Nat := []
  /-- Claim periods of the round in hand with a launch. -/
  launched : Nat := 0
  /-- Cycle in which the phase began. -/
  from_ : Nat := 0
  /-- First cycle of the rolling start; e of the first staging. -/
  rollE : Nat := 0
  deriving DecidableEq, Repr

/-- Budget sets, meters and activity counters (Tables 2.3 and 2.6a, R34 to R40). -/
structure Budgets where
  shadow : Tbl Word := []
  shadowW5 : Word := 10
  active : Tbl Word := []
  activeW5 : Word := 10
  /-- Budget left in the cycle; below 0 after an overrun (R35). -/
  left : Tbl Int := []
  /-- Measured in the cycle so far. -/
  now : Tbl Nat := []
  used : Tbl Nat := []
  peak : Tbl Nat := []
  /-- Largest `USED` of the window in hand. -/
  run : Tbl Nat := []
  defer : Tbl Nat := []
  drop : Tbl Nat := []
  deriving DecidableEq, Repr

/-- Headroom meter (Table 2.8, R42 to R45). -/
structure Headroom where
  slackLast : Int := 31250
  slackMin : Int := 31250
  projLast : Int := 31250
  projMin : Int := 31250
  k : Nat := 0x1000
  beyond : Bool := false
  /-- Cycles of the window in hand, and its minima. -/
  count : Nat := 0
  runS : Option Int := none
  runP : Option Int := none
  /-- Consecutive cycles below, and at or above, 10 % of Tc (saturating at 1,024). -/
  low : Nat := 0
  high : Nat := 0
  /-- HEADROOM_LOW may be raised. -/
  armed : Bool := true
  deriving DecidableEq, Repr

/-- A pending table commit (R95, R96). -/
structure Commit where
  ch0 : Bool := false
  ch1 : Bool := false
  budget : Bool := false
  e : Nat := 0
  deriving DecidableEq, Repr

/-- A pending gear shift (R48 to R53). -/
structure Shift where
  gear : Nat := 2
  e : Nat := 0
  budget : List Word := []
  win0 : List Word := []
  win1 : List Word := []
  /-- Accepted only at standstill: motion is locked (R49). -/
  still : Bool := false
  deriving DecidableEq, Repr

/-- A pending coefficient swap (R151): axes as a mask, and e. -/
structure Swap where
  axes : Nat := 0
  e : Nat := 0
  deriving DecidableEq, Repr

/-- A pending axis move (R221, R315): global axes and e. -/
structure AxisMove where
  src : Nat := 0
  dst : Nat := 0
  e : Nat := 0
  /-- The source lies on another member and holds a queued move (R221). -/
  queued : Bool := false
  deriving DecidableEq, Repr

/-- Pending changes. -/
structure Pend where
  commit : Option Commit := none
  shift : Option Shift := none
  swap : Option Swap := none
  move : Option AxisMove := none
  deriving DecidableEq, Repr

/-- N, W and reaction of a fault class (R408). -/
structure ClassCfg where
  n : Nat := 1
  w : Nat := 1
  r : Nat := 0
  deriving DecidableEq, Repr

/-- One instance of a fault class (R405 to R407). -/
structure FaultInst where
  cls : Nat := 0
  /-- Item; a chain or node of chain 1 counts from 256. -/
  idx : Nat := 0
  /-- Newest first, at most 16. -/
  stamps : List Nat := []
  /-- N and W in force when it became lasting. -/
  lasting : Option (Nat × Nat) := none
  /-- Reaction it carried out. -/
  react : Nat := 0
  deriving DecidableEq, Repr

/-- A fault-log entry waiting to be written (R411). -/
structure LogReq where
  cls : Nat := 0
  react : Nat := 0
  fallback : Bool := false
  idx : Nat := 0
  time : Nat := 0
  mode : Nat := 0
  deriving DecidableEq, Repr

/-- Fault classes and instances (R405 to R411). -/
structure Faults where
  /-- As EVENT.CLASS_WRITE last wrote, and in force from the boundary. -/
  cfg : Tbl ClassCfg := []
  now : Tbl ClassCfg := []
  transient : Tbl Nat := []
  inst : List FaultInst := []
  log : List LogReq := []
  /-- Heartbeat seen since B(n) and since B(n - 1), and the cycle of the last one (H3). -/
  hbNow : Bool := false
  hbPrev : Bool := true
  hbCycle : Nat := 0
  hbMissed : Nat := 0
  hbTime : Nat := 0
  /-- Time-base clock lost or off-frequency (H4). -/
  oscBad : Bool := false
  /-- Reaction 4 stands (H5). -/
  stopLease : Bool := false
  /-- `STAT.FAULT` and `STAT.WARNING` of the last confirmed spoke, per axis, as bits 0 and 1. -/
  node : Tbl Nat := []
  deriving DecidableEq, Repr

/-- Detectors and memory errors (R415, R426). -/
structure Power where
  railWarn : Nat := 0
  railFault : Nat := 0
  railLow : Nat := 0
  tempWarn : Bool := false
  tempFault : Bool := false
  vbatLow : Bool := false
  /-- The main rails are in range. -/
  railsOk : Bool := true
  eccCorr : Tbl Nat := []
  eccUnc : Nat := 0
  /-- A core test in progress. -/
  coreTest : Option (Nat × MsgRef) := none
  deriving DecidableEq, Repr

end Sys2Proof.Machine
end

