-- ==== Sys2Proof/Machine/StTrace.lean ====
section
/-!
DEFINITION. State of the acquisition engine, the filter jobs and the deadline arbiter (chapter 16).
-/
namespace Sys2Proof.Machine

/-- Running reductions of one signal over a group (R388). -/
structure Reduce where
  last : Int := 0
  min : Int := 0
  max : Int := 0
  sum : Int := 0
  sq : Nat := 0
  deriving DecidableEq, Repr

/-- A record or gap marker waiting in staging (R392). -/
structure StagedRec where
  gap : Bool := false
  /-- First sample covered or skipped, and samples covered. -/
  sample : Nat := 0
  samples : Nat := 1
  /-- Records skipped (gap marker). -/
  skipped : Nat := 0
  time : Nat := 0
  held : Bool := false
  /-- The values, as bytes after the header. -/
  body : List Byte := []
  deriving DecidableEq, Repr

/-- Trigger sequencer (R393, R394). -/
structure Sequencer where
  st : Nat := 0
  /-- It evaluates: the acquisition has been armed (state 2). -/
  live : Bool := false
  /-- Samples since entry into the state, saturating. -/
  age : Nat := 0
  run : Nat := 0
  times : Nat := 0
  /-- Previous sample's values, by signal. -/
  prev : List Int := []
  first : Bool := true
  deriving DecidableEq, Repr

/-- Acquisition engine (R385 to R394). -/
structure Trace where
  st : Nat := 0
  /-- TRACE.CFG: divider and group, pre-trigger samples, signal count. -/
  c0 : Word := 0x00010001
  c1 : Word := 0
  c2 : Word := 1
  sig : Tbl Word := []
  /-- Signal entries written, as a mask. -/
  written : Nat := 0
  /-- Sequencer states, four words each. -/
  trig : Tbl Word := []
  /-- Armed, and the first boundary is to come. -/
  armNew : Bool := false
  /-- Cycle n_a. -/
  nA : Nat := 0
  /-- Samples read. -/
  samples : Nat := 0
  /-- Events raised since the last sample, bit e. -/
  events : Nat := 0
  /-- Axes whose item of the cycle was dropped, failed or not run. -/
  group : List Reduce := []
  groupN : Nat := 0
  groupHeld : Bool := false
  groupTime : Nat := 0
  stage : List StagedRec := []
  /-- Gap being gathered: first sample, records, time, samples. -/
  gap : Option StagedRec := none
  seq : Sequencer := {}
  /-- Slots written since the arm, gap markers among them. -/
  slots : Nat := 0
  gaps : Nat := 0
  trigSample : Option Nat := none
  trigTime : Nat := 0
  /-- Slot of the trigger record, once written. -/
  trigSlot : Option Nat := none
  deriving DecidableEq, Repr

/-- A filter job (R395 to R398). -/
structure Job where
  kind : Nat := 0
  axis : Nat := 0
  log2 : Nat := 6
  src : Nat := 0
  dst : Nat := 0
  p4 : Word := 0
  p5 : Word := 0
  /-- 0 queued, 1 running, 2 done, 3 aborted. -/
  st : Nat := 0
  chunks : Nat := 0
  total : Nat := 0
  exp : Int := 0
  len : Nat := 0
  /-- The job has been granted the engine at least once. -/
  granted : Bool := false
  /-- Chirp of kind 2: first cycle n_0, once begun, and cycles done. -/
  chirp : Option Nat := none
  chirpDone : Nat := 0
  /-- A chunk item is posted. -/
  posted : Bool := false
  /-- An abort or a cut-off waits for the running chunk. -/
  stopping : Bool := false
  deriving DecidableEq, Repr

/-- A raised request: requester and deadline (R399). -/
structure ArbReq where
  who : Nat := 0
  deadline : Nat := 0
  deriving DecidableEq, Repr

/-- One resource of the arbiter (R400 to R403). -/
structure ArbRes where
  holder : Option Nat := none
  /-- Time of the grant, and service frames held. -/
  since : Nat := 0
  frames : Nat := 0
  raised : List ArbReq := []
  /-- Cut-off requesters ignored until they drop their request. -/
  ignored : List Nat := []
  /-- A cut-off waits for the next fill instant. -/
  cut : Bool := false
  deriving DecidableEq, Repr

/-- The deadline arbiter, with its limits in force (Table 16.8). -/
structure Arbiter where
  res : Tbl ArbRes := []
  w0 : Word := 0x00C803E8
  w1 : Word := 0x00040010
  w2 : Word := 0x000201F4
  deriving DecidableEq, Repr

end Sys2Proof.Machine
end

