-- ==== Sys2Proof/Machine/StTwin.lean ====
section
/-!
DEFINITION. State of the twin and the cluster: pair, token, silence, state copy, forwarded changes, swap and members
(chapter 12).
-/
namespace Sys2Proof.Machine

/-- A state copy as received: control block, axis records, profile records. -/
structure StateCopy where
  cb : ControlBlock := {}
  recs : List AxisRec := []
  precs : List ProfileRec := []
  deriving DecidableEq, Repr

/-- A planned swap in progress on the active (R307). -/
structure TwinSwap where
  ref : MsgRef := {}
  /-- Nodes of both chains (address + 64 × chain) whose SET_DELAY is not yet confirmed. -/
  waiting : List Nat := []
  /-- Swap cycle, once named. -/
  e : Option Nat := none
  acked : Bool := false
  deriving DecidableEq, Repr

/-- Twin configuration and status (Tables 12.1 and 12.10). -/
structure Twin where
  cfg : Word := 0x00180086
  /-- `TWIN.CFG_ID` as it stood at the exit from CONFIGURE (Table 12.1). -/
  cfgId : Word := 0
  /-- Lanes locked, as bits. -/
  lanes : Nat := 0
  peer : Option PairId := none
  valid : Bool := false
  /-- The twin's time base minus the own when the identities were exchanged (R291), ns. -/
  peerOff : Int := 0
  /-- The one step over the sync link since entry into SYNC-UP is made (R291). -/
  onceValid : Bool := false
  timeLock : Bool := false
  cfgCurrent : Bool := false
  /-- A copy has been applied. -/
  applied : Bool := false
  /-- Readiness as last raised; on the active, the twin's. -/
  ready : Bool := false
  /-- Last lease sequence sent or received. -/
  leaseSeq : Nat := 0
  /-- Cycle of the last renewal, plus 1; 0 = none. -/
  renewed : Nat := 0
  /-- The token is held. -/
  token : Bool := false
  /-- Unrenewed cycles (active) or silent cycles (standby). -/
  count : Nat := 0
  /-- A renewal of this cycle has been received. -/
  heard : Bool := false
  /-- Cycle of the last silence check, plus 1. -/
  checked : Nat := 0
  /-- H1 to H6 that failed at the last missed renewal, bits 0 to 5. -/
  failed : Nat := 0
  /-- H1 to H5 that failed in the cycle before, bits 0 to 4, as its end showed. -/
  healthNow : Nat := 0
  /-- The takeover is decided for the next boundary. -/
  takeover : Bool := false
  stateSeq : Nat := 0
  /-- State sequence the standby last acknowledged. -/
  acked : Nat := 0
  /-- A copy that closed and awaits the boundary. -/
  rx : Option StateCopy := none
  /-- The copy applied last. -/
  copy : StateCopy := {}
  /-- Profile records held, axis by axis; the queued one at axis + 256. -/
  precs : Tbl ProfileRec := []
  stale : Bool := false
  /-- The active is in SAFE-HOLD: a takeover lands there (R424). -/
  hold : Bool := false
  deriving DecidableEq, Repr

/-- The state copy of a cycle on its way to the twin (R24, R190): flow 2. -/
structure CopyBuild where
  cycle : Nat := 0
  /-- Axes accounted for, as a mask, and their records as they were released. -/
  mask : Nat := 0
  recs : Tbl AxisRec := []
  /-- Records sent, in axis order. -/
  sent : Nat := 0
  /-- Closed; a record that did not fit A7: the copy does not close (R37). -/
  closed : Bool := true
  lost : Bool := false
  deriving DecidableEq, Repr

/-- Time, counters, forwarded changes and the swap of a twin (R292, R305 to R309). -/
structure TwinLink where
  incomplete : Nat := 0
  /-- COPY_INCOMPLETE raised in this cycle. -/
  incompleteNow : Bool := false
  swaps : Nat := 0
  /-- Time of the last swap or takeover, and reminders raised since. -/
  hoursFrom : Nat := 0
  reminders : Nat := 0
  /-- Mean offset from the active (R292), ns. -/
  eps : Int := 0
  /-- Cycles in which |ε| has stayed above 100 ns. -/
  epsHigh : Nat := 0
  epsRaised : Bool := false
  /-- `CB.RINGc` measured on the active. -/
  ring0 : Nat := 0
  ring1 : Nat := 0
  /-- Configuration generation, and the changes forwarded in this cycle or, on a refresh request, until the refresh is done, oldest
  first (R305). -/
  cfgGen : Nat := 0
  changes : List Forwarded := []
  /-- A refresh is in progress: requested (standby) or being sent (active). -/
  refresh : Bool := false
  swap : Option TwinSwap := none
  /-- Swap cycle acknowledged last (standby). -/
  ackSent : Option Nat := none
  /-- Swap cycle named by the active (standby), or the cycle of a swap under way. -/
  swapE : Option Nat := none
  /-- The copy of this cycle, and that of the cycle before while items of it have still to end. -/
  build : CopyBuild := {}
  old : CopyBuild := {}
  /-- Profile records changed since the last acknowledgement. -/
  changed : List Nat := []
  /-- Profile records sent in copy: state sequence, axis and profile generation. -/
  sentRecs : List (Nat × Nat × Nat) := []
  /-- Events mirrored to the twin in this cycle, oldest first (R310). -/
  mirrored : List (List Word) := []
  deriving DecidableEq, Repr

/-- A command forwarded to a member and awaiting its response (R312, R371). -/
structure Outgoing where
  ref : MsgRef := {}
  member : Nat := 0
  deriving DecidableEq, Repr

/-- A lead command that gathers its members' statuses (R52, R371). -/
structure Gather where
  ref : MsgRef := {}
  waiting : Nat := 0
  /-- First refusal in ascending member order: member and status. -/
  refusal : Option (Nat × Nat) := none
  payload : List Word := []
  /-- The change, carried out when every member has accepted. -/
  request : List Word := []
  deriving DecidableEq, Repr

/-- Cluster configuration and members (Table 12.11, R311 to R315). -/
structure Cluster where
  cfg : Word := 1
  joined : Nat := 0
  lost : Nat := 0
  otherWay : Bool := false
  /-- Boundary offset of each member, ns. -/
  offset : Tbl Int := []
  /-- Cycle, plus 1, for which a member last reported H1 to H5, and what it reported. -/
  healthAt : Tbl Nat := []
  health : Tbl Nat := []
  /-- Cycle, plus 1, of the last grant received (member) or sent (lead). -/
  grant : Nat := 0
  /-- Members that won and that lost the claim. -/
  won : Nat := 0
  lostClaim : Nat := 0
  /-- The claim result a member has reported to its lead (R288). -/
  reported : Option Bool := none
  /-- An axis that moves, as the bridge brought it, and as it left over the bridge (R221, R315). -/
  movedIn : Option MovedAxis := none
  movedOut : Option MovedAxis := none
  out : List Outgoing := []
  /-- Events sent to the lead over the bridge in this cycle, oldest first (R312). -/
  sentEvents : List (List Word) := []
  /-- Last response sent to the lead over the bridge (R312). -/
  sentResponse : List Word := []
  gather : Option Gather := none
  /-- Last order sent to the members: opcode of the order and its data (R52, R288, R314). -/
  lastOrder : List Word := []
  deriving DecidableEq, Repr

end Sys2Proof.Machine
end

