-- ==== Sys2Proof/Machine/State.lean ====
section
/-!
DEFINITION. The state of the block, its reasons to stop, and the state after reset.
-/
namespace Sys2Proof.Machine

/-- The addressed memories (R350, R426): trace memory, 4 MiB, and exchange memory, 1 MiB, by byte offset in each. -/
structure Rams where
  trace : Memory := []
  exch : Memory := []
  deriving DecidableEq, Repr

/-- The whole state of a 4128. -/
structure State where
  /-- Commands that wait, first in, first out. -/
  pending : List Instr := []
  /-- Model's own: number of the next free value (the values are those of `Config.fresh`). -/
  free : Nat := 0
  clk : Clk := {}
  straps : Straps := {}
  md : ModeRec := {}
  startup : Startup := {}
  host : HostPort := {}
  irq : Irq := {}
  port : PortData := {}
  env : EnvPath := {}
  bbr : Bbr := {}
  fw : Fw := {}
  ch0 : Chain := {}
  ch1 : Chain := {}
  budget : Budgets := {}
  room : Headroom := {}
  pend : Pend := {}
  /-- Local axes 0 to 255. -/
  axes : Tbl Axis := []
  sched : Sched := {}
  faults : Faults := {}
  power : Power := {}
  safe : Safe := {}
  twin : Twin := {}
  link : TwinLink := {}
  clu : Cluster := {}
  can : Can := {}
  trace : Trace := {}
  /-- Filter jobs 0 to 59 in use. -/
  jobs : Tbl Job := []
  arb : Arbiter := {}
  pins : Pins := {}
  mem : Rams := {}
  deriving DecidableEq, Repr

/-- Why the block stops with a fault. No command of the table stops it: this type has no case. -/
inductive Fault where
  deriving DecidableEq, Repr

/-- Why a command has no meaning here. -/
inductive Refusal where
  /-- The arm of `exec` has no meaning yet; raised by no arm of the finished model (safe). -/
  | notModelled (mnemonic : String)
  deriving DecidableEq, Repr

/-- The block right after reset: BOOT begins, every field at the Reset column of its table (R361, R422, Table 14.5). -/
def State.reset : State := {}

end Sys2Proof.Machine
end

