-- ==== Sys2Proof/Machine/Ops.lean ====
section
/-!
DEFINITION. Operations shared by the commands: time, chains and axes, events and interrupts, responses, zone STO and SS1,
fault classes with their reactions, and mode changes.
-/
namespace Sys2Proof.Machine

/-- Every meaning ends in a next state. -/
abbrev Result' := Host.Outcome State Fault Refusal

/-- Cycle length of gear g, ns (Table 2.1). -/
def tcOf (g : Nat) : Nat := if g = 1 then 15625 else if g = 2 then 31250 else if g = 3 then 62500 else 125000

/-- Cycle length in force. -/
def Clk.tc (c : Clk) : Nat := tcOf c.gear

/-- B(n) (R15). -/
def Clk.b (c : Clk) (n : Nat) : Nat := c.origin + (n - c.originCycle) * c.tc

/-- A short cycle number extended from the launch time: of the cycles it may name, the one whose boundary lies nearest (R71). -/
def Clk.extend (c : Clk) (short launch : Nat) : Nat :=
  let near : Nat := c.originCycle + (launch - c.origin + c.tc / 2) / c.tc
  ((near : Int) + sgn 16 ((short + 65536 - near % 65536) % 65536)).toNat

/-- The first cycle at or after `n` whose low 16 bits are `short` (R103). -/
def firstCycle (n short : Nat) : Nat := n + (short + 65536 - n % 65536) % 65536

/-- The time-base value. -/
def State.now (s : State) : Nat := s.clk.tb

/-- The counter with its fraction as one number of 2^-32 ns, and what a tick adds to it (R14). -/
def Clk.total (c : Clk) : Nat := 4294967296 * c.tb + c.frac
def Clk.inc (c : Clk) : Nat := (5 * 4294967296 + 5 * c.rate).toNat

/-- The clock k ticks later (R14). -/
def Clk.after (c : Clk) (k : Nat) : Clk :=
  let x := c.total + k * c.inc
  { c with tb := x / 4294967296 % 2 ^ 64, frac := x % 4294967296 }

/-- Ticks until the first whose value is equal to or later than `t`; 0 when that is so already. -/
def Clk.until (c : Clk) (t : Nat) : Nat := (4294967296 * t - c.total + (c.inc - 1)) / c.inc

/-- Ticks completed at the instant `t`, which a row of the environment brings: the fabric reads the last of them (R14). -/
def Clk.by (c : Clk) (t : Nat) : Nat := (4294967295 + 4294967296 * t - c.total) / c.inc

/-- An instant of the device itself: the first tick whose value is equal to or later than `t` (R15, R26); time never goes back. -/
def State.to (s : State) (t : Nat) : State := { s with clk := s.clk.after (s.clk.until t) }

/-- An instant of the environment: the last tick completed at `t` (R14). -/
def State.by (s : State) (t : Nat) : State := { s with clk := s.clk.after (s.clk.by t) }

/-- The first tick whose value is equal to or later than `t` has not passed. -/
def State.due (s : State) (t : Nat) : Bool := decide (s.clk.total < 4294967296 * t + s.clk.inc)

/-- B(n) and B(n + 1) of the cycle in hand. -/
def State.bNow (s : State) : Nat := s.clk.b s.clk.cycle
def State.bNext (s : State) : Nat := s.clk.b (s.clk.cycle + 1)

/-- Cycle length in force. -/
def State.tc (s : State) : Nat := s.clk.tc

/-- `HS.MODE` code (Table 18.1). -/
def Mode.code : Mode → Nat
  | .dormant => 0
  | .reset => 1
  | .boot => 2
  | .configure => 3
  | .syncUp => 4
  | .runActive => 5
  | .runStandby => 6
  | .safeHold => 7

/-- Modes in which the device heads the chains: RUN-ACTIVE and SAFE-HOLD. -/
def Mode.heads (m : Mode) : Bool := m == .runActive || m == .safeHold

/-- The device heads its chains: it runs, or it is in the start-up after a won claim (Table 3.2). -/
def State.isHead (s : State) : Bool :=
  s.md.mode.heads || (s.md.mode == .syncUp && (s.startup.phase == .census || s.startup.phase == .assign
    || s.startup.phase == .measure || s.startup.phase == .deliver || s.startup.phase == .stepClock || s.startup.phase == .rolling))

/-- The cycle in hand is that of a planned swap: the active computes nothing in it, the standby runs it (R308). -/
def State.swapNow (s : State) : Bool := s.link.swapE == some s.clk.cycle

/-- The axes compute in the cycle in hand (Table 1.5, R308). -/
def State.computes (s : State) : Bool := if s.swapNow then s.md.mode == .runStandby else s.md.mode.heads

/-- The device takes feedback from returning, or at a swap from passing, copies (R17, R308). -/
def State.merges (s : State) : Bool := if s.swapNow then s.md.mode == .runStandby else s.isHead

/-- Modes in which fault windows count: cycles run (R406, Table 1.5). -/
def State.counting (s : State) : Bool :=
  s.clk.begun && (s.md.mode.heads || s.md.mode == .runStandby || (s.md.mode == .syncUp && s.startup.phase == .rolling))

/-- The time base runs (Table 18.1). -/
def Mode.timed (m : Mode) : Bool := !(m == .dormant || m == .reset)

/-- A chain by number. -/
def State.ch (s : State) (c : Nat) : Chain := if c = 0 then s.ch0 else s.ch1

/-- A chain replaced. -/
def State.setCh (s : State) (c : Nat) (x : Chain) : State := if c = 0 then { s with ch0 := x } else { s with ch1 := x }

/-- A chain changed. -/
def State.updCh (s : State) (c : Nat) (f : Chain → Chain) : State := s.setCh c (f (s.ch c))

/-- `CHn.CFG.ENABLE` (Table 3.3). -/
def Chain.enabled (c : Chain) : Bool := bit c.cfg 18

/-- A local axis. -/
def State.ax (s : State) (i : Nat) : Axis := Tbl.get {} s.axes i

/-- A local axis replaced. -/
def State.setAx (s : State) (i : Nat) (x : Axis) : State := { s with axes := Tbl.put s.axes i x }

/-- A local axis changed. -/
def State.updAx (s : State) (i : Nat) (f : Axis → Axis) : State := s.setAx i (f (s.ax i))

/-- Local axes that differ from an axis never written. -/
def State.axisList (s : State) : List Nat := s.axes.map (·.1)

/-- Pins by number. -/
def State.pin (s : State) (n : Nat) : PulseIn := Tbl.get {} s.pins.pin n
def State.stp (s : State) (n : Nat) : StepPort := Tbl.get {} s.pins.stp n
def State.fbp (s : State) (n : Nat) : FbPort := Tbl.get {} s.pins.fb n
def State.limp (s : State) (n : Nat) : LimPair := Tbl.get {} s.pins.lim n
def State.conv (s : State) (x : Nat) : Conv := if x = 0 then s.pins.convS else s.pins.convP
def State.setPin (s : State) (n : Nat) (x : PulseIn) : State := { s with pins := { s.pins with pin := Tbl.put s.pins.pin n x } }
def State.setStp (s : State) (n : Nat) (x : StepPort) : State := { s with pins := { s.pins with stp := Tbl.put s.pins.stp n x } }
def State.setFb (s : State) (n : Nat) (x : FbPort) : State := { s with pins := { s.pins with fb := Tbl.put s.pins.fb n x } }
def State.setConv (s : State) (x : Nat) (c : Conv) : State :=
  if x = 0 then { s with pins := { s.pins with convS := c } } else { s with pins := { s.pins with convP := c } }
/-- The pulse input an axis is geared to, as its generator reads it. -/
def State.pulseView (s : State) (x : Axis) : PulseView := (s.pin x.pinPort).view

/-- A CAN port and its time-triggered part. -/
def State.canPort (s : State) (n : Nat) : CanPort := if n = 0 then s.can.p0 else s.can.p1
def State.canTt (s : State) (n : Nat) : CanTt := if n = 0 then s.can.t0 else s.can.t1
def State.setCan (s : State) (n : Nat) (p : CanPort) : State :=
  if n = 0 then { s with can := { s.can with p0 := p } } else { s with can := { s.can with p1 := p } }
def State.setTt (s : State) (n : Nat) (t : CanTt) : State :=
  if n = 0 then { s with can := { s.can with t0 := t } } else { s with can := { s.can with t1 := t } }

/-- `TWIN.ENABLE`, L and `AGE_MAX` (Table 12.1). -/
def Twin.enable (t : Twin) : Bool := bit t.cfg 0
def Twin.l (t : Twin) : Nat := fld t.cfg 5 1
def Twin.ageMax (t : Twin) : Nat := fld t.cfg 9 6

/-- A twin is configured and ready (R409). -/
def State.twinReady (s : State) : Bool := s.twin.enable && s.twin.ready

/-! ## Events and interrupts (R358 to R360, R412) -/

/-- Vector of event e. -/
def Irq.vector (q : Irq) (e : Nat) : Nat := ((Tbl.get (0 : Word) q.route (e / 4)).toNat >>> (8 * (e % 4))) % 32

/-- Vector masked in the MSI-X table. -/
def Irq.vecMasked (q : Irq) (v : Nat) : Bool := bit (Tbl.get (1 : Word) q.msixTable (4 * v + 3)) 0

/-- A message of vector v falls due: sent, or marked in the pending-bit array. -/
def Irq.message (q : Irq) (up : Bool) (v : Nat) : Irq :=
  if up && q.msixEnabled && !q.vecMasked v then { q with sent := Tbl.put q.sent v (Tbl.get 0 q.sent v + 1) }
  else { q with pba := putBit q.pba v true }

/-- A pending bit is set; under PCI Express a vector signals when the bit becomes set while unmasked. -/
def Irq.set (q : Irq) (pcie up : Bool) (e : Nat) : Irq :=
  if pcie && !q.pend.testBit e && !q.mask.testBit e then
    ({ q with pend := putBit q.pend e true }).message up (q.vector e)
  else { q with pend := putBit q.pend e true }

/-- HIRQ0 and HIRQ1: asserted while a pending, unmasked event is routed to the pin's half (R348). -/
def Irq.hirq (q : Irq) (k : Nat) : Bool :=
  (List.range 128).any (fun e => q.pend.testBit e && !q.mask.testBit e && (q.vector e / 16 == k))

/-- Entries in the event queue. -/
def HostPort.evtCount (h : HostPort) : Nat := (h.evtTail + 512 - h.evtHead) % 512

/-- Write an entry into the event queue at its place: entries of the same tick stand in ascending number (R412), but none before
an EVENT_LOST entry that it follows (R359). `n` entries before the place may still move up. -/
def evtInsert (mem : Tbl Word) (tail : Nat) (w : List Word) : Nat → Tbl Word
  | 0 => Tbl.putRange mem (4 * (tail % 256)) w
  | n + 1 =>
    let k := 4 * ((tail + 511) % 256)
    let e := Tbl.getRange 0 mem k 4
    if e.drop 2 == w.drop 2 && fld (pw e 0) 6 0 != 121 && decide (fld (pw e 0) 9 0 > fld (pw w 0) 9 0) then
      evtInsert (Tbl.putRange mem (4 * (tail % 256)) e) ((tail + 511) % 512) w n
    else Tbl.putRange mem (4 * (tail % 256)) w

/-- One entry for the event queue: written, or lost when the queue is full (R359). -/
def HostPort.pushEvt (h : HostPort) (w : List Word) : HostPort :=
  if h.evtCount = 256 then { h with lost := cadd h.lost 1, evtLost := true }
  else { h with evtMem := evtInsert h.evtMem h.evtTail w h.evtCount, evtTail := (h.evtTail + 1) % 512 }

/-- Words of an event queue entry (Table 14.10). -/
def eventWords (n : Nat) (mirrored : Bool) (member a16 a32 t : Nat) : List Word :=
  [wd (n % 128 + bitAt 7 mirrored + at_ 8 (member % 4) + at_ 16 (a16 % 65536)), wd a32, wd t, wd (t / 2 ^ 32)]

/-- An event of the tick `now` is noted (R360). -/
def Irq.note (q : Irq) (now e : Nat) : Irq := { q with risenAt := now, risen := putBit (if q.risenAt = now then q.risen else 0) e true }

/-- Signal an event bit. -/
def State.signal (s : State) (e : Nat) : State :=
  { s with irq := (s.irq.note s.now e).set (!s.straps.hsel) (decide (s.host.gen ≠ 0)) e }

/-- The EVENT_LOST entry, written before later events once space has returned (R359). -/
def State.flushLost (s : State) : State :=
  if s.host.lost = 0 || s.host.evtCount = 256 then s
  else ({ s with host := { s.host.pushEvt (eventWords 121 false s.straps.cid 0 s.host.lost s.now) with lost := 0 } }).signal 121

/-- An entry goes into the event queue and its pending bit is set. -/
def State.post (s : State) (n : Nat) (w : List Word) : State :=
  ({ s.flushLost with host := s.flushLost.host.pushEvt w }).signal n

/-- Raise event `n` with `ARG16` and `ARG32`: nothing before BOOT_DONE (R361); on a member it goes to the lead (R312); on the
active of a pair it is mirrored (R310). -/
def State.raise (s : State) (n a16 a32 : Nat) : State :=
  if !s.md.bootDone then s else
  let s1 : State := { s with trace := { s.trace with events := putBit s.trace.events n true } }
  let w := eventWords n false s.straps.cid a16 a32 s.now
  if !s.straps.lead then { s1 with clu := { s1.clu with sentEvents := s1.clu.sentEvents ++ [w] } }
  else
    let s2 : State := if s.md.mode.heads && s.twin.valid then
        { s1 with link := { s1.link with mirrored := s1.link.mirrored ++ [eventWords n true s.straps.cid a16 a32 s.now] } } else s1
    s2.post n w

/-- Raise an event of chain c: chain 1's number is 8 higher (Table 17.4). -/
def State.raiseCh (s : State) (c n a16 a32 : Nat) : State := s.raise (n + 8 * c) a16 a32

/-- Raise several events. -/
def State.raiseAll (s : State) : List EvReq → State
  | [] => s
  | (n, a, b) :: l => (s.raise n a b).raiseAll l

/-! ## Responses (R354, R358) -/

/-- Write a response (Table 14.7); a command that came over the bridge is answered there. -/
def State.respondAs (s : State) (member : Nat) (r : MsgRef) (status : Nat) (p : List Word) : State :=
  let w : List Word := [wd (r.opcode + at_ 16 r.tag.toNat + at_ 24 p.length), wd (status + at_ 8 member)] ++ p
  if r.viaBridge then { s with clu := { s.clu with sentResponse := w } }
  else
    let h := { s.host with rspMem := Tbl.putRange s.host.rspMem (64 * (s.host.rspTail % 64)) w
                           rspTail := (s.host.rspTail + 1) % 128, reserved := s.host.reserved - 1 }
    if r.quiet then { s with host := h } else ({ s with host := h }).signal 120

/-- Write a response of this device. -/
def State.respond (s : State) (r : MsgRef) (status : Nat) (p : List Word) : State := s.respondAs s.straps.cid r status p

/-! ## Bytes charged to an activity (R35, R37, R351) -/

/-- An activity's budget after `n` bytes. -/
def Budgets.spend (b : Budgets) (act n : Nat) : Budgets :=
  { b with left := Tbl.put b.left act (Tbl.get 0 b.left act - n), now := Tbl.put b.now act (Tbl.get 0 b.now act + n) }

/-- Bytes charged to an activity where they fit its budget (R35). -/
def State.chargeBytes (s : State) (act n : Nat) : Option State :=
  if (n : Int) ≤ Tbl.get 0 s.budget.left act then some { s with budget := s.budget.spend act n } else none

/-- A deferral of an activity is counted (R37). -/
def State.countDefer (s : State) (act : Nat) : State :=
  { s with budget := { s.budget with defer := Tbl.put s.budget.defer act (cadd (Tbl.get 0 s.budget.defer act) 1) } }

/-- `n` bytes of the host port fit A6; in modes without cycles it is not limited. -/
def State.hostFits (s : State) (n : Nat) : Bool := n == 0 || !s.clk.begun || decide ((n : Int) ≤ Tbl.get 0 s.budget.left 6)

/-- The budgets with `n` bytes of the host port charged to A6. -/
def State.hostSpend (s : State) (n : Nat) : Budgets := if n = 0 || !s.clk.begun then s.budget else s.budget.spend 6 n

/-- The budget of A6 takes the bytes (R351). -/
def State.chargeHost (s : State) (n : Nat) : Option State := if s.hostFits n then some { s with budget := s.hostSpend n } else none

/-- Bytes of a transfer of `n` bytes from offset `off` that go before it pauses at a word boundary (R37). -/
def State.hostPart (s : State) (off n : Nat) : Nat :=
  let r := min n (Tbl.get 0 s.budget.left 6).toNat
  r - min r ((off + r) % 4)

/-! ## Axes, requests and jobs -/

/-- Raise what a profile step or request reports for axis i (events 64 to 66). -/
def State.profEvents (s : State) (i : Nat) : List PEvent → State
  | [] => s
  | .moveEnd :: l => (s.raise 64 i (s.ax i).gen.endCause).profEvents i l
  | .stopDone :: l => (s.raise 65 i (s.ax i).gen.st).profEvents i l
  | .limitHit m :: l => (s.raise 66 i m).profEvents i l

/-- Mark the profile records of axis i changed (R301). -/
def State.markChanged (s : State) (i : Nat) : State :=
  if s.link.changed.contains i then s else { s with link := { s.link with changed := i :: s.link.changed } }

/-- Axis i with the outcome of a request; its profile generation moved when the activity changed. -/
def State.putReq (s : State) (i : Nat) (o : ReqOut) : State :=
  let t := (s.setAx i o.ax).profEvents i o.ev
  if o.ax.pgen = (s.ax i).pgen then t else t.markChanged i

/-- Drop every request and grant of requester `w` (R398, R400). -/
def Arbiter.drop (a : Arbiter) (w : Nat) : Arbiter :=
  { a with res := a.res.map (fun p => (p.1, { p.2 with
      holder := if p.2.holder = some w then none else p.2.holder
      raised := p.2.raised.filter (fun r => r.who != w), ignored := p.2.ignored.filter (fun x => x != w)
      cut := if p.2.holder = some w then false else p.2.cut })) }

/-- A filter job ends, done (2) or aborted (3): it drops its request and raises event 124 (R398). -/
def State.endJob (s : State) (j st : Nat) : State :=
  let b := Tbl.get {} s.jobs j
  let s1 : State := { s with jobs := Tbl.put s.jobs j { b with st := st, stopping := false, posted := false }
                             arb := s.arb.drop (j + 2) }
  s1.raise 124 (j + bitAt 8 (st == 3)) b.chunks

/-- Abort a job at its running chunk (R398); a job without a running chunk ends at once. -/
def State.stopJob (s : State) (j : Nat) : State :=
  let b := Tbl.get {} s.jobs j
  if b.st ≥ 2 then s
  else if b.posted then { s with jobs := Tbl.put s.jobs j { b with stopping := true } }
  else s.endJob j 3

/-- Jobs of kind 2 that inject into axis i and have not ended. -/
def State.chirps (s : State) (i : Nat) : List Nat :=
  (s.jobs.filter (fun p => p.2.kind == 2 && p.2.axis == i && decide (p.2.st < 2))).map (·.1)

/-- A stop, disable, zone STO or lasting clamp of axis i aborts its chirp (R397). -/
def State.stopChirp (s : State) (i : Nat) : State := (s.chirps i).foldl (fun t j => t.stopJob j) s

/-- A shift or a takeover aborts every chirp (R397). -/
def State.stopChirps (s : State) : State :=
  (s.jobs.filter (fun p => p.2.kind == 2 && decide (p.2.st < 2))).foldl (fun t p => t.stopJob p.1) s

/-- Quick stop of axis i by the device (R207, R210). -/
def State.quickStop (s : State) (i : Nat) : State :=
  if (s.ax i).enabled then (s.putReq i (s.ax i).quickStop).stopChirp i else s

/-! ## Zones (R268 to R270) -/

/-- Safe-axis record r, word k. -/
def Safe.sax (f : Safe) (r k : Nat) : Word := Tbl.get 0 f.axis (3 * r + k)

/-- Records in use. -/
def Safe.recs (f : Safe) : List Nat := (List.range 64).filter (fun r => bit (f.sax r 0) 31)

/-- Zones of axis i. -/
def Safe.zonesOf (f : Safe) (i : Nat) : List Nat :=
  (f.recs.filter (fun r => fld (f.sax r 0) 7 0 == i)).map (fun r => fld (f.sax r 0) 10 8)

/-- Axis i lies in a zone that is in STO. -/
def State.inSto (s : State) (i : Nat) : Bool := (s.safe.zonesOf i).any (fun z => s.safe.sto.testBit z)

/-- Axes of the zones of a mask. -/
def Safe.zoneAxes (f : Safe) (zones : Nat) : List Nat :=
  ((f.recs.filter (fun r => zones.testBit (fld (f.sax r 0) 10 8))).map (fun r => fld (f.sax r 0) 7 0)).eraseDups

/-- Zone entry z; its reset has `T_SS1_MAX` 250 (Table 11.7). -/
def Safe.zn (f : Safe) (z : Nat) : Word := Tbl.get 0x00FA0000 f.zone z

/-- Zones served by output pair n. -/
def Safe.pairZones (f : Safe) (n : Nat) : Nat := ofBits ((List.range 8).filter (fun z => bit (f.zn z) n))

/-- A channel may energise its side of pair n (R259, R409): none of its zones is in STO and it has no lasting fault, the zones and
pairs under the test of R276 apart; on a device of a twin an internal fault keeps every pair off (R281). -/
def State.pairOn (s : State) (n : Nat) : Bool :=
  let f := s.safe
  s.md.mode.heads && f.pairZones n != 0 && (f.pairZones n &&& (f.sto - (f.sto &&& f.test.zones))) == 0
    && (!f.pairFault.testBit n || f.test.pairs.testBit n) && !(f.internal && s.twin.enable) && !s.faults.oscBad

/-- The pairs follow the zones: each side energised where `pairOn` (R259). -/
def State.drivePairs (s : State) : State :=
  let m := ofBits ((List.range 4).filter (fun n => s.pairOn n))
  let ch := (List.range 4).filter (fun n => m.testBit n != s.safe.sideA.testBit n)
  { s with safe := { s.safe with sideA := m, sideB := m, changedAt := ch.foldl (fun t n => Tbl.put t n s.now) s.safe.changedAt } }

/-- Disable axis i as an entry into STO does (R204, R268). -/
def State.stoAxis (s : State) (i : Nat) : State :=
  if (s.ax i).enabled then (s.putReq i (s.ax i).disable).stopChirp i else s

/-- Zones whose pairs the test of a re-arming edge energises are in it no longer (R276). -/
def Safe.endTest (f : Safe) (z : Nat) : Safe := { f with test := { f.test with zones := f.test.zones - (f.test.zones &&& z) } }

/-- The zones of a mask enter STO with a cause of event 84 (R268); a zone already in STO stays in it, and the pairs of one that the
test of a re-arming edge has energised go off. -/
def State.enterSto (s : State) (zones cause : Nat) : State :=
  let z := zones % 256
  let new := z - (z &&& s.safe.sto)
  if new = 0 then (if s.safe.test.zones &&& z = 0 then s else ({ s with safe := s.safe.endTest z } : State).drivePairs) else
  let s1 : State := { s with safe := { s.safe.endTest z with sto := s.safe.sto ||| new, ss1 := s.safe.ss1 - (s.safe.ss1 &&& new) } }
  ((s1.safe.zoneAxes new).foldl State.stoAxis s1.drivePairs).raise 84 new cause

/-- The zones of a mask enter SS1: quick stop of every axis, event 85 (R269). Zones in STO or already in SS1 are unaffected. -/
def State.enterSs1 (s : State) (zones cause : Nat) : State :=
  let new := zones % 256 - (zones % 256 &&& (s.safe.sto ||| s.safe.ss1))
  if new = 0 then s else
  let s1 : State := { s with safe := { s.safe with ss1 := s.safe.ss1 ||| new
                                                   zss := (setBits 8 new).foldl (fun t z => Tbl.put t z { cause := cause }) s.safe.zss } }
  ((s1.safe.zoneAxes new).foldl State.quickStop s1).raise 85 new cause

/-! ## SYS_FAULT# and standing causes (R421, R438) -/

/-- An instance with reaction 3 or 4 is lasting. -/
def Faults.grave (f : Faults) : Bool := f.inst.any (fun i => i.lasting.isSome && decide (3 ≤ i.react))

/-- N, W and reaction by default (Table 17.1). -/
def classDefault : Nat → ClassCfg
  | 1 => { n := 3, w := 16, r := 1 }
  | 2 => { n := 4, w := 256, r := 1 }
  | 3 => { n := 4, w := 64, r := 4 }
  | 4 => { n := 8, w := 64, r := 0 }
  | 5 => { n := 4, w := 64, r := 0 }
  | 6 => { n := 8, w := 64, r := 0 }
  | 7 => { n := 16, w := 64, r := 1 }
  | 8 => { n := 4, w := 64, r := 1 }
  | 9 => { n := 4, w := 1024, r := 1 }
  | 10 => { n := 16, w := 64, r := 0 }
  | 11 => { n := 3, w := 16, r := 1 }
  | 12 => { n := 4, w := 1024, r := 1 }
  | 16 => { r := 4 }
  | 17 => { n := 16, w := 32768, r := 0 }
  | 18 => { r := 4 }
  | 19 => { r := 4 }
  | 20 => { r := 4 }
  | _ => {}

/-- Settings of a class as last written, and as in force. -/
def Faults.written (f : Faults) (c : Nat) : ClassCfg := Tbl.get (classDefault c) f.cfg c
def Faults.force (f : Faults) (c : Nat) : ClassCfg := Tbl.get (classDefault c) f.now c

/-- A cause of R421 stands. -/
def State.standing (s : State) : Bool :=
  s.md.stands || s.safe.internal || s.faults.grave || (s.faults.hbMissed != 0 && !s.twinReady)
    || (s.power.railFault != 0 && decide (3 ≤ (s.faults.force 19).r)) || (s.power.tempFault && decide (3 ≤ (s.faults.force 20).r))

/-- SYS_FAULT# is driven low (R438). -/
def State.sysFault (s : State) : Bool :=
  s.md.mode == .reset || (s.md.mode == .boot && !s.md.bootDone) || s.md.mode == .safeHold || (s.md.mode == .configure && s.md.lapsed)
    || s.faults.grave || s.standing

/-! ## Mode changes (R419 to R421) -/

/-- Mode change at a boundary still to come. -/
def State.modeAtBoundary (s : State) (m : Mode) (cause : Nat) : State :=
  if s.md.mode = m then s else
  match s.md.next with
  | some (.configure, _) => s
  | _ => { s with md := { s.md with next := some (m, cause) } }

/-- The acquisition on entry into a mode in which no cycles run (R391). -/
def Trace.noCycles (t : Trace) : Trace :=
  { t with st := if t.st = 1 || t.st = 2 then 0 else if t.st = 3 then 4 else t.st, armNew := false
           seq := { t.seq with live := false } }

/-- The safety function is configured: a safe axis is in use or a safe input has a function. -/
def Safe.configured (f : Safe) : Bool := !f.recs.isEmpty || (List.range 8).any (fun m => fld (Tbl.get 0x00519000 f.si m) 1 0 != 0)

/-- `T_SAFE` in ms. -/
def Safe.tSafe (f : Safe) : Nat := fld f.w0 3 0

/-- The configuration a port runs with: on CAN1 the safety function fixes operation, master role, priority, cycle and matrix
(R339). -/
def State.canCfg (s : State) (n : Nat) : CanCfg :=
  let c := (s.canPort n).cfg
  if n = 1 && s.safe.configured then
    { c with w0 := setFld (setFld (setFld c.w0 3 3 1) 4 4 1) 7 5 0, w4 := setFld (setFld c.w4 15 0 (1000 * s.safe.tSafe)) 18 16 0 }
  else c

/-- What the CAN ports do in a mode (Table 13.3): one that no longer runs drives nothing, and its entries stay queued. -/
def CanPort.inMode (p : CanPort) (tt : Bool) (m : Mode) (lapsed : Bool) : CanPort :=
  let on := bit p.cfg.w0 0
  let listens := on && (m == .configure || m == .syncUp || m == .runActive || m == .safeHold || m == .runStandby)
  let runs := listens && !p.busOff && (m.heads || ((m == .configure && !lapsed || m == .syncUp) && !tt))
  { p with active := runs, listening := listens, master := p.master && runs, onBus := if runs then p.onBus else none }

/-- Both CAN ports follow the mode. -/
def State.canModes (s : State) : State :=
  { s with can := { s.can with
                    p0 := s.can.p0.inMode (bit (s.canCfg 0).w0 3) s.md.mode s.md.lapsed
                    p1 := s.can.p1.inMode (bit (s.canCfg 1).w0 3) s.md.mode s.md.lapsed } }

/-- Cycles run in this mode once the origin is fixed. -/
def Mode.cycles (m : Mode) : Bool := m == .syncUp || m == .runActive || m == .runStandby || m == .safeHold

/-- What becomes of the work of a running mode that ends in CONFIGURE: no frame, no item, no pending change and no pending
start. The axes stay as they are. -/
def State.stopWork (s : State) : State :=
  { s with sched := { s.sched with items := s.sched.items.filter (fun x => x.kind == .filter), tEnd := none, timeoutsNow := 0, dropsNow := 0, spillNow := false }
           pend := {}
           startup := {}
           clk := { s.clk with fixed := false, begun := false, waitPps := false }
           ch0 := { s.ch0 with out := false, slots := [], due := [], staging := none }
           ch1 := { s.ch1 with out := false, slots := [], due := [], staging := none }
           axes := s.axes.map (fun p => (p.1, { p.2 with want := none, inj := none, gen := { p.2.gen with pend := none } }))
           trace := s.trace.noCycles
           twin := { s.twin with token := false, takeover := false, rx := none } }

/-- The change as the active forwards it over the sync link (R305). -/
def State.forward (s : State) (op : Nat) (p : List Word) (e : Nat) : State :=
  if s.md.mode.heads && s.twin.valid then
    { s with link := { s.link with cfgGen := (s.link.cfgGen + 1) % 2 ^ 32
                                   changes := s.link.changes ++ [{ opcode := BitVec.ofNat 16 op, payload := p, effect := e }] } }
  else s

/-- The entry into SAFE-HOLD goes to the standby as a change of the configuration (R424), spelled as MODE.SET 7. -/
def State.forwardHold (s : State) : State := s.forward 0x0202 [7] 0

/-- The mode changes to `m` with a cause of MODE.READ: event 0 in the tick in which it begins (R420), and what the entry
brings with it. -/
def State.enter (s : State) (m : Mode) (cause : Nat) : State :=
  let s1 : State := { s with md := { s.md with mode := m, cause := cause, atCycle := s.clk.cycle, next := none
                                               lapsed := s.md.lapsed && m == .configure, dark := s.md.dark && m == .configure } }
  let s2 := if m = .configure then s1.stopWork else s1
  let s3 := s2.canModes.drivePairs
  let s4 := if m = .safeHold then (s3.axisList.foldl State.quickStop s3).forwardHold else s3
  let s5 := if m = .runActive then
      { s4 with safe := { s4.safe with held := s4.safe.held || s4.safe.press1.since.isSome || s4.safe.press2.since.isSome
                                       press1 := {}, press2 := {} } } else s4
  let s6 := s5.raise 0 (m.code + at_ 4 cause) s.clk.cycle
  if m = .runActive && !s6.safe.confirmed then s6.raise 94 0 s6.safe.cfgId.toNat else s6

/-- SAFE-HOLD is demanded, as reaction 3 and the causes of R421 demand it. -/
def State.demandHold (s : State) : State :=
  match s.md.mode with
  | .runActive => s.modeAtBoundary .safeHold 4
  | .runStandby => s.modeAtBoundary .configure 4
  | .syncUp => ({ s with md := { s.md with dark := true } } : State).enter .configure 4
  | _ => s

/-! ## Fault classes (R405 to R410) -/

/-- N and W in force for an instance: per axis for class 1, per chain for class 2 (R408). -/
def State.windowOf (s : State) (cls idx : Nat) : Nat × Nat :=
  if cls = 1 then ((s.ax idx).missNowN, (s.ax idx).missNowW)
  else if cls = 2 then (fld (s.ch (idx / 256)).guardNow0 20 16, fld (s.ch (idx / 256)).guardNow1 15 0)
  else ((s.faults.force cls).n, (s.faults.force cls).w)

/-- Fallback of reaction 4 without a ready twin (Tables 17.1 and 17.2). -/
def fallback (cls : Nat) : Nat := if cls = 16 then 0 else 3

/-- Used spoke-map entries of a table. -/
def usedMap (m : Tbl Word) : List (Nat × Word) := m.filter (fun p => bit p.2 31)

/-- Spoke of axis i in a map. -/
def spokeOf (m : Tbl Word) (i : Nat) : Option Nat := ((usedMap m).find? (fun p => fld p.2 7 0 == i)).map (·.1)

/-- Chain and spoke of axis i. -/
def State.spokeOfAxis (s : State) (i : Nat) : Option (Nat × Nat) :=
  match spokeOf s.ch0.active.map i, spokeOf s.ch1.active.map i with
  | some k, _ => some (0, k)
  | none, some k => some (1, k)
  | none, none => none

/-- Feedback ports an item of the axis reads (R235). -/
def Axis.readsPorts (x : Axis) : List Nat :=
  (if x.fbLocal && !x.isCur then [x.fbPort] else []) ++
  (if x.loopTemplate = 5 && !bit x.cfg1 15 then [fld x.cfg1 11 8] else [])

/-- The axis uses feedback port n, as its feedback or as the load side of T5 (Table 6.8). -/
def Axis.usesPort (x : Axis) (n : Nat) : Bool :=
  x.readsPorts.contains n

/-- Destination tag of a sequence entry (Table 10.6). -/
def entryTag (w : Word) : Nat := fld w 23 16

/-- Axes that an instance names: its axis, or those that use its port or input or lie on its node (R409). -/
def State.itemAxes (s : State) (cls idx : Nat) : List Nat :=
  let axes := s.axisList
  match cls with
  | 2 => axes.filter (fun i => ((usedMap (s.ch (idx / 256)).active.map).any
           (fun p => fld p.2 7 0 == i && fld p.2 13 8 == idx % 256)))
  | 9 => axes.filter (fun i => (s.ax i).srcSel == 1 && (s.ax i).pinPort == idx)
  | 10 => axes.filter (fun i => (s.ax i).isStep && (s.ax i).stpPort == idx)
  | 11 => if 256 ≤ idx then axes.filter (fun i => i == idx - 256)
          else axes.filter (fun i => (s.ax i).usesPort idx)
  | 12 => axes.filter (fun i => (s.ax i).usesPort idx)
  | 13 => axes.filter (fun i => (s.ax i).srcSel == 2 && idx % 2 == 1
            && (s.ax i).srcTag == entryTag (Tbl.get (0 : Word) (s.conv (idx % 2)).seq (idx / 2)))
  | _ => axes.filter (fun i => i == idx)

/-- Enabled axes that an instance concerns (R409). -/
def State.concerned (s : State) (cls idx : Nat) : List Nat := (s.itemAxes cls idx).filter (fun i => (s.ax i).enabled)

/-- Zones that an instance with reaction 2 holds in STO while it is lasting (Table 17.2). -/
def State.stoHeld (s : State) : Nat :=
  ofBits ((s.faults.inst.filter (fun x => x.lasting.isSome && x.react == 2)).flatMap
    (fun x => (s.itemAxes x.cls x.idx).flatMap s.safe.zonesOf))

/-- Reaction 1 on axis i: quick stop and event 53 (Table 17.2). -/
def State.safeStop (s : State) (cls i : Nat) : State := (s.quickStop i).raise 53 i cls

/-- Carry out a reaction (Table 17.2, R410). -/
def State.react (s : State) (cls idx r : Nat) : State :=
  if s.md.mode = .runStandby && r < 3 then s else
  match r with
  | 0 => s
  | 1 => (s.concerned cls idx).foldl (fun t i => t.safeStop cls i) s
  | 2 => (s.concerned cls idx).foldl (fun t i =>
           match t.safe.zonesOf i with
           | [] => t.safeStop cls i
           | zs => t.enterSto (ofBits zs) 6) s
  | 3 => s.demandHold
  | _ => if s.md.mode = .runActive || s.md.mode = .safeHold then { s with faults := { s.faults with stopLease := true } }
         else s.demandHold

/-- Ask the supervisor for a fault-log entry (R411); those of one tick stand in ascending class (R410). -/
def State.logFault (s : State) (cls idx r : Nat) (fb : Bool) : State :=
  { s with faults := { s.faults with
      log := insertBy (fun a b => decide (a.time < b.time) || (a.time == b.time && decide (a.cls ≤ b.cls)))
        { cls := cls, react := r, fallback := fb, idx := idx, time := s.now, mode := s.md.mode.code } s.faults.log } }

/-- Raise the lasting event of an instance, if its rule gives one here. -/
def State.raiseOpt (s : State) : Option EvReq → State
  | none => s
  | some (n, a, b) => s.raise n a b

/-- Put an instance of a class. -/
def Faults.putInst (f : Faults) (x : FaultInst) : Faults :=
  if f.inst.any (fun i => i.cls == x.cls && i.idx == x.idx) then
    { f with inst := f.inst.map (fun i => if i.cls == x.cls && i.idx == x.idx then x else i) }
  else { f with inst := f.inst ++ [x] }

/-- The instance of a class and item. -/
def Faults.get (f : Faults) (cls idx : Nat) : FaultInst :=
  (f.inst.find? (fun i => i.cls == cls && i.idx == idx)).getD { cls := cls, idx := idx }

/-- The reaction that acts: reaction 4 without a ready twin falls back; so does it in SYNC-UP and CONFIGURE (R421). -/
def State.reaction (s : State) (cls : Nat) : Nat × Bool :=
  let r := (s.faults.force cls).r
  if r = 4 && (!s.twinReady || s.md.mode == .syncUp || s.md.mode == .configure) then (fallback cls, true) else (r, false)

/-- Classes counted at most once per cycle and instance (Table 17.1). -/
def oncePerCycle (cls : Nat) : Bool := cls == 3 || cls == 4 || cls == 7 || cls == 9 || cls == 10 || cls == 11

/-- An occurrence of a fault class, detected in cycle `cyc`; `ev` gives the lasting event from the N-th newest stamp (R405 to
R407). In modes without cycles it is reported, not stamped (R406): a class whose every occurrence is lasting acts at once. -/
def State.occurAt (s : State) (cls idx cyc : Nat) (ev : Nat → Option EvReq) : State :=
  let w := s.windowOf cls idx
  let x := s.faults.get cls idx
  if !s.counting then
    if w.1 = 1 then
      let r := s.reaction cls
      (((s.raiseOpt (ev cyc)).react cls idx r.1).logFault cls idx r.1 r.2)
    else { s with faults := { s.faults with transient := Tbl.put s.faults.transient cls (cadd (Tbl.get 0 s.faults.transient cls) 1) } }
  else if oncePerCycle cls && x.stamps.head? == some cyc then s
  else
    let st := (cyc :: x.stamps).take (max w.1 ((x.lasting.map (·.1)).getD 0))
    match x.lasting with
    | some _ =>
      let s1 : State := { s with faults := s.faults.putInst { x with stamps := st } }
      if x.react = 1 then
        ((s.concerned cls idx).filter (fun i => (s.ax i).gen.st == 1 || (s.ax i).gen.st == 2 || (s.ax i).gen.st == 3)).foldl
          (fun t i => t.safeStop cls i) s1
      else s1
    | none =>
      match st[w.1 - 1]? with
      | some old =>
        if cyc - old < w.2 then
          let r := s.reaction cls
          let s1 : State := { s with faults := s.faults.putInst { x with stamps := st, lasting := some w, react := r.1 } }
          ((s1.raiseOpt (ev old)).react cls idx r.1).logFault cls idx r.1 r.2
        else { s with faults := { (s.faults.putInst { x with stamps := st }) with
                 transient := Tbl.put s.faults.transient cls (cadd (Tbl.get 0 s.faults.transient cls) 1) } }
      | none => { s with faults := { (s.faults.putInst { x with stamps := st }) with
                 transient := Tbl.put s.faults.transient cls (cadd (Tbl.get 0 s.faults.transient cls) 1) } }

/-- An occurrence in the cycle in hand. -/
def State.occur (s : State) (cls idx : Nat) (ev : Nat → Option EvReq) : State := s.occurAt cls idx s.clk.cycle ev

/-- Event 10 (FAULT_LASTING) of a class without an event of its own. -/
def ev10 (cls : Nat) (stamp : Nat) : Option EvReq := some (10, cls, stamp)

/-- The end of lasting states at B(c) (R407). -/
def Faults.ends (f : Faults) (c : Nat) : Faults :=
  { f with inst := f.inst.map (fun i =>
      match i.lasting with
      | some (n, w) => if decide (c - (i.stamps[n - 1]?).getD 0 ≥ w) then { i with lasting := none } else i
      | none => i) }

/-- An occurrence of a fixed class, 21, 22 or 32 to 35: it is stamped, lasting at once and logged with reaction code `r` (R405,
R406, R411). -/
def State.fixedFault (s : State) (cls idx r : Nat) : State :=
  let x := s.faults.get cls idx
  let s1 : State := if s.counting then
    { s with faults := s.faults.putInst { x with stamps := [s.clk.cycle] } } else s
  s1.logFault cls idx r false

/-- An internal safety fault (R281): event 93, logged; without a twin every zone enters STO and the device SAFE-HOLD; on the
active of a twin the pairs are off and the token is no longer renewed. -/
def State.internalFault (s : State) (code : Nat) : State :=
  let s1 : State := { s with safe := { s.safe with internal := true } }
  let s2 := (s1.drivePairs.raise 93 code 0).fixedFault 35 0 5
  if s.safe.internal then s1.drivePairs.raise 93 code 0
  else if s.md.mode = .runStandby then s2
  else if s.twin.enable && s.md.mode.heads then { s2 with faults := { s2.faults with stopLease := true } }
  else (s2.enterSto 255 7).demandHold

/-! ## Battery-backed registers (R431 to R436) -/

/-- First word and number of words of region r (Table 18.7). -/
def bbrRegion (r : Nat) : Nat × Nat :=
  if r = 0 then (0x000, 256) else if r = 1 then (0x100, 512) else if r = 2 then (0x300, 128) else (0x380, 112)

/-- Region of a word address. -/
def bbrRegionOf (a : Nat) : Nat := if a < 0x100 then 0 else if a < 0x300 then 1 else if a < 0x380 then 2 else if a < 0x3F0 then 3 else 4

/-- A BBR word. -/
def Bbr.word (b : Bbr) (a : Nat) : Word := Tbl.get 0 b.words a

/-- The CRC of a region as it stands. -/
def Bbr.crc (b : Bbr) (r : Nat) : Nat := crcWords (Tbl.getRange 0 b.words (bbrRegion r).1 (bbrRegion r).2)

/-- The seal of region r as a check finds it (R434). -/
def Bbr.sealOk (b : Bbr) (r : Nat) : Bool :=
  (!bit (b.word (0x3F2 + 4 * r)) 0 || b.running == some r) && (b.running == some r || (b.word (0x3F0 + 4 * r)).toNat == b.crc r)

/-- A write operation ends: the seal is recomputed and its count goes up. -/
def Bbr.reseal (b : Bbr) (r : Nat) : Bbr :=
  { b with words := Tbl.put (Tbl.put (Tbl.put b.words (0x3F0 + 4 * r) (wd (b.crc r))) (0x3F1 + 4 * r) (b.word (0x3F1 + 4 * r) + 1))
                      (0x3F2 + 4 * r) 0 }

/-- What the last check found of a seal, and setting it. -/
def Bbr.ok (b : Bbr) (r : Nat) : Bool := if r = 0 then b.ok0 else if r = 1 then b.ok1 else if r = 2 then b.ok2 else b.ok3
def Bbr.setOk (b : Bbr) (r : Nat) (v : Bool) : Bbr :=
  if r = 0 then { b with ok0 := v } else if r = 1 then { b with ok1 := v } else if r = 2 then { b with ok2 := v } else { b with ok3 := v }

/-- A check of the seal of region r: its loss is raised once (R434). -/
def State.checkSeal (s : State) (r : Nat) (atBoot : Bool) : State :=
  let v := s.bbr.sealOk r
  let s1 : State := { s with bbr := s.bbr.setOk r v }
  if !v && (s.bbr.ok r || atBoot) then
    if r = 1 then s1.raise 81 0 (s.bbr.word (0x3F1 + 4 * r)).toNat else s1.raise 9 r (s.bbr.word (0x3F1 + 4 * r)).toNat
  else s1

/-- One write operation on a region: words written, seal recomputed and checked. -/
def State.bbrWrite (s : State) (r a : Nat) (ws : List Word) : State :=
  ({ s with bbr := ({ s.bbr with words := Tbl.putRange s.bbr.words a ws } : Bbr).reseal r }).checkSeal r false

/-- Word 0 of the settings: 0 where the seal is not valid (R435). -/
def State.settings (s : State) : Word := if s.bbr.sealOk 0 then s.bbr.word 0 else 0

end Sys2Proof.Machine
end

