-- ==== Sys2Proof/Machine/ArbOps.lean ====
section
/-!
DEFINITION. The deadline arbiter: limits, requests, grants and cut-offs (R399 to R403).
-/
namespace Sys2Proof.Machine

/-- A limit field: its value where it is in range, otherwise its Reset column (R402). -/
def limField (ok : Bool) (v lo hi reset : Nat) : Nat := if ok && decide (lo ≤ v) && decide (v ≤ hi) then v else reset

/-- The limits read from words 0x040 to 0x042 of the settings region (R402). -/
def State.arbLimits (s : State) : Arbiter :=
  let ok := s.bbr.sealOk 0
  let w (k : Nat) : Word := s.bbr.word (0x40 + k)
  let lo (k a b r : Nat) : Nat := limField ok (fld (w k) 15 0) a b r
  let hi (k r : Nat) : Nat := limField ok (fld (w k) 31 16) 1 1000 r
  { s.arb with w0 := wd (lo 0 1 65535 1000 + at_ 16 (hi 0 200)), w1 := wd (lo 1 1 1024 16 + at_ 16 (hi 1 4))
               w2 := wd (lo 2 1 65535 500 + at_ 16 (hi 2 2)) }

/-- Resource r. -/
def Arbiter.get (a : Arbiter) (r : Nat) : ArbRes := Tbl.get {} a.res r
def Arbiter.put (a : Arbiter) (r : Nat) (x : ArbRes) : Arbiter := { a with res := Tbl.put a.res r x }

/-- Word of Table 16.8 for resource r: 0 the engine, 1 and 2 the windows, 3 the bridge. -/
def Arbiter.word (a : Arbiter) (r : Nat) : Word := if r = 0 then a.w0 else if r = 3 then a.w2 else a.w1

/-- Deadline offset of resource r, ns. -/
def Arbiter.offset (a : Arbiter) (r : Nat) : Nat := fld (a.word r) 31 16 * 1000000

/-- Requester w holds a resource. -/
def Arbiter.holds (a : Arbiter) (w : Nat) : Bool := a.res.any (fun p => p.2.holder == some w)

/-- Requester w raises its request for resource r (R399): a holder's second request stays unraised (R403). -/
def State.arbRaise (s : State) (r w : Nat) : State :=
  let x := s.arb.get r
  if s.arb.holds w || x.raised.any (fun q => q.who == w) then s
  else { s with arb := s.arb.put r { x with raised := x.raised ++ [{ who := w, deadline := (s.now + s.arb.offset r) % 2 ^ 32 }] } }

/-- The request a free resource is granted to: nearest deadline, then lower index (R400). -/
def bestReq (now : Nat) : List ArbReq → Option ArbReq
  | [] => none
  | q :: l =>
    match bestReq now l with
    | none => some q
    | some b =>
      let d (x : ArbReq) : Int := sgn 32 (x.deadline + 2 ^ 32 - now % 2 ^ 32)
      if d q < d b || (d q = d b && decide (q.who < b.who)) then some q else some b

/-- The decision on a free resource: its new holder, if a request is raised by one that holds no resource (R403). -/
def State.arbGrant (s : State) (r : Nat) : State :=
  let x := s.arb.get r
  if x.holder.isSome then s
  else
    match bestReq s.now (x.raised.filter (fun q => !x.ignored.contains q.who && !s.arb.holds q.who)) with
    | none => s
    | some q =>
      { s with arb := s.arb.put r { x with holder := some q.who, since := s.now, frames := 0, cut := false
                                           raised := x.raised.filter (fun y => y.who != q.who) } }

/-- The holder of resource r is cut off (R401): the resource is free, the holder is ignored until it drops its request. -/
def State.arbCut (s : State) (r w : Nat) : State :=
  let x := s.arb.get r
  ({ s with arb := s.arb.put r { x with holder := none, cut := false, ignored := w :: x.ignored } }).raise 125 (r + at_ 8 w) 0

end Sys2Proof.Machine
end

