-- ==== Sys2Proof/Machine/CanOps.lean ====
section
/-!
DEFINITION. CAN ports: bit times and frame bounds, schedule checks, queue entries, arbitration order, filters, error counters
and the roles of time-triggered operation (R317 to R344).
-/
namespace Sys2Proof.Machine

/-- Bit time in ns of a timing word (R319). -/
def bitNs (w : Word) : Nat := 5 * fld w 7 0 * (1 + fld w 15 8 + fld w 22 16)
def CanCfg.nBit (c : CanCfg) : Nat := bitNs c.w1
def CanCfg.dBit (c : CanCfg) : Nat := bitNs c.w2
def CanCfg.tt (c : CanCfg) : Bool := bit c.w0 3
def CanCfg.canMaster (c : CanCfg) : Bool := bit c.w0 4
def CanCfg.prio (c : CanCfg) : Nat := fld c.w0 7 5
/-- Basic cycle, ns. -/
def CanCfg.cycleNs (c : CanCfg) : Nat := fld c.w4 15 0 * 1000
def CanCfg.matrix (c : CanCfg) : Nat := 2 ^ fld c.w4 18 16

/-- `CAN.CFGn` as written (R319, Table 13.2). -/
def CanCfg.valid (c : CanCfg) : Bool :=
  let timing (w : Word) : Bool := within w 0x3FFFFFFF && decide (1 ≤ fld w 7 0) && decide (2 ≤ fld w 15 8) && decide (1 ≤ fld w 22 16)
    && decide (1 ≤ fld w 29 23) && decide (fld w 29 23 ≤ fld w 22 16)
  within c.w0 0x3FF && timing c.w1 && timing c.w2 && within c.w3 0x7FFFF && within c.w4 0x7FFFF &&
  decide (1000 ≤ c.nBit) && decide ((if bit c.w0 2 then 100 else 125) ≤ c.dBit) && decide (c.dBit ≤ c.nBit) &&
  (fld c.w3 18 11 != 0 || decide (1000 ≤ c.dBit)) && fld c.w3 2 0 == c.prio &&
  decide (250 ≤ fld c.w4 15 0) && decide (fld c.w4 18 16 ≤ 6)

/-- Frame-duration bounds, ns (Table 13.11); format 0 Classical, 1 FD, 2 XL. An extended identifier adds nothing to the table. -/
def CanCfg.bound (c : CanCfg) (fmt d : Nat) : Nat :=
  if fmt = 0 then (50 + 8 * d + (33 + 8 * d) / 4) * c.nBit
  else if fmt = 1 then 40 * c.nBit + (37 + 10 * d) * c.dBit
  else 45 * c.nBit + (124 + (88 * d + 9) / 10) * c.dBit

/-- The next data length CAN FD allows (R263, R323). -/
def fdLen (d : Nat) : Nat :=
  if d ≤ 8 then d else if d ≤ 12 then 12 else if d ≤ 16 then 16 else if d ≤ 20 then 20 else if d ≤ 24 then 24
  else if d ≤ 32 then 32 else if d ≤ 48 then 48 else 64

/-- Bound of a safety PDU of d bytes on CAN1: CAN XL or CAN FD by `XL` (R263). -/
def State.pduBound (s : State) (d : Nat) : Nat :=
  if bit s.safe.w0 12 then (s.canCfg 1).bound 2 d else (s.canCfg 1).bound 1 (fdLen d)

/-- Safe nodes in rank order: address + 64 × chain (Table 13.12). -/
def Safe.nodes (f : Safe) : List Nat :=
  (List.range 128).filter (fun a => f.recs.any (fun r => fld (f.sax r 0) 17 12 + 64 * fld (f.sax r 0) 18 18 == a))

/-- `DESC.SAFE_AXES` of a node, from its descriptor; before that is read, what the safe-axis records ask of it. -/
def State.safeAxesOf (s : State) (a : Nat) : Nat :=
  let nd : Node := Tbl.get {} (s.ch (a / 64)).nodes (a % 64)
  if nd.descOk then (nd.desc.getD 23 0).toNat
  else (s.safe.recs.filter (fun r => fld (s.safe.sax r 0) 17 12 + 64 * fld (s.safe.sax r 0) 18 18 == a)).foldl
    (fun m r => max m (fld (s.safe.sax r 0) 23 20 + 1)) 0

/-- Length of the head PDU (Table 11.10) and of a node's reply (Table 11.11). -/
def Safe.pduLen (f : Safe) : Nat := 16 + 3 * f.recs.length
def State.replyLen (s : State) (a : Nat) : Nat := 12 + 4 * s.safeAxesOf a

/-- Length of a head PDU window, ns. -/
def State.headWindow (s : State) : Nat := s.pduBound s.safe.pduLen + 16 * (s.canCfg 1).nBit

/-- Spans overlap. -/
def overlap (a la b lb : Nat) : Bool := decide (a < b + lb) && decide (b < a + la) && decide (0 < la) && decide (0 < lb)

/-- Schedule window k: words and fields (Table 13.10). -/
def CanPort.winW (p : CanPort) (k : Nat) : Word × Word := (Tbl.get 0 p.win (2 * k), Tbl.get 0 p.win (2 * k + 1))
def winKind (w : Word × Word) : Nat := fld w.2 2 0
def winOff (w : Word × Word) : Nat := fld w.1 15 0
def winLen (w : Word × Word) : Nat := fld w.1 31 16
def winEntry (w : Word × Word) : Nat := fld w.2 7 3
def winId (w : Word × Word) : Nat := fld w.2 18 8
/-- The window applies in basic cycle c. -/
def winApplies (w : Word × Word) (c : Nat) : Bool := c % 2 ^ fld w.2 21 19 == fld w.2 27 22

/-- Transmit entry i: header word k (Table 13.4). -/
def CanPort.txW (p : CanPort) (i k : Nat) : Word := p.txMem.readWord (2064 * i + 4 * k)

/-- Format and length of a transmit entry. -/
def CanPort.txFmt (p : CanPort) (i : Nat) : Nat := fld (p.txW i 1) 1 0
def CanPort.txLen (p : CanPort) (i : Nat) : Nat := fld (p.txW i 1) 27 16

/-- Bound of the frame of a transmit entry. -/
def CanPort.txBound (p : CanPort) (c : CanCfg) (i : Nat) : Nat :=
  c.bound (p.txFmt i) (if p.txFmt i = 1 then fdLen (p.txLen i) else p.txLen i)

/-- Used windows. -/
def CanPort.wins (p : CanPort) : List (Word × Word) := ((List.range 64).map p.winW).filter (fun w => winKind w != 0)

/-- Two windows share a basic cycle. -/
def winMeet (a b : Word × Word) : Bool :=
  let r := min (fld a.2 21 19) (fld b.2 21 19)
  fld a.2 27 22 % 2 ^ r == fld b.2 27 22 % 2 ^ r

/-- No two windows that share a basic cycle overlap. -/
def winsApart : List (Word × Word) → Bool
  | [] => true
  | w :: ws => ws.all (fun v => !(winMeet w v && overlap (winOff w) (winLen w) (winOff v) (winLen v))) && winsApart ws

/-- The whole schedule of a port holds under R335. -/
def State.schedOk (s : State) (n : Nat) (p : CanPort) : Bool :=
  let c := s.canCfg n
  p.wins.all (fun w => within w.2 0xFFFFFFF && decide (winKind w ≤ 3) && decide (fld w.2 21 19 ≤ fld c.w4 18 16)
    && decide (fld w.2 27 22 < 2 ^ fld w.2 21 19) && decide ((winOff w + winLen w) * 1000 ≤ c.cycleNs)
    && (winKind w != 1 || decide (p.txBound c (winEntry w) + 16 * c.nBit ≤ winLen w * 1000))
    && (winKind w != 2 || decide (c.bound 0 0 + 16 * c.nBit ≤ winLen w * 1000)))
  && winsApart p.wins

/-- Field ranges of schedule entries a write carries. -/
def winWordOk (w : Word × Word) : Bool := within w.2 0xFFFFFFF && decide (winKind w ≤ 3)

/-- The twin's placement of the CAN1 windows and the watchdog at a cycle length (R280, R340). -/
def State.canTwinOk (s : State) (w1 : Word) (tc : Nat) : Bool :=
  !s.twin.enable || (decide ((s.twin.l + 4) * tc ≤ (fld w1 31 16 - fld w1 15 0) * 1000)
    && decide ((s.twin.l + 6) * tc ≤ fld s.safe.w0 11 4 * 50000))

/-- The safety schedule holds under R340. -/
def State.canSafeOk (s : State) (w0 w1 w2 : Word) : Bool :=
  let c := s.canCfg 1
  let hw := s.headWindow
  let pri := fld w1 15 0 * 1000
  let rep := fld w1 31 16 * 1000
  let ro := fld w2 15 0 * 1000
  let re := fld w2 31 16 * 1000
  within w0 0x3FFFFF && decide (c.bound 0 8 ≤ pri) && decide (pri + hw ≤ rep) && decide (rep + hw ≤ ro) &&
  decide (ro + (s.safe.nodes.map (fun a => s.pduBound (s.replyLen a))).sum ≤ re) && decide (re ≤ fld s.safe.w0 11 4 * 50000) &&
  s.can.p1.wins.all (fun w => !overlap (winOff w * 1000) (winLen w * 1000) pri hw && !overlap (winOff w * 1000) (winLen w * 1000) rep hw
    && !overlap (winOff w * 1000) (winLen w * 1000) ro (re - ro)) &&
  s.canTwinOk w1 s.tc

/-! ## Queues -/

/-- The entry is malformed (R323). -/
def CanPort.malformed (p : CanPort) (i : Nat) : Bool :=
  let f := p.txFmt i
  let l := p.txLen i
  f == 3 || (bit (p.txW i 0) 30 && f != 0) || (bit (p.txW i 0) 29 && f == 2) || (f == 0 && decide (l > 8)) || (f == 1 && decide (l > 64))
    || (f == 2 && (decide (l > 2048) || l == 0)) || (f == 1 && !bit p.cfg.w0 1) || (f == 2 && !bit p.cfg.w0 2)

/-- The port clears `OWN` of an entry and writes `RES` (R323, R324). -/
def CanPort.giveBack (p : CanPort) (i res : Nat) : CanPort :=
  let m := p.txMem.writeWord (2064 * i + 4) (setFld (p.txW i 1) 31 28 res)
  { p with txMem := m.writeWord (2064 * i) (setFld (p.txW i 0) 31 31 0), owned := p.owned.filter (fun k => k != i)
           waitIdx := if p.waitIdx = some i then none else p.waitIdx }

/-- Malformed owned entries are given back, in the order they were handed over (R323). -/
def CanPort.sweep (p : CanPort) : CanPort :=
  (p.owned.filter p.malformed).foldl (fun q i => { q.giveBack i 2 with cnt := { q.cnt with malformed := cadd q.cnt.malformed 1 } }) p

/-- Arbitration fields of an entry as one number: the lower wins (R322). -/
def CanPort.arbKey (p : CanPort) (i : Nat) : Nat :=
  let w := p.txW i 0
  let ext := bit w 29 && p.txFmt i != 2
  let rtr := bit w 30 && p.txFmt i == 0
  if ext then fld w 28 18 * 2 ^ 21 + 2 ^ 20 + 2 ^ 19 + fld w 17 0 * 2 + b2n rtr else fld w 28 18 * 2 ^ 21 + bitAt 20 rtr

/-- Entries bound to an exclusive window of a time-triggered port. -/
def CanPort.bound (p : CanPort) (c : CanCfg) (i : Nat) : Bool := c.tt && p.wins.any (fun w => winKind w == 1 && winEntry w == i)

/-- The entry the port offers among a list (R322): the first of the lowest key. -/
def CanPort.best (p : CanPort) : List Nat → Option Nat
  | [] => none
  | i :: l => match p.best l with
    | some j => if p.arbKey j < p.arbKey i then some j else some i
    | none => some i

/-- The arbitrating window that holds `t`, with its end. -/
def CanPort.arbWindow (p : CanPort) (t : CanTt) (now : Nat) : Option Nat :=
  (p.wins.find? (fun w => winKind w == 3 && winApplies w t.count && decide (t.mark + winOff w * 1000 ≤ now)
    && decide (now < t.mark + (winOff w + winLen w) * 1000))).map (fun w => t.mark + (winOff w + winLen w) * 1000)

/-- The port may start frames: it runs, is not in bus-off and has nothing on the bus. -/
def CanPort.ready (p : CanPort) : Bool := p.active && !p.busOff && p.onBus.isNone

/-- Raise CAN_STATE with a cause (R338). -/
def State.canState (s : State) (n cause : Nat) : State :=
  (s.setCan n { s.canPort n with cause := cause }).raise (115 + 4 * n) cause 0

/-- The error state after a change of the counters (R328): CAN_STATE at each change between active and passive. -/
def State.canErrState (s : State) (n : Nat) : State :=
  let p := s.canPort n
  let passive := decide (p.tec > 127) || decide (p.rec_ > 127)
  if p.busOff || passive = p.passive then s
  else (s.setCan n { p with passive := passive }).canState n (if passive then 1 else 2)

/-- Bus-off when TEC exceeds 255 (R329): the queue freezes and the entry in transmission waits. -/
def State.canBusOff (s : State) (n : Nat) (inTx : Option Nat) : State :=
  let p := s.canPort n
  if p.busOff || p.tec ≤ 255 then s.canErrState n
  else (s.setCan n { p with busOff := true, active := false, master := false, onBus := none, waitIdx := inTx }).raise (112 + 4 * n)
    (inTx.getD 0) p.tec

/-- The entry of a frame on the bus. -/
def CanPort.txEntry (p : CanPort) : Option Nat :=
  match p.onBus with
  | some (.entry i _) => some i
  | _ => none

/-- The frame on the bus failed: its entry is offered again, unless retransmission is off; then it goes back with a result the
spec does not state. At bus-off no entry loses `OWN` (R329). -/
def State.canTxFailed (s : State) (n : Nat) : State :=
  let p := s.canPort n
  match p.onBus with
  | some (.entry i none) =>
    if bit p.cfg.w0 9 && decide (p.tec ≤ 255) then
      { (s.setCan n ({ p with onBus := none }.giveBack i (Config.fresh s.free % 16))) with free := s.free + 1 }
    else s.setCan n { p with onBus := none }
  | _ => s.setCan n { p with onBus := none }

/-! ## Receiving -/

/-- Index of the filter that decides a frame, with its action (R325). -/
def CanPort.filter (p : CanPort) (f : CanFrame) : Option (Nat × Nat) :=
  ((List.range 128).find? (fun k =>
    let a := Tbl.get (0 : Word) p.filt (2 * k)
    let b := Tbl.get (0 : Word) p.filt (2 * k + 1)
    let xl := f.kind == .xl
    fld b 31 30 != 0 && (if xl then bit a 31 else bit a 30) && bit a 29 == (f.ext && !xl) &&
    ((f.id.toNat ^^^ fld a 28 0) &&& fld b 28 0) &&& (if xl then 0x1FFC0000 else 0x1FFFFFFF) == 0)).map
      (fun k => (k, fld (Tbl.get (0 : Word) p.filt (2 * k + 1)) 31 30))

/-- Format code of a frame. -/
def canKindCode : CanKind → Nat
  | .classic => 0
  | .fd => 1
  | .xl => 2

/-- Header words of a receive entry (Table 13.6), `OWN` = 1. -/
def rxHeader (f : CanFrame) (filter t : Nat) : List Word :=
  [wd (f.id.toNat + bitAt 29 f.ext + bitAt 30 f.rtr + 2 ^ 31),
   wd (canKindCode f.kind + bitAt 2 f.brs + bitAt 3 f.esi + at_ 16 f.data.length),
   wd (if f.kind = .xl then f.sdt.toNat + at_ 8 f.vcid.toNat + bitAt 16 f.sec + at_ 17 filter else at_ 17 filter),
   if f.kind = .xl then f.af else 0, wd t, wd (t / 2 ^ 32)]

/-- Receive entry i is owned by software. -/
def CanPort.rxOwned (p : CanPort) (i : Nat) : Bool := bit (p.rxMem.readWord (2072 * i)) 31

/-- Bytes that pad the data to whole words: their value is not stated. -/
def padBytes (free n : Nat) : List Byte := leBytes ((4 - n % 4) % 4) (Config.fresh free)

/-- An accepted frame goes into the ring, or is lost to an owned entry (R326). -/
def CanPort.store (p : CanPort) (f : CanFrame) (filter t free : Nat) : CanPort :=
  if p.rxOwned p.rxHead then { p with cnt := { p.cnt with overrun := cadd p.cnt.overrun 1 } }
  else
    { p with rxMem := p.rxMem.writeBytes (2072 * p.rxHead)
               ((rxHeader f filter t).flatMap wordBytes ++ f.data ++ padBytes free f.data.length)
             rxHead := (p.rxHead + 1) % 64, cnt := { p.cnt with rxOk := cadd p.cnt.rxOk 1 } }

/-- The ring returns the entry at its tail to the port. -/
def CanPort.returnOne (p : CanPort) : CanPort :=
  { p with rxMem := p.rxMem.writeWord (2072 * p.rxTail) (setFld (p.rxMem.readWord (2072 * p.rxTail)) 31 31 0)
           rxTail := (p.rxTail + 1) % 64 }

/-- A tail write returns entries up to the new tail, stopping before the head and before a locked entry (R326). -/
def CanPort.returnTo (p : CanPort) (tail : Nat) : Nat → CanPort
  | 0 => p
  | n + 1 =>
    if p.rxTail = tail || !p.rxOwned p.rxTail || (match p.lock with | some (i, _) => i == p.rxTail | none => false) then p
    else p.returnOne.returnTo tail n

/-- A read of the word window (R327): the port afterwards and the word. -/
def CanPort.readWindow (p : CanPort) : CanPort × Word :=
  match p.lock with
  | none => if p.rxOwned p.rxTail then ({ p with lock := some (p.rxTail, 1) }, p.rxMem.readWord (2072 * p.rxTail)) else (p, 0)
  | some (i, k) =>
    let w := p.rxMem.readWord (2072 * i + 4 * k)
    let last := 5 + (fld (p.rxMem.readWord (2072 * i + 4)) 27 16 + 3) / 4
    if k ≥ last then ({ p with lock := none }.returnOne, w) else ({ p with lock := some (i, k + 1) }, w)

/-- Identifier of a frame, 11 bits. -/
def baseIdOf (f : CanFrame) : Nat := f.id.toNat / 2 ^ 18

/-- A frame of the safety schedule of CAN1 (R339). -/
def State.isSafeFrame (s : State) (n : Nat) (f : CanFrame) : Bool :=
  n == 1 && s.safe.configured && !f.ext &&
    (baseIdOf f == fld s.can.s0 10 0 || baseIdOf f == fld s.can.s0 10 0 + 1 ||
      (decide (fld s.can.s0 21 11 ≤ baseIdOf f) && decide (baseIdOf f < fld s.can.s0 21 11 + s.safe.nodes.length)))

/-- A master watches the starts of frames with scheduled identifiers, received or its own (R336). -/
def State.watchStart (s : State) (n : Nat) (ext : Bool) (id t : Nat) : State :=
  let p := s.canPort n
  let tt := s.canTt n
  let c := s.canCfg n
  let mine := p.wins.filter (fun w => (winKind w == 1 || winKind w == 2) && winId w == id)
  if !(c.tt && p.active && p.master && tt.begun) || ext || mine.isEmpty then s
  else match mine.find? (fun w => winApplies w tt.count && decide (tt.mark + winOff w * 1000 ≤ t)
        && decide (t < tt.mark + (winOff w + winLen w) * 1000)) with
    | none => s.setCan n { p with cnt := { p.cnt with misplaced := cadd p.cnt.misplaced 1 } }
    | some w =>
      let d := t - (tt.mark + winOff w * 1000)
      let s1 := if d > 16 * c.nBit then s.setCan n { p with cnt := { p.cnt with lateStart := cadd p.cnt.lateStart 1 } } else s
      if d * 4 ≥ 3 * (winLen w * 1000) && !tt.late then
        (s1.setTt n { tt with late := true }).raise (114 + 4 * n) id (d / 1000)
      else s1

/-- The start of a queue entry: it is on the bus, and watched as any other. -/
def State.startEntry (s : State) (n i : Nat) (window : Option Nat) : State :=
  let p := s.canPort n
  (s.setCan n { p with onBus := some (.entry i window) }).watchStart n (bit (p.txW i 0) 29 && p.txFmt i != 2) (fld (p.txW i 0) 28 18) s.now

/-- A frame of another node has won arbitration over what the port had on the bus; an entry is offered again (R322). -/
def State.losesBus (s : State) (n : Nat) : State := s.setCan n { s.canPort n with onBus := none }

/-- Data of an own reference message whose Sync_Mark lies at `t` (Table 13.9). -/
def refData (count t : Nat) : List Byte :=
  [BitVec.ofNat 8 (count % 64), 0] ++ beBytes 2 (t / 1000) ++ beBytes 4 t

/-- Window w of a port's basic cycle: schedule windows 0 to 63; 64 and 65 the primary and repeat head windows of CAN1. -/
def State.ttWindow (s : State) (n w : Nat) : Option (Word × Word) :=
  if w < 64 then
    let x := (s.canPort n).winW w
    if winKind x = 0 then none else some x
  else if n = 1 && s.safe.configured && w ≤ 65 then
    some (wd (if w = 64 then fld s.can.s1 15 0 else fld s.can.s1 31 16), 1)
  else none

/-- State word `CS` of a port (Table 13.7). -/
def State.canStatus (s : State) (n : Nat) : Word :=
  let p := s.canPort n
  wd ((if p.busOff then 2 else if !p.active then 3 else if p.passive then 1 else 0) + bitAt 2 p.master
    + bitAt 3 (p.refOk && decide (s.now ≤ (s.canTt n).refAt + 2 * (s.canCfg n).cycleNs)) + bitAt 4 p.noAck
    + bitAt 5 p.waitIdx.isSome + at_ 6 (p.waitIdx.getD 0) + bitAt 11 p.lock.isSome
    + at_ 12 (match p.lock with | some (i, _) => i | none => p.rxTail) + bitAt 18 p.recovering + at_ 19 p.cause)

/-- Words of the CAN counter record (Table 13.14). -/
def CanCounters.words (c : CanCounters) : List Word :=
  [wd c.txOk, wd c.rxOk, wd c.overrun, wd c.noMatch, wd c.malformed, wd c.winMiss, wd c.lateStart, wd c.misplaced]

end Sys2Proof.Machine
end

