-- ==== Sys2Proof/Machine/SafeOps.lean ====
section
/-!
DEFINITION. The safety function: configuration checks, head PDU, node replies, evaluation, safe inputs and re-arming
(chapter 11).
-/
namespace Sys2Proof.Machine

/-- The safe cycle runs: RUN-ACTIVE, SAFE-HOLD and, listening, RUN-STANDBY (R277, R278). -/
def State.safeRuns (s : State) : Bool := s.md.mode.heads || s.md.mode == .runStandby

/-- Safe input entry m (Table 11.9). -/
def Safe.siw (f : Safe) (m : Nat) : Word := Tbl.get 0x00519000 f.si m

/-- Fields of a safe-axis record (Table 11.8). -/
def Safe.recZone (f : Safe) (r : Nat) : Nat := fld (f.sax r 0) 10 8
def Safe.recNode (f : Safe) (r : Nat) : Nat := fld (f.sax r 0) 17 12 + 64 * fld (f.sax r 0) 18 18
def Safe.recNax (f : Safe) (r : Nat) : Nat := fld (f.sax r 0) 23 20

/-- Words over which `SAFE.CFG_ID` is computed. -/
def Safe.words (f : Safe) : List Word :=
  [f.w0, f.w1] ++ (List.range 8).map f.zn ++ Tbl.getRange 0 f.axis 0 192 ++ (List.range 8).map f.siw

/-- Field ranges of Tables 11.6 to 11.9. -/
def safeCfgOk (w0 w1 : Word) : Bool :=
  within w0 0x1FFF && decide (1 ≤ fld w0 3 0) && decide (fld w0 3 0 ≤ 8) && decide (5 ≤ fld w0 11 4) &&
  decide (fld w0 11 4 + 5 ≤ 20 * fld w0 3 0) && within w1 0x3FF3FFF && decide (100 ≤ fld w1 13 0) && decide (fld w1 13 0 ≤ 10000) &&
  decide (200 ≤ fld w1 25 16) && decide (fld w1 25 16 ≤ 800)
def zoneOk (w : Word) : Bool := within w 0xFFFF000F && decide (1 ≤ fld w 31 16)
def safeAxisOk (a b c : Word) : Bool :=
  within a 0x8FF7F7FF && within c 0xFFFF && (!bit a 31 || (decide (1 ≤ fld b 15 0) && decide (fld b 15 0 ≤ 32767) &&
    decide (fld b 31 16 ≤ 32767) && decide (1 ≤ fld c 15 0) && decide (fld c 15 0 ≤ 32767)))
def siOk (w : Word) : Bool :=
  within w 0xFFFFFF && decide (fld w 1 0 ≤ 2) && decide (10 ≤ fld w 19 10) && decide (fld w 19 10 ≤ 1000) && decide (fld w 23 20 ≤ 10)

/-- The whole safety configuration holds under R261, as far as the descriptors read so far show. -/
def State.safetyOk (s : State) (f : Safe) : Bool :=
  let recs := f.recs
  safeCfgOk f.w0 f.w1 && recs == List.range recs.length &&
  (List.range 8).all (fun z => zoneOk (f.zn z)) && (List.range 8).all (fun m => siOk (f.siw m)) &&
  recs.all (fun r =>
    let c := f.recNode r / 64
    let nd : Node := Tbl.get {} (s.ch c).nodes (f.recNode r % 64)
    safeAxisOk (f.sax r 0) (f.sax r 1) (f.sax r 2) &&
    (usedMap (s.ch c).active.map).any (fun p => fld p.2 7 0 == fld (f.sax r 0) 7 0 && fld p.2 13 8 == f.recNode r % 64) &&
    (!nd.descOk || decide (f.recNax r < (nd.desc.getD 23 0).toNat))) &&
  (bit f.w0 12 || (decide (recs.length ≤ 16) && recs.all (fun r =>
    let nd : Node := Tbl.get {} (s.ch (f.recNode r / 64)).nodes (f.recNode r % 64)
    !nd.descOk || decide ((nd.desc.getD 23 0).toNat ≤ 13))))

/-! ## Safe inputs (R271, R272) -/

/-- One sample of a contact; `n` samples spanning `FILT` are needed. -/
def Contact.sample (c : Contact) (level : Bool) (filt : Nat) : Contact :=
  let same := if level = c.raw then c.same + 1 else 1
  { raw := level, same := same, closed := if (same - 1) * 250 ≥ filt * 100 then level else c.closed }

/-- One sample of a safe input pair at a time. -/
def SafeIn.sample (x : SafeIn) (la lb : Bool) (w : Word) (now : Nat) : SafeIn :=
  let a := x.a.sample la (fld w 23 20)
  let b := x.b.sample lb (fld w 23 20)
  let agree := a.closed == b.closed
  let changed := a.closed != x.a.closed || b.closed != x.b.closed
  let since := if agree then none else if changed && x.a.closed == x.b.closed then some now else x.since
  if !x.disc then { x with a := a, b := b, since := since }
  else
    let bothOpen := x.bothOpen || (!a.closed && !b.closed)
    if bothOpen && a.closed && b.closed then
      let inTime := match x.since with
        | some t => decide (now - t ≤ fld w 19 10 * 1000000)
        | none => true
      { x with a := a, b := b, since := none, disc := !inTime, bothOpen := false }
    else { x with a := a, b := b, since := since, bothOpen := bothOpen }

/-- The input's contact is open on either side. -/
def SafeIn.open_ (x : SafeIn) : Bool := !x.a.closed || !x.b.closed

/-- Zones demanded by the safe inputs of a function. -/
def Safe.demanded (f : Safe) (func : Nat) : Nat :=
  ofBits (((List.range 8).filter (fun m => fld (f.siw m) 1 0 == func && (Tbl.get {} f.input m).open_)).flatMap
    (fun m => setBits 8 (fld (f.siw m) 9 2)))

/-- Zones with a safe input in discrepancy. -/
def Safe.inDisc (f : Safe) : Nat :=
  ofBits (((List.range 8).filter (fun m => fld (f.siw m) 1 0 != 0 && (Tbl.get {} f.input m).disc)).flatMap
    (fun m => setBits 8 (fld (f.siw m) 9 2)))

/-! ## Head PDU and replies -/

/-- Monitored speed limit L(k) of record r (R269). -/
def Safe.lim (f : Safe) (r k : Nat) : Nat :=
  min ((Tbl.get {} f.mon r).vStart - fld (f.sax r 1) 15 0 * k + fld (f.sax r 1) 31 16) 0x7FFF

/-- `REC.V_LIM` of record r in PDU j (R269). -/
def Safe.vLim (f : Safe) (r j : Nat) : Nat :=
  if f.ss1.testBit (f.recZone r) then
    match (Tbl.get {} f.zss (f.recZone r)).j0 with
    | some j0 => if j0 < j then f.lim r (j - j0) else 0x7FFF
    | none => 0x7FFF
  else 0x7FFF

/-- A PDU with its CRC-32C, in network byte order. -/
def withCrc (bs : List Byte) : List Byte := bs ++ beBytes 4 (crc32c bs)

/-- Head PDU of safe cycle j (Table 11.10). -/
def Safe.pdu (f : Safe) (j : Nat) : List Byte :=
  withCrc ([0x51, BitVec.ofNat 8 f.recs.length] ++ beBytes 2 (j % 65536) ++
    [BitVec.ofNat 8 f.sto, BitVec.ofNat 8 (f.ss1 - (f.ss1 &&& f.sto)), 0, 0] ++ beBytes 4 f.cfgId.toNat ++
    f.recs.flatMap (fun r => BitVec.ofNat 8 (f.recZone r) :: beBytes 2 (f.vLim r j)))

/-- Bytes padded with zeros to a multiple of 4. -/
def pad4 (n : Nat) : Nat := (n + 3) / 4 * 4

/-- Safe nodes of chain c, ascending. -/
def Safe.chainNodes (f : Safe) (c : Nat) : List Nat := f.nodes.filter (fun a => a / 64 == c)

/-- `SVC.SAFE_LEN` of chain c (R263). -/
def State.safeLen (s : State) (c : Nat) : Nat :=
  if s.safe.headPdu.isEmpty then 0
  else pad4 s.safe.headPdu.length + ((s.safe.chainNodes c).map s.replyLen).sum

/-- The safe region as launched: the head PDU, padded, and reply slots of zeros. -/
def State.safeRegion (s : State) (c : Nat) : List Byte :=
  s.safe.headPdu ++ List.replicate (s.safeLen c - s.safe.headPdu.length) 0

/-- S(j) and E(j) (R260). -/
def Safe.sAt (f : Safe) (j : Nat) : Nat := j * (max f.tSafe 1 * 1000000)
def Safe.eAt (f : Safe) (j : Nat) : Nat := f.sAt j + fld f.w0 11 4 * 50000

/-- A reply of node `a` is accepted against a channel's baseline (R266). -/
def State.replyOk (s : State) (a : Nat) (nseq : Nat) (bs : List Byte) : Bool :=
  let n := 12 + 4 * s.safeAxesOf a
  let b := bs.take n
  decide (n ≤ bs.length) && b.headD 0 == 0x52 && (b.getD 1 0).toNat == a &&
  beNat ((b.drop 2).take 2) == s.safe.cycle % 65536 && (b.getD 6 0).toNat == s.safeAxesOf a &&
  (nseq == 0 || beNat ((b.drop 4).take 2) == nseq % 65536) && beNat (b.drop (n - 4)) == crc32c (b.take (n - 4)) &&
  s.due (s.safe.eAt s.safe.cycle) && !s.safe.evaluated

/-- `NSEQ` of a reply, plus 1. -/
def nseqOf (bs : List Byte) : Nat := beNat ((bs.drop 4).take 2) + 1

/-- Channel 1 takes a reply from a chain copy; the first accepted counts. -/
def State.safeChainReply (s : State) (a : Nat) (bs : List Byte) : State :=
  if (Tbl.get {} s.safe.rep1 a).accepted || !s.replyOk a (Tbl.get 0 s.safe.nseq1 a) bs then s
  else { s with safe := { s.safe with rep1 := Tbl.put s.safe.rep1 a { accepted := true, bytes := bs.take (s.replyLen a) }
                                      nseq1 := Tbl.put s.safe.nseq1 a (nseqOf bs) } }

/-- Reply slots of a returned safe region, node by node. -/
def State.safeChainReplies (s : State) (bs : List Byte) : List Nat → State
  | [] => s
  | a :: l => (s.safeChainReply a (bs.take (s.replyLen a))).safeChainReplies (bs.drop (s.replyLen a)) l

/-- Zones of the safe axes on node a. -/
def Safe.nodeZones (f : Safe) (a : Nat) : Nat := ofBits ((f.recs.filter (fun r => f.recNode r == a)).map f.recZone)

/-- A head PDU that a standby reads: whole, for the safe cycle in progress and the first of it (R278). -/
def State.readsPdu (s : State) (bs : List Byte) : Bool :=
  let n := 16 + 3 * (bs.getD 1 0).toNat
  s.md.mode == .runStandby && !s.safe.pduSeen && bs.headD 0 == 0x51 && decide (n ≤ bs.length) &&
  beNat ((bs.take n).drop (n - 4)) == crc32c (bs.take (n - 4)) && beNat ((bs.drop 2).take 2) == s.safe.cycle % 65536

/-- `NSEQ` baselines without those of the nodes of some zones, which are set afresh (R266, R276). -/
def Safe.freshSeq (f : Safe) (zones : Nat) (t : Tbl Nat) : Tbl Nat := t.filter (fun p => f.nodeZones p.1 &&& zones == 0)

/-- Zones whose own cause for STO stands: findings, inputs, discrepancies, host demands. -/
def Safe.caused (f : Safe) : Nat := f.found ||| f.demanded 1 ||| f.inDisc ||| f.hostSto

/-- Zones that the active has re-armed: its head PDU no longer shows them in STO, and no own cause stands. -/
def Safe.rearmedBy (f : Safe) (z : Nat) : Nat := let l := f.stoAtS &&& f.seenSto; l - (l &&& (z ||| f.caused))

/-- Zones in which a head PDU with zones `z` in STO and `q` in SS1 differs from the own verdicts at S(j) (R278): states shown that
are not the own, and own states that are not shown and that the active has not re-armed. -/
def Safe.differs (f : Safe) (z q : Nat) : Nat :=
  let sto := f.stoAtS ||| f.hostSto
  let own := f.stoAtS - (f.stoAtS &&& f.rearmedBy z)
  (z - (z &&& sto)) ||| (own - (own &&& z)) ||| (q - (q &&& (f.ss1AtS ||| sto ||| f.hostSs1))) ||| (f.ss1AtS - (f.ss1AtS &&& (q ||| z)))

/-- Zone states of a standby after it has read zones `z` in STO and `q` in SS1: re-arming and demands of the active are its own. -/
def Safe.follow (f : Safe) (z q : Nat) : Safe :=
  let left := f.rearmedBy z
  let sto := (f.sto - (f.sto &&& left)) ||| z
  let ss1 := f.ss1 ||| q
  let new := q - (q &&& (f.ss1 ||| sto))
  { f with sto := sto, ss1 := ss1 - (ss1 &&& sto), seenSto := z, pduSeen := true
           nseq1 := f.freshSeq left f.nseq1, nseq2 := f.freshSeq left f.nseq2
           zss := (setBits 8 new).foldl (fun t k => Tbl.put t k {}) f.zss }

/-- The zones a head PDU of the active shows, compared with a standby's own verdicts (R278). -/
def State.seeHeadPdu (s : State) (bs : List Byte) : State :=
  if !s.readsPdu bs then s
  else
    let f := s.safe
    let z := (bs.getD 4 0).toNat
    let q := (bs.getD 5 0).toNat
    let differ := f.differs z q
    let t : State := { s with safe := f.follow z q }
    if differ = 0 then t else t.raise 87 0xFFFF differ

/-- A returned or forwarded safe region of chain c (R263, R266, R278). -/
def State.safeRegionIn (s : State) (c : Nat) (bs : List Byte) : State :=
  if bs.isEmpty || !s.safeRuns then s
  else (s.seeHeadPdu bs).safeChainReplies (bs.drop (pad4 s.safe.pduLen)) (s.safe.chainNodes c)

/-- Channel 2 takes a frame of the safety schedule from CAN1. -/
def State.safeCanReply (s : State) (f : CanFrame) : State :=
  if !s.safeRuns then s
  else
    match s.safe.nodes[baseIdOf f - fld s.can.s0 21 11]? with
    | some a =>
      if baseIdOf f < fld s.can.s0 21 11 then s.seeHeadPdu f.data
      else if (Tbl.get {} s.safe.rep2 a).accepted || !s.replyOk a (Tbl.get 0 s.safe.nseq2 a) f.data then s
      else { s with safe := { s.safe with rep2 := Tbl.put s.safe.rep2 a { accepted := true, bytes := f.data.take (s.replyLen a) }
                                          nseq2 := Tbl.put s.safe.nseq2 a (nseqOf f.data) } }
    | none => s.seeHeadPdu f.data

/-- A safe cycle starts: the next S(j) (R260, R262). -/
def Safe.nextCycle (f : Safe) (now : Nat) : Nat :=
  let j := (now + max f.tSafe 1 * 1000000 - 1) / (max f.tSafe 1 * 1000000)
  if f.begun && j ≤ f.cycle then f.cycle + 1 else j

/-! ## Evaluation (R267 to R270) -/

/-- What an evaluation gathers: zones by finding, events to raise. -/
structure Finding where
  zones : Nat := 0
  ev : List EvReq := []
  deriving DecidableEq, Repr

/-- Findings about the replies of node a (Table 11.13). -/
def Safe.nodeFinding (f : Safe) (a : Nat) : Finding :=
  let r1 : SafeReply := Tbl.get {} f.rep1 a
  let r2 : SafeReply := Tbl.get {} f.rep2 a
  if !r1.accepted || !r2.accepted then
    { zones := f.nodeZones a, ev := [(88, a % 128, b2n (!r1.accepted) + 2 * b2n (!r2.accepted))] }
  else if r1.bytes ≠ r2.bytes then { zones := f.nodeZones a, ev := [(87, a % 128, f.nodeZones a)] }
  else if (r1.bytes.getD 7 0).toNat % 4 ≠ 0 then { zones := f.nodeZones a }
  else { zones := ofBits ((f.recs.filter (fun r => f.recNode r == a && (r1.bytes.getD (10 + 4 * f.recNax r) 0).toNat % 4 != 0)).map f.recZone) }

/-- Safe speed of record r in the accepted reply of its node; none where no reply was accepted. -/
def Safe.speedOf (f : Safe) (r : Nat) : Option Int :=
  let a : SafeReply := Tbl.get {} f.rep1 (f.recNode r)
  if a.accepted then some (sgn 16 (beNat ((a.bytes.drop (8 + 4 * f.recNax r)).take 2))) else none

/-- Monitoring state of record r after the evaluation of its speed. -/
def Safe.monitor (f : Safe) (r : Nat) : SafeAxis :=
  let m : SafeAxis := Tbl.get {} f.mon r
  match f.speedOf r with
  | some v => { m with speed := v, still := if v.natAbs < fld (f.sax r 2) 15 0 then m.still + 1 else 0 }
  | none => { m with still := 0 }

/-- The monitored limits of the zones in SS1 start at E(j0) (R269). -/
def Safe.startSs1 (f : Safe) : Safe :=
  let zs := (setBits 8 f.ss1).filter (fun z => (Tbl.get {} f.zss z).j0.isNone)
  { f with zss := zs.foldl (fun t z => Tbl.upd {} t z (fun x => { x with j0 := some f.cycle })) f.zss
           mon := (f.recs.filter (fun r => zs.contains (f.recZone r))).foldl
             (fun t r => Tbl.upd {} t r (fun m => { m with vStart := m.speed.natAbs })) f.mon }

/-- Records in SS1 that exceed L(k) at this evaluation. -/
def Safe.violations (f : Safe) : List Nat :=
  f.recs.filter (fun r => f.ss1.testBit (f.recZone r) &&
    (match (Tbl.get {} f.zss (f.recZone r)).j0 with
     | some j0 => decide (j0 < f.cycle) && decide ((Tbl.get {} f.mon r).speed.natAbs > f.lim r (f.cycle - j0))
     | none => false))

/-- Zones whose SS1 ends: standstill of every safe axis long enough, or the time limit (R270). -/
def Safe.ss1Ends (f : Safe) : Nat :=
  ofBits ((setBits 8 f.ss1).filter (fun z =>
    (f.recs.filter (fun r => f.recZone r == z)).all (fun r => decide ((20 + max f.tSafe 1 - 1) / max f.tSafe 1 ≤ (Tbl.get {} f.mon r).still)) ||
    (match (Tbl.get {} f.zss z).j0 with
     | some j0 => decide (fld (f.zn z) 31 16 ≤ f.cycle - j0)
     | none => false)))

/-- The evaluation at E(j) (R267 to R270). -/
def State.evaluate (s : State) (v : SafeExchange) : State :=
  let f := { s.safe with mon := s.safe.recs.foldl (fun t r => Tbl.put t r (s.safe.monitor r)) s.safe.mon }
  let fs := f.nodes.map f.nodeFinding
  let viol := f.violations
  let differ := v.differ.toNat
  let found := fs.foldl (fun a x => a ||| x.zones) 0 ||| ofBits (viol.map f.recZone) ||| differ
  let ends := f.ss1Ends
  let s1 : State := { s with safe := { f.startSs1 with evaluated := true, lastSeq := f.cycle % 65536, found := found } }
  let s2 := (s1.raiseAll (fs.flatMap (·.ev))).raiseAll
    (viol.map (fun r => (86, r, ubits 32 (Tbl.get ({} : SafeAxis) f.mon r).speed)))
  let s3 := if differ = 0 then s2 else s2.raise 87 0xFFFF differ
  let s4 := ((setBits 8 (found - (found &&& s.safe.found))).foldl (fun t z => t.fixedFault 32 z 2)
    (s3.enterSto found 1)).enterSto ends 4
  if !v.complete then s4.internalFault 1 else if v.cfgDiffer then s4.internalFault 2 else s4

/-! ## Restart (R275, R276) -/

/-- Zones in STO that a re-arming edge lets go. -/
def Safe.rearmable (f : Safe) : Nat :=
  if !f.confirmed then 0
  else ofBits ((setBits 8 f.sto).filter (fun z => !(f.demanded 1).testBit z && !(f.demanded 2).testBit z && !f.inDisc.testBit z
    && !f.hostSto.testBit z && !f.hostSs1.testBit z && !f.found.testBit z))

/-- Pairs that serve a zone of a mask. -/
def Safe.pairsOf (f : Safe) (zones : Nat) : Nat := ofBits ((List.range 4).filter (fun n => f.pairZones n &&& zones != 0))

/-- Zones that a re-arming edge lets go, those held by a lasting fault with reaction 2 apart (R276, Table 17.2). -/
def State.rearmable (s : State) : Nat := s.safe.rearmable - (s.safe.rearmable &&& s.stoHeld)

/-- Zones served by a pair of a mask. -/
def Safe.zonesOn (f : Safe) (pairs : Nat) : Nat := (setBits 4 pairs).foldl (fun a n => a ||| f.pairZones n) 0

/-- Zones leave STO, with their `NSEQ` baselines set afresh, and event 91 (R276). -/
def State.leaveSto (s : State) (z : Nat) : State :=
  if z = 0 then s
  else
    let f := s.safe
    ({ s with safe := { f with sto := f.sto - (f.sto &&& z), nseq1 := f.freshSeq z f.nseq1
                               nseq2 := f.freshSeq z f.nseq2 } } : State).drivePairs.raise 91 z 0

/-- The test of the pairs under a lasting fault that serve zones `z` begins: both sides are energised and have 10 ms (R276). -/
def State.testPairs (s : State) (z : Nat) : State :=
  if z = 0 then s
  else
    ({ s with safe := { s.safe with test := { zones := z, pairs := s.safe.pairsOf z &&& s.safe.pairFault, until_ := s.now + 10000000 } } }
      : State).drivePairs

/-- A re-arming edge (R276): zones whose pairs are free of faults leave STO at once, the others once their pairs have passed. -/
def State.rearm (s : State) : State :=
  let z := s.rearmable
  let tz := z &&& s.safe.zonesOn s.safe.pairFault
  let s2 := (s.leaveSto (z - tz)).testPairs tz
  match s2.safe.waitArm with
  | some (r, _) =>
    if s2.md.mode = .safeHold then
      ({ s2 with safe := { s2.safe with waitArm := none } }.respond r stOk []).modeAtBoundary .configure 0
    else s2
  | none => s2

/-- Side A or B of a pair under test has passed: with both sides of every pair the zones leave STO, the pairs free of faults. -/
def State.testPassed (s : State) (pair : Nat) (sideB : Bool) : State :=
  let f := s.safe
  let q : PairTest := if sideB then { f.test with okB := f.test.okB ||| 2 ^ pair } else { f.test with okA := f.test.okA ||| 2 ^ pair }
  if (q.pairs &&& q.okA &&& q.okB) = q.pairs then
    ({ s with safe := { f with test := {}, pairFault := f.pairFault - (f.pairFault &&& q.pairs) } } : State).leaveSto q.zones
  else { s with safe := { f with test := q } }

/-- The test has not passed in time: its pairs are de-energised again. -/
def State.testExpires (s : State) : State :=
  if s.safe.test.pairs ≠ 0 && decide (s.safe.test.until_ < s.now) then ({ s with safe := { s.safe with test := {} } } : State).drivePairs
  else s

/-- The safety function with pair n faulty: it and its zones are no longer under test. -/
def Safe.failPair (f : Safe) (n : Nat) : Safe :=
  { f with pairFault := f.pairFault ||| 2 ^ n
           test := { f.test with pairs := f.test.pairs - (f.test.pairs &&& 2 ^ n)
                                 zones := f.test.zones - (f.test.zones &&& f.pairZones n) } }

/-- A failed read-back (R274). -/
def State.outFail (s : State) (pair : Nat) (sideB : Bool) : State :=
  let s1 : State := { s with safe := s.safe.failPair pair }
  ((s1.drivePairs.raise 90 (pair + bitAt 2 sideB) 0).fixedFault 34 pair 5).internalFault 6

/-! ## Output test (R273) -/

/-- Off-pulses of a side begin at these instants: every `OT_PERIOD` of the time base, side B half a period and pair n n eighths of
one later (R273; from 0 of the time base: DESIGN CHOICE, log entry 119). -/
def Safe.pulseDue (f : Safe) (pair : Nat) (sideB : Bool) (t : Nat) : Bool :=
  let p := fld f.w1 13 0 * 1000000
  decide (1 ≤ p) && decide ((t + p * 8 - p / 8 * pair - (if sideB then p / 2 else 0)) % p = 0)

/-- The read-back of an off-pulse is as it must be: off from 100 µs after its start until its end, on within 100 µs after it. -/
def Safe.pulseOk (f : Safe) (r : Readback) : Bool :=
  let w := fld f.w1 25 16 * 1000
  match r.off, r.on with
  | some a, some b => decide (a ≤ 100000) && decide (w ≤ b) && decide (b ≤ w + 100000)
  | _, _ => false

/-- The RC count of channel 2 since the last safe cycle start lies within ±5 % of 16,000 × `T_SAFE` (R260). -/
def Safe.rcOk (f : Safe) (rc : Nat) : Bool :=
  let n := 16000 * max f.tSafe 1
  !f.begun || (decide (95 * n ≤ 100 * rc) && decide (100 * rc ≤ 105 * n))

/-! ## RESTART (R275) -/

/-- One sample of RESTART on one channel. -/
def Press.sample (p : Press) (active : Bool) (now : Nat) : Press :=
  match active, p.since with
  | true, none => { since := some now }
  | false, some t => { since := none, last := some (t, now) }
  | _, _ => p

/-- A measured press is of 50 ms to 3 s. -/
def pressOk (l : Nat × Nat) : Bool := decide (l.1 + 50000000 ≤ l.2) && decide (l.2 ≤ l.1 + 3000000000)

/-- Both channels have measured the press: it re-arms where both periods are in range and the releases are within 1 ms. -/
def Safe.edge (f : Safe) : Option Bool :=
  match f.press1.last, f.press2.last with
  | some a, some b => some (pressOk a && pressOk b && decide (a.2 ≤ b.2 + 1000000) && decide (b.2 ≤ a.2 + 1000000))
  | _, _ => none

end Sys2Proof.Machine
end

