-- ==== Sys2Proof/Machine/Checks.lean ====
section
/-!
DEFINITION. Checks of tables, budgets, gears and axis configurations (R30, R39, R50, R91 to R94, R97, R157, R170, R297).
-/
namespace Sys2Proof.Machine

/-- Line rate of a port word: 0 none, 1 100 Mbit/s, 2 1 Gbit/s, 3 2.5 Gbit/s (Table 3.4, R57). -/
def portRate (w : Word) : Nat :=
  match fld w 1 0 with
  | 0 => 0
  | 1 => if bit w 2 then 3 else 2
  | 2 => 2
  | _ => 1

/-- Line rate of a chain. -/
def Chain.rate (c : Chain) : Nat := max (portRate c.portL) (portRate c.portR)

/-- Byte time in tenths of a ns (Table 3.21); 0 where no port is used. -/
def byteTenths (rate : Nat) : Nat := if rate = 3 then 32 else if rate = 2 then 80 else if rate = 1 then 800 else 0

/-- The chain uses compact spokes (Table 3.3). -/
def Chain.compact (c : Chain) : Bool := bit c.cfg 16

/-- Spoke size (R74). -/
def Chain.spokeSize (c : Chain) : Nat := if c.compact then 16 else 32

/-- Limits of Table 2.1: axes per device. -/
def maxAxes (g : Nat) : Nat := if g = 1 then 64 else if g = 2 then 128 else 256

/-- Axes per chain at a line rate; a rate the gear does not allow carries none. -/
def maxSpokes (g rate : Nat) : Nat :=
  if g = 1 then (if rate = 3 then 32 else 0)
  else if g = 2 then (if rate = 3 then 64 else 0)
  else if g = 3 then (if rate = 3 then 128 else if rate = 2 then 64 else 0)
  else (if rate = 3 ∨ rate = 2 then 128 else if rate = 1 then 32 else 0)

/-- Nodes per chain at a line rate. -/
def maxNodes (g rate : Nat) : Nat :=
  if g = 1 then (if rate = 3 then 16 else 0)
  else if g = 2 then (if rate = 3 then 32 else 0)
  else if g = 3 then (if rate = 3 then 64 else if rate = 2 then 32 else 0)
  else (if rate = 3 ∨ rate = 2 then 64 else if rate = 1 then 16 else 0)

/-- A line rate is allowed in a gear (Table 2.1). -/
def rateAllowed (g rate : Nat) : Bool := rate == 0 || maxSpokes g rate != 0

/-! ## Tables -/

/-- Windows of a table: start, length and kind of each entry (Table 4.1). -/
def winStart (w : Tbl Word) (k : Nat) : Nat := fld (Tbl.get 0 w (2 * k)) 23 0
def winKindOf (w : Tbl Word) (k : Nat) : Nat := fld (Tbl.get 0 w (2 * k)) 26 24
def winLength (w : Tbl Word) (k : Nat) : Nat := fld (Tbl.get 0 w (2 * k + 1)) 23 0

/-- Used entries of a slot table. -/
def usedWins (w : Tbl Word) : List Nat := (List.range 8).filter (fun k => winKindOf w k != 0)

/-- The window of a kind, if the table has one. -/
def windowFor (w : Tbl Word) (kind : Nat) : Option Nat := (usedWins w).find? (fun k => winKindOf w k == kind)

/-- Used entries of a node table, by address (Table 4.4). -/
def nodeW (n : Tbl Word) (a k : Nat) : Word := Tbl.get 0 n (4 * a + k)
def nodeUsed (n : Tbl Word) (a : Nat) : Bool := bit (nodeW n a 1) 31
def usedNodes (n : Tbl Word) : List Nat := (List.range 64).filter (nodeUsed n)
def nodePos (n : Tbl Word) (a : Nat) : Nat := fld (nodeW n a 1) 5 0
def nodeAxes (n : Tbl Word) (a : Nat) : Nat := fld (nodeW n a 1) 12 8
def nodeFreewheel (n : Tbl Word) (a : Nat) : Nat := fld (nodeW n a 1) 28 13

/-- Words of table entries without reserved bits or kinds (Tables 4.1, 4.3, 4.4). -/
def winEntryOk (a b : Word) : Bool := within a 0x7FFFFFF && decide (fld a 26 24 ≤ 5) && within b 0xFFFFFF
def mapEntryOk (w : Word) : Bool := within w 0x800F3FFF
def nodeEntryOk (b c d : Word) : Bool :=
  within b 0x9FFFFF3F && within c 0xFFFFFF && within d 0xFFFFFF && (!bit b 31 || (decide (1 ≤ fld b 12 8) && decide (fld b 12 8 ≤ 16)))

/-- Largest frame of a window kind (Table 4.2). -/
def largestFrame (kind s spokes nodes safeLen : Nat) : Nat :=
  match kind with
  | 1 => max 64 (42 + s * spokes)
  | 2 => 54 + 24 * min nodes 64 + safeLen
  | 3 => 562
  | _ => 64

/-- `SVC.SAFE_LEN` as the safety configuration will have it (R263). -/
def State.safeLenCfg (s : State) (c : Nat) : Nat :=
  if s.safe.configured then pad4 s.safe.pduLen + ((s.safe.chainNodes c).map s.replyLen).sum else 0

/-- The claim/beacon window of R297 under a configured twin. -/
def claimWindowOk (w : Tbl Word) (tc : Nat) : Bool :=
  match windowFor w 4 with
  | some k => decide (3000 ≤ winStart w k) && decide (2 * (winStart w k + winLength w k) ≤ tc)
  | none => false

/-- Exactly one servo window, at 0 (R91). -/
def servoWindowOk (w : Tbl Word) : Bool :=
  match (usedWins w).filter (fun k => winKindOf w k == 1) with
  | [k] => winStart w k == 0
  | _ => false

/-- Windows of chain c under R91, R92 and R297 at a cycle length. -/
def State.winsOk (s : State) (c tc : Nat) (w : Tbl Word) (spokes nodes : Nat) : Bool :=
  let x := s.ch c
  let u := usedWins w
  (List.range 8).all (fun k => winEntryOk (Tbl.get 0 w (2 * k)) (Tbl.get 0 w (2 * k + 1))) &&
  (!x.enabled || servoWindowOk w) && u.all (fun k => winKindOf w k != 1 || winStart w k == 0) &&
  u.all (fun k => u.all (fun j => k == j || (winKindOf w k != winKindOf w j &&
    !overlap (winStart w k) (winLength w k) (winStart w j) (winLength w j)))) &&
  u.all (fun k => decide (winStart w k + winLength w k ≤ tc) &&
    decide ((largestFrame (winKindOf w k) x.spokeSize spokes nodes (s.safeLenCfg c) + 20) * byteTenths x.rate ≤ 10 * winLength w k)) &&
  (!s.twin.enable || !x.enabled || claimWindowOk w tc)

/-- The used entries of a map are contiguous from 0 (R93). -/
def mapContiguous (m : Tbl Word) : Bool := (usedMap m).map (·.1) == List.range (usedMap m).length

/-- Tables of chain c under R91 to R94 at a cycle length. -/
def State.tablesOk (s : State) (c tc : Nat) (t : Tables) : Bool :=
  let um := usedMap t.map
  let un := usedNodes t.node
  s.winsOk c tc t.win um.length un.length && mapContiguous t.map && t.map.all (fun p => mapEntryOk p.2) &&
  um.all (fun p => nodeUsed t.node (fld p.2 13 8) && decide (fld p.2 19 16 < nodeAxes t.node (fld p.2 13 8))) &&
  un.all (fun a => nodeEntryOk (nodeW t.node a 1) (nodeW t.node a 2) (nodeW t.node a 3) &&
    decide (nodePos t.node a < un.length) && un.all (fun b => a == b || nodePos t.node a != nodePos t.node b) &&
    decide (fld (nodeW t.node a 2) 23 0 < tc) && decide (fld (nodeW t.node a 3) 23 0 < tc) &&
    (!s.twin.enable || decide (max 8 (s.twin.l + 5) ≤ nodeFreewheel t.node a)))

/-- Axes of two maps, with repetitions. -/
def mapAxes (m : Tbl Word) : List Nat := (usedMap m).map (fun p => fld p.2 7 0)

/-- Each axis appears at most once across both chains (R93). -/
def axesOnce (m0 m1 : Tbl Word) : Bool :=
  let l := mapAxes m0 ++ mapAxes m1
  l.length == l.eraseDups.length

/-! ## Axes -/

/-- Output kinds of a template (Table 6.4). -/
def outAllowed (t o : Nat) : Bool :=
  match t with
  | 1 => o == 0 || o == 1 || o == 5
  | 2 => o == 0 || o == 5
  | 3 => o == 2 || o == 0
  | 4 => o == 3
  | 5 => o == 0 || o == 5
  | 6 => o == 4 || o == 5
  | _ => false

/-- Field ranges of `LOOP.CFG` (Table 6.8). -/
def loopWordsOk (w0 w1 : Word) : Bool :=
  within w0 0xFFF03FF && decide (fld w0 2 0 ≤ 6) && decide (fld w0 5 3 ≤ 5) && within w1 0xFFFF

/-- The node of a current-loop axis declares what R170 asks, as far as its descriptor has been read. -/
def bareOk (nd : Node) : Bool :=
  !nd.descOk || ((nd.desc.getD 27 0).toNat % 2 == 1 && (nd.desc.getD 17 0).toNat.testBit 4 &&
    leNat ((nd.desc.drop 36).take 4) != 0 && leNat ((nd.desc.drop 40).take 4) != 0)

/-- The checks of R157 and R170 on an axis of a non-zero template, against spoke maps and a gear. -/
def State.axisFits (s : State) (m0 m1 : Tbl Word) (gear i : Nat) (x : Axis) : Bool :=
  x.template == 0 ||
    (outAllowed x.template x.out &&
    (match spokeOf m0 i, spokeOf m1 i with
     | none, none => x.out == 5
     | some k, _ => x.out != 5 && (!s.ch0.compact || x.out != 3) &&
         (x.out != 3 || (gear == 1 && bareOk (Tbl.get {} s.ch0.nodes (fld (Tbl.get 0 m0 k) 13 8))))
     | none, some k => x.out != 5 && (!s.ch1.compact || x.out != 3) &&
         (x.out != 3 || (gear == 1 && bareOk (Tbl.get {} s.ch1.nodes (fld (Tbl.get 0 m1 k) 13 8))))))

/-- Axes with a template. -/
def State.templated (s : State) : List Nat := s.axisList.filter (fun i => (s.ax i).template != 0)

/-- Current-loop axes. -/
def State.curAxes (s : State) : List Nat := s.axisList.filter (fun i => (s.ax i).isCur)

/-- Local step axes. -/
def State.stepAxes (s : State) : List Nat := s.axisList.filter (fun i => (s.ax i).isStep)

/-! ## Gear limits and commits -/

/-- Limits of Table 2.1 for tables at a gear (R30, R31, R50, Table 4.5). -/
def State.limitsOk (s : State) (g : Nat) (t0 t1 : Tables) : Bool :=
  let one (c : Nat) (t : Tables) : Bool :=
    let x := s.ch c
    (!x.enabled || rateAllowed g x.rate) && (x.rate == 0 ||
      (decide ((usedMap t.map).length ≤ maxSpokes g x.rate) &&
       decide ((usedNodes t.node).length + x.members.length ≤ maxNodes g x.rate)))
  one 0 t0 && one 1 t1 &&
  decide ((usedMap t0.map).length + (usedMap t1.map).length + s.stepAxes.length ≤ maxAxes g)

/-- Status of a commit of tables (Table 4.5): `n0`, `n1` the chains it names. -/
def State.commitStatus (s : State) (g : Nat) (n0 n1 : Bool) (t0 t1 : Tables) : Nat :=
  let tc := tcOf g
  if !((!n0 || s.tablesOk 0 tc t0) && (!n1 || s.tablesOk 1 tc t1) && axesOnce t0.map t1.map) then stBadArg
  else if !s.templated.all (fun i => s.axisFits t0.map t1.map g i (s.ax i)) then stBadArg
  else if !s.limitsOk g t0 t1 then stNoResource
  else stOk

/-- Cores in service. -/
def State.coresInService (s : State) : Nat := (setBits 16 s.sched.inService).length

/-- Bytes per cycle of the host DMA for the link as trained, in 1/8000 byte per ns (Table 2.5). -/
def State.dmaRate (s : State) : Nat :=
  if s.straps.hsel then 200
  else (if s.host.gen = 3 then 12000 else if s.host.gen = 2 then 6000 else if s.host.gen = 1 then 3000 else 0) / (if s.host.x2 then 1 else 2)

/-- Charges of A0, A1 and A2 that the configured axes post in one cycle (R39). -/
def State.charges (s : State) : Nat × Nat × Nat :=
  let l := s.templated.map s.ax
  ((l.map (fun x => if x.isCur then chargeOf (templateSteps 4) else 0)).sum,
   (l.map (fun x => chargeOf (templateSteps x.loopTemplate))).sum, l.length * profileCharge)

/-- Status of a budget set with its headroom word at a gear (R39, R44, R375). -/
def State.budgetStatus (s : State) (g : Nat) (b : Nat → Word) (w5 : Word) : Nat :=
  let tc := tcOf g
  let l (k : Nat) : Nat := fld (b k) 23 0
  let c := s.charges
  if !((List.range 8).all (fun k => within (b k) 0xFFFFFF) && within w5 0x1F && decide (8 ≤ fld w5 4 0) && decide (fld w5 4 0 ≤ 16) &&
      decide (l 0 + l 1 + l 2 ≤ s.coresInService * tc) && decide (l 3 ≤ tc) && decide (l 4 ≤ tc) && decide (l 5 ≤ tc) &&
      decide (l 6 * 8000 ≤ s.dmaRate * tc) && decide (l 7 ≤ tc * 50 / 33)) then stBadArg
  else if decide (l 0 < c.1) || decide (l 1 < c.2.1) || decide (l 2 < c.2.2) then stNoResource
  else stOk

/-- Every feedback port keeps its timing at a gear (R228). -/
def State.portsFit (s : State) (g : Nat) : Bool := s.pins.fb.all (fun p => p.2.timingOk (tcOf g))

/-- The leaving-CONFIGURE checks (R374): the opcode group at fault, 0 where they hold. -/
def State.leaveFault (s : State) : Nat :=
  if !s.safetyOk s.safe then 0x0E
  else if s.safe.configured && !s.canSafeOk s.can.s0 s.can.s1 s.can.s2 then 0x11
  else if (s.ch0.enabled && (!servoWindowOk s.ch0.active.win || (s.twin.enable && !claimWindowOk s.ch0.active.win s.tc))) ||
      (s.ch1.enabled && (!servoWindowOk s.ch1.active.win || (s.twin.enable && !claimWindowOk s.ch1.active.win s.tc))) then 0x05
  else 0

/-! ## When a change takes effect (R95) -/

/-- Cycle in which a request taken now arrives at the units, `lag` ns later: the tick of a boundary belongs to the new cycle. -/
def State.arrivalCycle (s : State) (lag : Nat) : Nat := s.clk.cycle + (s.now + lag - s.bNow) / s.tc

/-- A request that names cycle e and arrives `lag` ns after its taking: the cycle at which it takes effect, the first after its
arrival where it is late, and whether it is late (R95). -/
def State.lateEffect (s : State) (lag e : Nat) : Nat × Bool :=
  if s.now + lag ≤ s.clk.b (e - 1) then (e, false) else (s.arrivalCycle lag + 1, true)

/-- First whole millisecond at or after the second boundary after the arrival (R51). -/
def State.shiftCycle (s : State) (lag : Nat) : Nat :=
  let per := 1000000 / s.tc
  let n := s.arrivalCycle lag + 2
  let k := (s.clk.b n % 1000000) / s.tc
  if k = 0 then n else n + (per - k)

/-- A command that would start motion is refused with LOCKED: a standstill shift is pending (R49). -/
def State.shiftLocks (s : State) : Bool :=
  match s.pend.shift with
  | some x => x.still
  | none => false

end Sys2Proof.Machine
end

