-- ==== Sys2Proof/Machine/NodeOps.lean ====
section
/-!
DEFINITION. Nodes and their requests: queues, delivery of per-node values, replies, the acyclic windows and the service
frame (R91, R94, R99 to R103, R112, R118 to R120, R135, R171, R264, R341, R376, R400).
-/
namespace Sys2Proof.Machine

/-- Node a of a chain. -/
def Chain.nd (x : Chain) (a : Nat) : Node := Tbl.get {} x.nodes a
def Chain.setNd (x : Chain) (a : Nat) (n : Node) : Chain := { x with nodes := Tbl.put x.nodes a n }
def State.nd (s : State) (c a : Nat) : Node := (s.ch c).nd a
def State.setNd (s : State) (c a : Nat) (n : Node) : State := s.updCh c (fun x => x.setNd a n)

/-- Addresses assigned by discovery, ascending. -/
def Chain.assigned (x : Chain) : List Nat := (x.nodes.filter (fun p => p.2.assigned)).map (·.1)

/-- Expected pass sum N (R79). -/
def Chain.passN (x : Chain) : Nat := (x.assigned.map (· + 1)).sum

/-- The two chains that are enabled. -/
def State.chains (s : State) : List Nat := [0, 1].filter (fun c => (s.ch c).enabled)

/-- The agent whose request it is: 0 host, 1 supervisor (Table 16.7). -/
def ReqFor.agent : ReqFor → Nat
  | .hostRead _ => 0
  | .hostWrite _ => 0
  | .stage => 0
  | _ => 1

/-- Size of a mandatory object, which `LEN` of a READ gives (R136, Tables 5.2, 11.12, 13.13); 0 for any other index, whose
size the head does not know (DESIGN CHOICE, log entry 116). -/
def objSize (i : Nat) : Nat :=
  if i = 0x10 then 2 else if i = 0x11 then 4 else if i = 0x20 then 16 else if i = 0x21 ∨ i = 0x22 then 8
  else if 0x30 ≤ i ∧ i ≤ 0x35 then 4 else 0

/-- A request waits in its node's queue and its agent raises its request for the chain's acyclic windows (R101, R399). -/
def State.queueReq (s : State) (c a : Nat) (r : NodeReq) : State :=
  (s.setNd c a { s.nd c a with queue := (s.nd c a).queue ++ [r] }).arbRaise (1 + c) r.use.agent

/-- Several requests of one node, in order. -/
def State.queueReqs (s : State) (c a : Nat) : List NodeReq → State
  | [] => s
  | r :: l => (s.queueReq c a r).queueReqs c a l

/-- A delay as SET_DELAY carries it: increased by K_c, unknown stays unknown (R108, R298). -/
def delayWord (d : Word) (k : Int) : Nat := if d = 0xFFFFFFFF then 0xFFFFFFFF else ubits 32 (d.toNat + k)

/-- WRITE, SET_DELAY and SET_CYCLE requests (Table 4.6). -/
def writeReq (index : Nat) (bs : List Byte) : NodeReq := { op := 0x02, index := wd index, len := bs.length, data := bs, use := .deliver }
def Node.delayReq (n : Node) (x : Chain) (use : ReqFor) : NodeReq :=
  { op := 0x11, len := 8, data := beBytes 4 (delayWord n.dA x.kA) ++ beBytes 4 (delayWord n.dB x.kB), use := use }
def State.cycleReq (s : State) (c a : Nat) : NodeReq :=
  { op := 0x12, len := 16, data := beBytes 8 s.bNow ++ beBytes 4 s.tc ++ beBytes 4 (fld (nodeW (s.ch c).active.node a 2) 23 0) }

/-- Spoke indexes of the axes of node a in a map (MAP_STAGE). -/
def spokesOf (m : Tbl Word) (a : Nat) : List Byte :=
  (List.range 16).map (fun j =>
    match (usedMap m).find? (fun p => fld p.2 13 8 == a && fld p.2 19 16 == j) with
    | some (k, _) => BitVec.ofNat 8 k
    | none => 0xFF)

/-- MAP_STAGE of a map with a generation and the low bits of e. -/
def stageReq (m : Tbl Word) (a gen e : Nat) (use : ReqFor) : NodeReq :=
  { op := 0x13, index := wd (at_ 24 (gen % 256) + e % 65536), len := 16, data := spokesOf m a, use := use }

/-- Safety objects of a safe node (Tables 11.12 and 13.13). `SAFE_REC` has 32 bytes and a request 16: it goes in two writes
(DEDUCED, log entry 20). -/
def State.safeReqs (s : State) (c a : Nat) : List NodeReq :=
  let n := a + 64 * c
  if !s.safe.configured || s.safeAxesOf n = 0 then []
  else
    let rec_ : List Byte := (List.range 16).flatMap (fun j =>
      match s.safe.recs.find? (fun r => s.safe.recNode r == n && s.safe.recNax r == j) with
      | some r => [BitVec.ofNat 8 r, BitVec.ofNat 8 (fld (s.safe.sax r 0) 27 24)]
      | none => [0xFF, 0xFF])
    let nd := s.nd c a
    let can := !nd.descOk || (nd.desc.getD 22 0).toNat.testBit 1
    [writeReq 0x20 (rec_.take 16), writeReq 0x20 (rec_.drop 16),
     writeReq 0x21 (beBytes 4 s.safe.cfgId.toNat ++ [BitVec.ofNat 8 s.safe.tSafe, 0] ++ beBytes 2 (fld s.safe.w0 11 4))] ++
    (if can then [writeReq 0x22 (beBytes 2 (fld s.can.s0 10 0) ++
        beBytes 2 (fld s.can.s0 21 11 + (s.safe.nodes.findIdx (· == n))) ++
        beBytes 2 (fld s.can.s2 15 0) ++ beBytes 2 (fld s.can.s2 31 16))] else [])

/-- `APPLY_OFFSET` goes to a node whose descriptor declares the common instant (R94, R130). -/
def State.applyReqs (s : State) (c a : Nat) : List NodeReq :=
  let nd := s.nd c a
  if nd.descOk && (nd.desc.getD 16 0).toNat % 2 == 1 then [writeReq 0x11 (beBytes 4 (fld (nodeW (s.ch c).active.node a 3) 23 0))] else []

/-- The per-node values of R94 and the safety objects of R264, in order. -/
def State.valueReqs (s : State) (c a : Nat) : List NodeReq :=
  let t := (s.ch c).active.node
  s.cycleReq c a ::
    ((if nodeFreewheel t a = 0 then [] else [writeReq 0x10 (beBytes 2 (nodeFreewheel t a))]) ++ s.applyReqs c a ++ s.safeReqs c a)

/-- The values go to node a; while its descriptor is not known, `APPLY_OFFSET` is owed to it. -/
def State.deliver (s : State) (c a : Nat) : State :=
  (s.setNd c a { s.nd c a with applyOwed := !(s.nd c a).descOk }).queueReqs c a (s.valueReqs c a)

/-- The four parts of a node's descriptor are asked for (R135). -/
def State.readDesc (s : State) (c a : Nat) : State :=
  (s.setNd c a { s.nd c a with desc := [], descParts := 0, descOk := false }).queueReqs c a
    ((List.range 4).map (fun i => { op := 0x15, index := wd (16 * i), use := .descriptor i }))

/-- SET_DELAY to every assigned node (R108). -/
def State.sendDelays (s : State) (c : Nat) : State :=
  (s.ch c).assigned.foldl (fun t a => t.queueReq c a ((t.nd c a).delayReq (t.ch c) .setDelay)) s

/-! ## Replies -/

/-- Forwarding delay allowed to a node at a line rate, ns (Table 3.21), and the byte of its descriptor that declares it. -/
def fwdMax (rate : Nat) : Nat := if rate = 3 then 250 else if rate = 2 then 400 else 1200
def fwdByte (rate : Nat) : Nat := if rate = 3 then 10 else if rate = 2 then 12 else 14

/-- A descriptor meets R135 and R171 against the entry of address a on a chain. `cur`: the node carries a current-loop axis. -/
def Chain.descFits (x : Chain) (a : Nat) (d : List Byte) (cur : Bool) : Bool :=
  let u16 (i : Nat) : Nat := beNat ((d.drop i).take 2)
  let u32 (i : Nat) : Nat := beNat ((d.drop i).take 4)
  let t := x.active.node
  beNat (d.drop 60) == crc32c (d.take 60) && u16 2 == fld (nodeW t a 0) 15 0 && u16 4 == fld (nodeW t a 0) 31 16 &&
  (d.getD 1 0).toNat == nodeAxes t a && (d.getD 9 0).toNat.testBit (x.rate - 1) &&
  (d.getD 8 0).toNat.testBit (b2n x.compact) && decide (u16 (fwdByte x.rate) ≤ fwdMax x.rate) &&
  (!cur || u32 40 == 15625 || u32 40 * 2 == 15625 || u32 40 * 4 == 15625)

/-- Node a of chain c carries a current-loop axis. -/
def State.curNode (s : State) (c a : Nat) : Bool :=
  (usedMap (s.ch c).active.map).any (fun p => fld p.2 13 8 == a && (s.ax (fld p.2 7 0)).isCur)

/-- NODE_MISMATCH at a position (R118, R135). -/
def State.nodeMismatch (s : State) (c pos vendor product : Nat) : State :=
  s.raiseCh c 23 pos (at_ 16 vendor + product)

/-- The descriptor of node a is known: `APPLY_OFFSET` follows where it is owed (R94). -/
def State.payApply (s : State) (c a : Nat) : State :=
  if (s.nd c a).applyOwed then (s.setNd c a { s.nd c a with applyOwed := false }).queueReqs c a (s.applyReqs c a) else s

/-- One part of a descriptor has come (R135). -/
def State.descPart (s : State) (c a part : Nat) (bs : List Byte) : State :=
  let n := s.nd c a
  let old := n.desc ++ List.replicate (64 - n.desc.length) 0
  let d := old.take (16 * part) ++ bs.take 16 ++ old.drop (16 * part + 16)
  let n1 := { n with desc := d, descParts := putBit n.descParts part true }
  if n1.descParts ≠ 15 then s.setNd c a n1
  else if (s.ch c).descFits a d (s.curNode c a) then (s.setNd c a { n1 with descOk := true, mismatch := false }).payApply c a
  else (s.setNd c a { n1 with mismatch := true }).nodeMismatch c (nodePos (s.ch c).active.node a)
    (beNat ((d.drop 2).take 2)) (beNat ((d.drop 4).take 2))

/-- Confirmations of the nodes, as TABLE.STAGE returns them. -/
def Staging.answer (g : Staging) : List Word := wd g.gen :: words64 g.confirmed

/-- A node has confirmed a staging (R99, R375). -/
def State.stageReply (s : State) (c a : Nat) (r : NodeReq) (done : Bool) : State :=
  match (s.ch c).staging with
  | none => s
  | some g =>
    if !done || fld r.index 31 24 ≠ g.gen then s
    else
      let g1 := { g with confirmed := putBit g.confirmed a true }
      match g1.ref with
      | some m =>
        if g1.affected &&& g1.confirmed = g1.affected then
          (s.updCh c (fun x => { x with staging := some { g1 with ref := none } })).respond m stOk g1.answer
        else s.updCh c (fun x => { x with staging := some g1 })
      | none => s.updCh c (fun x => { x with staging := some g1 })

/-- A sample time of node a in cycle `cyc` against the drift guard (R111, R112): outside it, an occurrence of class 2. -/
def State.driftCheck (s : State) (c a cyc : Nat) (stime : Nat) (bad : Bool) : State :=
  let due := s.clk.b cyc + fld (nodeW (s.ch c).active.node a 2) 23 0
  let d := sgn 32 (stime + 2 ^ 32 - due % 2 ^ 32)
  if bad || decide (d.natAbs > fld (s.ch c).guardNow0 10 0) then
    s.occur 2 (256 * c + a) (fun st => some (19 + 8 * c, a, st))
  else s

/-- The planned swap fails: the command ends with TIMEOUT and the delays are restored (R307). -/
def State.swapFails (s : State) : State :=
  match s.link.swap with
  | none => s
  | some w =>
    let s1 : State := if s.straps.lead && s.clu.joined != 0 then { s with clu := { s.clu with lastOrder := [0x0F03] } } else s
    s1.chains.foldl State.sendDelays (({ s1 with link := { s1.link with swap := none, swapE := none } } : State).respond w.ref stTimeout [])

/-- Every node has confirmed its delays for a swap (R307): the lead names the swap cycle, to its members too; a member answers its
lead, which names it. -/
def State.swapReady (s : State) (w : TwinSwap) : State :=
  let e := s.clk.cycle + 2
  if !s.straps.lead then ({ s with link := { s.link with swap := some { w with waiting := [] } } } : State).respond w.ref stOk []
  else { s with link := { s.link with swap := some { w with waiting := [], e := some e } }
                clu := if s.clu.joined = 0 then s.clu else { s.clu with lastOrder := 0x0F03 :: words64 e } }

/-- A node has confirmed its delays for a swap: with the last one the swap cycle is named (R307). -/
def State.swapReply (s : State) (c a : Nat) (done : Bool) : State :=
  match s.link.swap with
  | none => s
  | some w =>
    if !done then s.swapFails
    else
      let l := w.waiting.filter (· != a + 64 * c)
      if l.isEmpty then s.swapReady w else { s with link := { s.link with swap := some { w with waiting := l } } }

/-- The error code a compact node reports, for each of its axes (R75). -/
def State.nodeError (s : State) (c a code : Nat) : State :=
  ((usedMap (s.ch c).active.map).filter (fun p => fld p.2 13 8 == a)).foldl
    (fun t p => t.updAx (fld p.2 7 0) (fun x => { x with fb := { x.fb with error := code } })) s

/-- The request at the front of a node's queue has its final reply, or none after three sends (R102). An item of a descriptor that
brings none stays unread, with no mismatch and no further request (R135; DESIGN CHOICE, log entry 115). -/
def State.finishReq (s : State) (c a : Nat) (r : NodeReq) (ans : Option (Nat × List Byte)) : State :=
  let n := s.nd c a
  let s1 := s.setNd c a { n with queue := n.queue.drop 1, inFlight := false }
  let done := match ans with
    | some (st, _) => st == 1
    | none => false
  match r.use, ans with
  | .hostRead m, some (st, d) => s1.respond m stOk (wd (st + at_ 8 d.length) :: packWords 4 d)
  | .hostWrite m, some (st, _) => s1.respond m stOk [wd st]
  | .hostRead m, none => s1.respond m stTimeout []
  | .hostWrite m, none => s1.respond m stTimeout []
  | .stage, _ => s1.stageReply c a r done
  | .deliver, _ => if r.op = 0x13 then s1.stageReply c a r done else s1
  | .descriptor i, some (1, d) => if d.length = 16 then s1.descPart c a i d else s1
  | .timeReport, some (1, d) =>
    let sh := beNat ((d.drop 4).take 2)
    let cyc := s1.clk.cycle - (s1.clk.cycle + 65536 - sh) % 65536
    (s1.nodeError c a (d.getD 6 0).toNat).driftCheck c a cyc (beNat (d.take 4)) (d.getD 6 0 == 7)
  | .swapDelay, _ => s1.swapReply c a done
  | _, _ => s1

/-- The axis takes its load position from spoke k of its chain (Table 6.8). -/
def Axis.loadSpoke (x : Axis) (k : Nat) : Bool := x.loopTemplate == 5 && bit x.cfg1 15 && fld x.cfg1 14 8 == k

/-- The axes whose positions come from a node that has just been assigned: the next confirmed one is sign-extended (R148). -/
def State.forgetNode (s : State) (c a : Nat) : State :=
  ((usedMap (s.ch c).active.map).filter (fun p => fld p.2 13 8 == a)).foldl (fun t p =>
    (t.axisList.filter (fun j => (t.ax j).loadSpoke p.1 && (spokeOf (t.ch c).active.map j).isSome)).foldl
      (fun u j => u.updAx j (fun x => { x with load := { x.load with known := false } }))
      (t.updAx (fld p.2 7 0) (fun x => { x with fb := { x.fb with known := false } }))) s

/-- Nodes of one side in hop order. -/
def Chain.side (x : Chain) (b : Bool) : List Nat :=
  ((List.range 64).flatMap (fun h => (x.nodes.filter (fun p => p.2.assigned && p.2.chanB == b && p.2.hop == h)).map (·.1)))

/-- The ring is wrapped, as the last census showed. -/
def Ring.isWrapped (r : Ring) : Bool := r.backA || r.backB

/-- Node i of a list of loop-back nodes; 0xFF past its end. -/
def sideNode (l : List Nat) (i : Nat) : Nat := (l[i]?).getD 0xFF

/-- A measurement starts: 16 rounds on a closed ring, otherwise 16 for each place of the longer side; the nodes of the first cycle may be
named already (R106, R107). -/
def Chain.startMeasure (x : Chain) : Chain :=
  let nodes := x.nodes.map (fun p => (p.1, { p.2 with sumA := 0, sumB := 0, roundsA := 0, roundsB := 0 }))
  let r := { x.ring with measuring := true, haveA := false, haveB := false, round := 15 }
  if x.ring.isWrapped then
    let named := (x.ring.loopNowA != 0xFF || x.ring.loopNowB != 0xFF) && x.ring.loopNowA == sideNode (x.side false) 0 &&
      x.ring.loopNowB == sideNode (x.side true) 0
    { x with nodes := nodes, ring := { r with byLoop := true, sideA := x.side false, sideB := x.side true, roundsLeft := 0
                                              toName := 16 * max (x.side false).length (x.side true).length - b2n named } }
  else { x with nodes := nodes, ring := { r with byLoop := false, roundsLeft := 16, toName := 0 } }

/-- A node that receives its address while running is read, given its values, measured and stepped (R94, R108, R123, R135). -/
def State.admitNode (s : State) (c a : Nat) : State :=
  ((s.readDesc c a).deliver c a).updCh c (fun x => { x.startMeasure with ring := { x.startMeasure.ring with stepOwed := true } })

/-- A reply of a confirmed copy reaches the request it answers; 0x00 and 0x04 are no final reply (R102). -/
def State.takeReply (s : State) (c : Nat) (p : Reply) : State :=
  if p.addr = 0xFF && p.op = 0x10 then
    match (s.ch c).nodes.find? (fun q => q.2.toAssign && q.2.assignSends != 0 &&
        q.2.hop == fld p.index 5 0 && q.2.chanB == bit p.index 8 && !bit p.index 31) with
    | some (a, n) =>
      if p.status = 0 || p.status = 4 then s
      else if p.status = 1 then
        let s1 := (s.forgetNode c a).setNd c a { n with toAssign := false, assigned := true, mismatch := false, dA := 0xFFFFFFFF, dB := 0xFFFFFFFF }
        if s1.md.mode.heads then s1.admitNode c a else s1
      else s.setNd c a { n with toAssign := false }
    | none => s
  else
    let a := p.addr.toNat
    let n := s.nd c a
    match n.queue with
    | r :: _ =>
      if !n.inFlight || r.op ≠ p.op.toNat || p.status = 0 || p.status = 4 then s
      else s.finishReq c a r (some (p.status.toNat, p.data.take p.len.toNat))
    | [] => s

/-- The replies of one copy. -/
def State.takeReplies (s : State) (c : Nat) : List Reply → State
  | [] => s
  | p :: l => (s.takeReply c p).takeReplies c l

/-! ## Acyclic windows -/

/-- A frame launched at present on both channels, at the tick itself and with equal stamps (R15; DESIGN CHOICE, log entry 99). -/
def State.frame (s : State) (kind window count : Nat) : TxFrame :=
  { kind := kind, window := window, cycle := s.clk.cycle, launchA := s.now, launchB := s.now, count := count
    role := match s.md.mode with
      | .runActive => 1
      | .safeHold => 2
      | _ => 0
    lease := s.twin.renewed == s.clk.cycle + 1 }

/-- Bytes of a frame from DA to FCS, padding included (Table 3.5, R68). -/
def TxFrame.bytes (f : TxFrame) : Nat :=
  max 64 (42 + (if f.kind = 1 then (if f.fmt then 16 else 32) * f.count else f.payload.length))

/-- The launch gate: the frame and the gap after it end within the frame's window (R92). Claims have no window (R113). -/
def Chain.gate (x : Chain) (f : TxFrame) : Bool :=
  f.kind == 3 || decide ((f.bytes + 20) * byteTenths x.rate ≤ 10 * winLength x.active.win f.window)

/-- A frame as it leaves on chain c: addresses, EtherType, and `HDR.LAUNCH`, the stamp minus K_c (R67, R298). -/
def Chain.addressed (x : Chain) (c : Nat) (f : TxFrame) : TxFrame :=
  { f with da := 0x0353564C0000 + c, sa := 0x025356 * 2 ^ 24 + Config.serialHash.toNat % 2 ^ 24, etype := fld x.cfg 15 0
           launchA := ((f.launchA : Int) - x.kA).toNat, launchB := ((f.launchB : Int) - x.kB).toNat }

/-- A frame leaves, the head's output on chain c, where the launch gate lets it pass (R92). -/
def State.launch (s : State) (c : Nat) (f : TxFrame) : State :=
  s.updCh c (fun x => if x.gate f then { x with tx := Tbl.put x.tx f.kind (x.addressed c f) } else x)

/-- Work of an agent that waits for the windows of chain c. -/
def Chain.waits (x : Chain) (agent : Nat) : Bool :=
  x.nodes.any (fun p => p.2.assigned && p.2.queue.any (fun r => r.use.agent == agent))

/-- The host agent needs the bridge: a command has been forwarded to a member (Table 16.7). -/
def State.needsBridge (s : State) (agent : Nat) : Bool := agent == 0 && (!s.clu.out.isEmpty || s.clu.gather.isSome)

/-- An agent that holds nothing raises the requests for which it has work (R403). -/
def State.agentRaise (s : State) (agent : Nat) : State :=
  let s1 := if s.needsBridge agent then s.arbRaise 3 agent else s
  [0, 1].foldl (fun t c => if (t.ch c).waits agent then t.arbRaise (1 + c) agent else t) s1

/-- A placed request that brought no final reply is sent again; after three sends it has failed (R102). -/
def State.settle (s : State) (c : Nat) : State :=
  (s.ch c).assigned.foldl (fun t a =>
    let n := t.nd c a
    match n.queue with
    | r :: _ => if n.inFlight && decide (3 ≤ r.sends) then t.finishReq c a r none else t.setNd c a { n with inFlight := false }
    | [] => t.setNd c a { n with inFlight := false }) s

/-- The decision at a fill instant: cut-off, drop and grant (R400, R401). -/
def State.windowHolder (s : State) (c : Nat) : State :=
  let r := 1 + c
  let x := s.arb.get r
  let s1 := match x.holder with
    | some w =>
      if x.cut then
        let t := s.arbCut r w
        let y := t.arb.get r
        ({ t with arb := t.arb.put r { y with ignored := y.ignored.filter (· != w) } }).agentRaise w
      else if !(s.ch c).waits w || s.needsBridge w then
        ({ s with arb := s.arb.put r { x with holder := none } }).agentRaise w
      else s
    | none => s
  s1.arbGrant r

/-- Number of request slots that fit a frame of window k beside a safe region (R92). -/
def Chain.slotRoom (x : Chain) (k safeLen : Nat) : Nat :=
  if byteTenths x.rate = 0 then 0
  else min 64 ((winLength x.active.win k * 10 / byteTenths x.rate - 74 - safeLen) / 24)

/-- Move the first request of an agent to the front of its node's queue. -/
def frontOf (agent : Nat) (q : List NodeReq) : List NodeReq :=
  match q.find? (fun r => r.use.agent == agent) with
  | some r => r :: q.eraseP (fun x => x.use.agent == agent)
  | none => q

/-- The holder fills the slots from its queues; a request already sent comes first (R101, R102, R400). In an open window only the
host's requests have slots (R91). -/
def State.fill (s : State) (c : Nat) (open_ : Bool) : State × List Nat :=
  let holder := (s.arb.get (1 + c)).holder
  (s.ch c).assigned.foldl (fun (t, l) a =>
    let n := t.nd c a
    if n.inFlight then (t, l)
    else if n.queue.any (fun r => r.sends != 0) then
      (t, if open_ && (n.queue.take 1).any (fun r => r.use.agent != 0) then l else l ++ [a])
    else match holder with
      | some w => if open_ && w != 0 then (t, l)
        else if n.queue.any (fun r => r.use.agent == w) then (t.setNd c a { n with queue := frontOf w n.queue }, l ++ [a]) else (t, l)
      | none => (t, l)) (s, [])

/-- TIME_REPORT to compact nodes whose last one is 8 cycles old, when nothing else is queued for them (R112; the interval is a
DESIGN CHOICE, log entry 21). -/
def State.timeReports (s : State) (c : Nat) : State :=
  if !(s.ch c).compact || !s.md.mode.heads then s
  else (s.ch c).assigned.foldl (fun t a =>
    let n := t.nd c a
    if n.queue.isEmpty && decide (n.lastReport + 8 ≤ t.clk.cycle) then
      (t.setNd c a { n with lastReport := t.clk.cycle }).queueReq c a { op := 0x14, use := .timeReport }
    else t) s

/-- Slot bytes of a request (Table 3.18). -/
def slotBytes (addr op len : Nat) (index : Word) (data : List Byte) : List Byte :=
  [BitVec.ofNat 8 addr, BitVec.ofNat 8 op, 0, BitVec.ofNat 8 len] ++ beBytes 4 index.toNat ++
    (data ++ List.replicate (16 - data.length) 0)

/-- Address of the i-th pass-through member: the highest free ones from 63 down (R120). -/
def Chain.memberAddr (x : Chain) (i : Nat) : Nat :=
  (((List.range 64).reverse.filter (fun a => !nodeUsed x.active.node a))[i]?).getD 0xFF

/-- ASSIGN slots: nodes waiting for their address, and in the Assign phase the pass-through members (R118, R120). -/
def State.assignSlots (s : State) (c : Nat) : List (List Byte) :=
  let x := s.ch c
  (x.nodes.filter (fun p => p.2.toAssign)).map (fun p =>
      slotBytes 0xFF 0x10 1 (wd (p.2.hop % 64 + bitAt 8 p.2.chanB)) [BitVec.ofNat 8 p.1]) ++
  (if s.startup.phase = .assign then
    (List.range x.members.length).map (fun i =>
      slotBytes 0xFF 0x10 1 (wd (2 ^ 31 + (x.members.getD i 0).toNat)) [BitVec.ofNat 8 (x.memberAddr i)])
  else [])

/-- The notice block (Table 4.8). -/
def State.notice (s : State) (c : Nat) (step : Bool) : List Byte :=
  let x := s.ch c
  let t : Nat × Nat × Nat := match s.pend.shift, x.ring.close with
    | _, some e => (2, 0, e)
    | some h, none => (1, h.gear, h.e)
    | none, none => (0, 0, 0)
  [BitVec.ofNat 8 (t.1 + bitAt 2 step), BitVec.ofNat 8 t.2.1] ++ beBytes 2 (t.2.2 % 65536) ++
    [BitVec.ofNat 8 x.ring.loopA, BitVec.ofNat 8 x.ring.loopB, 0, 0]

/-- The first node of a side that has its address or is about to get it. -/
def Chain.firstOf (x : Chain) (b : Bool) : Nat :=
  match (x.nodes.filter (fun p => (p.2.assigned || p.2.toAssign) && p.2.chanB == b)).map (·.2.hop) |>.min? with
  | none => 0xFF
  | some h => (((x.nodes.find? (fun p => (p.2.assigned || p.2.toAssign) && p.2.chanB == b && p.2.hop == h)).map (·.1))).getD 0xFF

/-- In the Assign phase each service frame of a wrapped ring names the first nodes already, so that the first cycle of the Measure
phase measures them (Table 4.10, R107). -/
def Chain.nameFirst (x : Chain) : Chain :=
  if x.ring.isWrapped then { x with ring := { x.ring with loopA := x.firstOf false, loopB := x.firstOf true } } else x

/-- The next nodes to loop back are named (R107). -/
def Ring.name (r : Ring) : Ring :=
  if r.byLoop && decide (r.toName ≠ 0) then
    let i := (16 * max r.sideA.length r.sideB.length - r.toName) / 16
    { r with toName := r.toName - 1, loopA := sideNode r.sideA i, loopB := sideNode r.sideB i }
  else { r with loopA := 0xFF, loopB := 0xFF }

/-- `NTC.STEP` is ordered in this frame: the Step phase, or a node that joined while running and has its delays (R109, R123). -/
def State.stepOrder (s : State) (c : Nat) : Bool :=
  s.startup.phase == .stepClock || ((s.ch c).ring.stepOwed && !(s.ch c).ring.measuring &&
    !(s.ch c).nodes.any (fun p => p.2.queue.any (fun r => r.op == 0x11)))

/-- Requests of the filled addresses, sent once more. -/
def State.placeReqs (s : State) (c : Nat) : List Nat → State × List (List Byte)
  | [] => (s, [])
  | a :: l =>
    let n := s.nd c a
    match n.queue with
    | r :: q =>
      let t := (s.setNd c a { n with queue := { r with sends := r.sends + 1 } :: q, inFlight := true }).placeReqs c l
      (t.1, slotBytes a r.op r.len r.index r.data :: t.2)
    | [] => s.placeReqs c l

/-- The service frame of chain c (R101, R103, R263, Table 3.18). -/
def State.serviceFrame (s : State) (c k : Nat) : State :=
  let safe := s.safeRegion c
  let room := (s.ch c).slotRoom k safe.length
  let step := s.stepOrder c
  let s0 := s.updCh c (fun x =>
    let y := { x with ring := { x.ring.name with stepOwed := x.ring.stepOwed && !step } }
    if s.startup.phase = .assign then y.nameFirst else y)
  let p := s0.placeReqs c ((s0.ch c).filled.take room)
  let asg := (p.1.assignSlots c).take (room - p.2.length)
  let slots := p.2 ++ asg
  let body := p.1.notice c step ++ beBytes 2 slots.length ++ beBytes 2 safe.length ++ slots.flatten ++ safe
  let s1 := p.1.launch c { p.1.frame 2 k body.length with payload := body }
  s1.updCh c (fun x => { x with
    filled := []
    nodes := x.nodes.map (fun q => if q.2.toAssign then
        (q.1, { q.2 with assignSends := q.2.assignSends + 1 }) else q) })

/-- ASSIGN requests that were sent three times without a reply are given up (R117). -/
def Chain.dropAssigns (x : Chain) : Chain :=
  { x with nodes := x.nodes.map (fun q => if q.2.toAssign && decide (3 ≤ q.2.assignSends) then (q.1, { q.2 with toAssign := false }) else q) }

/-- The open frame: host requests in a second service frame (R91). -/
def State.openFrame (s : State) (c k : Nat) : State :=
  let p := s.placeReqs c ((s.ch c).openFilled.take ((s.ch c).slotRoom k 0))
  let body := p.1.notice c false ++ beBytes 2 p.2.length ++ beBytes 2 0 ++ p.2.flatten
  (p.1.launch c { p.1.frame 2 k body.length with payload := body }).updCh c (fun x => { x with openFilled := [] })

end Sys2Proof.Machine
end

