-- ==== Sys2Proof/Machine/RingOps.lean ====
section
/-!
DEFINITION. Ring management of a head: returning copies other than servo, census and addresses, close orders, delay
measurement, the start-up phases, staging and commit of chain tables (R65, R73, R81, R88, R94, R98 to R100, R106 to R109, R117 to
R123, R220).
-/
namespace Sys2Proof.Machine

/-! ## Returning copies -/

/-- A copy comes back on the port opposite its channel unwrapped, or on its own port wrapped (R65); `b` = channel B. -/
def copyRouted (i : CopyInfo) (b : Bool) : Bool := (i.right == !b) != i.wrapped

/-- The chain counters changed. -/
def Chain.count (x : Chain) (f : ChainCounters → ChainCounters) : Chain := { x with counters := f x.counters }
def Chain.foreign (x : Chain) : Chain := x.count (fun k => { k with foreign := cadd k.foreign 1 })

/-- The counter of a copy discarded for its FCS (R81). -/
def Chain.badFcs (x : Chain) (f : Fcs) : Chain :=
  match f with
  | .inverted => x.count (fun k => { k with crcMarked := cadd k.crcMarked 1 })
  | _ => x.count (fun k => { k with crcLink := cadd k.crcLink 1 })

/-- The frame of a kind that chain x launched last. -/
def Chain.sent (x : Chain) (kind : Nat) : TxFrame := Tbl.get {} x.tx kind

/-- A returning copy is the one launched: version, kind, source, way back and cycle (R65, R70, R81). -/
def Chain.ownCopy (x : Chain) (b : Bool) (i : CopyInfo) (kind : Nat) : Bool :=
  i.version == 2 && i.kind.toNat == kind && i.own && copyRouted i b && i.cycle.toNat == (x.sent kind).cycle % 65536

/-- The check of a returning copy other than servo: `none` where it may be used, otherwise the state with the copy counted. -/
def State.discards (s : State) (c : Nat) (b : Bool) (i : CopyInfo) (kind : Nat) : Option State :=
  if i.fcs ≠ .good then some (s.updCh c (fun x => x.badFcs i.fcs))
  else if !(s.ch c).ownCopy b i kind then some (s.updCh c Chain.foreign)
  else none

/-! ## Census and addresses -/

/-- Position of the node at hop h of a channel: from the left on channel A, from the end on channel B (R118). -/
def Chain.posOf (x : Chain) (b : Bool) (h : Nat) : Nat := if b then (usedNodes x.active.node).length - 1 - h else h

/-- Records of a channel that count for addresses: on a closed ring channel A alone. -/
def Ring.recsOf (r : Ring) (b : Bool) : List CensusRec := if b then (if r.isWrapped then r.censusB else []) else r.censusA

/-- A census record matches an entry of the node table (R118). -/
def entryFits (t : Tbl Word) (a : Nat) (q : CensusRec) : Bool :=
  fld (nodeW t a 0) 15 0 == q.vendor.toNat && fld (nodeW t a 0) 31 16 == q.product.toNat && nodeAxes t a == q.axes.toNat

/-- What one census record asks for: an address to assign, a mismatch, or nothing (R118). A mismatch is reported when it is
found, not again while each census shows the same record there. -/
def State.seeRecord (s : State) (c : Nat) (b again : Bool) (h : Nat) (q : CensusRec) : State :=
  let report (t : State) (pos : Nat) : State := if again then t else t.nodeMismatch c pos q.vendor.toNat q.product.toNat
  let x := s.ch c
  let t := x.active.node
  let pos := x.posOf b h
  if q.addr ≠ 0xFF then
    let a := q.addr.toNat
    if nodeUsed t a then s.setNd c a { x.nd a with assigned := true, chanB := b, hop := h } else s
  else
    match (usedNodes t).find? (fun a => nodePos t a == pos) with
    | none => report s pos
    | some a =>
      if entryFits t a q then s.setNd c a { x.nd a with toAssign := true, assignSends := 0, chanB := b, hop := h }
      else report (s.setNd c a { x.nd a with mismatch := true }) pos

/-- The records of a channel in hop order, beside those the census before showed. -/
def State.seeRecords (s : State) (c : Nat) (b : Bool) (old : List CensusRec) (h : Nat) : List CensusRec → State
  | [] => s
  | q :: l => (s.seeRecord c b (old[h]? == some q) h q).seeRecords c b old (h + 1) l

/-- Addresses are given from the last census (R118). -/
def State.giveAddresses (s : State) (c : Nat) : State :=
  let s1 := s.seeRecords c false [] 0 ((s.ch c).ring.recsOf false)
  s1.seeRecords c true [] 0 ((s1.ch c).ring.recsOf true)

/-- Wrapping members of the last censuses: bit 1 of the record's flags; bit 0 = other port up (Table 3.20). -/
def Ring.wrappers (r : Ring) : List CensusRec := (r.censusA ++ r.censusB).filter (fun q => q.flags.toNat.testBit 1)

/-- A census copy has come back. -/
def Ring.take (r : Ring) (b : Bool) (i : CopyInfo) (hops : Nat) (recs : List CensusRec) : Ring :=
  let l := recs.take (min hops 64)
  let r1 := if b then { r with prevB := r.censusB, censusB := l, hopsB := hops, backB := i.wrapped }
            else { r with prevA := r.censusA, censusA := l, hopsA := hops, backA := i.wrapped }
  { r1 with agree := decide (2 ≤ r1.censuses) && r1.censusA == r1.prevA && r1.censusB == r1.prevB }

/-- A close order is issued when every census for 10 ms has shown the wrapping members' other ports up and nothing else is
pending on the chain (R103, R123); its effective cycle lies 4 cycles ahead (DESIGN CHOICE, log entry 22). -/
def State.closeOrder (s : State) (c : Nat) : State :=
  let r := (s.ch c).ring
  let ok := !r.wrappers.isEmpty && r.wrappers.all (fun q => q.flags.toNat.testBit 0)
  let since := if ok then (match r.healthySince with
    | some t => some t
    | none => some s.now) else none
  let r1 := { r with healthySince := since }
  let due := match since with
    | some t => decide (t + 10000000 ≤ s.now)
    | none => false
  let r2 := if due && r.close.isNone && s.pend.commit.isNone && s.pend.shift.isNone then { r1 with close := some (s.clk.cycle + 4) } else r1
  s.updCh c (fun x => { x with ring := r2 })

/-- A census copy comes back to the head (R118, R121 to R123). -/
def State.censusBack (s : State) (c : Nat) (b : Bool) (i : CopyInfo) (hops : Nat) (recs : List CensusRec) : State :=
  let s1 := s.updCh c (fun x => { x with ring := x.ring.take b i hops recs })
  let s2 := if hops > 64 then s1.raiseCh c 22 (hops % 65536) 0 else s1
  if s2.md.mode.heads then
    let old := if b then (s2.ch c).ring.prevB else (s2.ch c).ring.prevA
    (s2.seeRecords c b old 0 ((s2.ch c).ring.recsOf b)).closeOrder c
  else s2

/-! ## Delay measurement (R106 to R108) -/

/-- Transmit and receive corrections of a port in tenths of a ns (Table 3.9 with the external latencies). -/
def cTx (w : Word) : Nat :=
  (if fld w 1 0 = 1 then (if bit w 2 then 384 else 640) else if fld w 1 0 = 2 then 80 else 600) + 40 * fld w 23 16
def cRx (w : Word) : Nat :=
  (if fld w 1 0 = 1 then (if bit w 2 then 576 else 1120) else if fld w 1 0 = 2 then 160 else 800) + 40 * fld w 31 24

/-- Sum of residences of the listed records. -/
def resSum (l : List DelayRec) : Int := (l.map (fun q => (q.residence.toNat : Int))).sum

/-- One round's share of a node on a closed ring: S and Delta (R106). -/
def Ring.roundOf (r : Ring) (portR : Word) (a : Nat) : Option (Int × Int) :=
  match r.delayA.findIdx? (fun q => q.addr.toNat == a), r.delayB.findIdx? (fun q => q.addr.toNat == a) with
  | some ja, some jb =>
    let qa := r.delayA.getD ja {}
    let qb := r.delayB.getD jb {}
    let ra : Int := (r.delayRxA : Int) - r.delayLaunchA
    let delta := sgn 32 (ubits 32 ((qb.rxTime.toNat : Int) - qa.rxTime.toNat - ((r.delayLaunchB : Int) - r.delayLaunchA)))
    let s10 := 10 * (ra - qa.residence.toNat + resSum (r.delayB.take jb) - resSum (r.delayA.drop (ja + 1))) + (cTx portR : Int) - cRx portR
    some (s10, delta)
  | _, _ => none

/-- Both copies of a round are back: every node's sums take it (R106). -/
def Chain.closeRound (x : Chain) : Chain :=
  if x.ring.haveA && x.ring.haveB then
    let nodes := x.nodes.map (fun p =>
      match x.ring.roundOf x.portR p.1 with
      | some (s10, d) => (p.1, { p.2 with sumA := p.2.sumA + s10 - 10 * d, sumB := p.2.sumB + s10 + 10 * d
                                          roundsA := p.2.roundsA + 1, roundsB := p.2.roundsB + 1 })
      | none => p)
    { x with nodes := nodes, ring := { x.ring with haveA := false, haveB := false } }
  else x

/-- The looped copy of one node is back on a channel (R107). -/
def Chain.loopBack (x : Chain) (b : Bool) (a : Nat) (i : CopyInfo) (recs : List DelayRec) : Chain :=
  match recs.find? (fun q => q.addr.toNat == a) with
  | none => x
  | some q =>
    let w := if b then x.portR else x.portL
    let d10 := 10 * ((i.rxStamp : Int) - i.launch - q.residence.toNat) + (cTx w : Int) - cRx w
    let n := x.nd a
    x.setNd a (if b then { n with sumB := n.sumB + d10, roundsB := n.roundsB + 1 }
               else { n with sumA := n.sumA + d10, roundsA := n.roundsA + 1 })

/-- A delay-measurement copy comes back (R106, R107). -/
def Chain.delayBack (x : Chain) (b : Bool) (i : CopyInfo) (hops : Nat) (recs : List DelayRec) : Chain :=
  let l := recs.take (min hops 64)
  if x.ring.byLoop then
    let a := if b then x.ring.loopNowB else x.ring.loopNowA
    if a = 0xFF then x else x.loopBack b a i l
  else
    let r := x.ring
    let r1 := if b then { r with delayB := l, delayRxB := i.rxStamp, delayLaunchB := i.launch, haveB := true }
              else { r with delayA := l, delayRxA := i.rxStamp, delayLaunchA := i.launch, haveA := true }
    ({ x with ring := r1 } : Chain).closeRound

/-- The mean of a node's rounds on each channel, to the nearest ns (R106). -/
def Node.mean (n : Node) : Node :=
  { n with dA := if n.roundsA = 0 then n.dA else wdi (divNear n.sumA (20 * n.roundsA))
           dB := if n.roundsB = 0 then n.dB else wdi (divNear n.sumB (20 * n.roundsB)) }

/-- Every round has been launched and none is named. -/
def Ring.done (r : Ring) : Bool :=
  r.measuring && r.roundsLeft == 0 && r.toName == 0 && r.loopA == 0xFF && r.loopB == 0xFF && r.loopNowA == 0xFF && r.loopNowB == 0xFF

/-- At a boundary: the nodes named in the service frame are looped back in this cycle; a finished measurement gives the
delays, which go to the nodes while running (R107, R108). -/
def State.ringBoundary (s : State) (c : Nat) : State :=
  let s1 := s.updCh c (fun x => { x with ring := { x.ring with loopNowA := x.ring.loopA, loopNowB := x.ring.loopB, loopA := 0xFF, loopB := 0xFF } })
  let s2 := if (s1.ch c).ring.done then
      let t := s1.updCh c (fun x => { x with nodes := x.nodes.map (fun p => (p.1, p.2.mean)), ring := { x.ring with measuring := false } })
      if t.md.mode.heads then t.sendDelays c else t
    else s1
  if (s2.ch c).ring.close == some s2.clk.cycle then
    s2.updCh c (fun x => ({ x with ring := { x.ring with close := none, healthySince := none, backA := false, backB := false } } : Chain).startMeasure)
  else s2

/-! ## Staging and commit of tables -/

/-- Nodes whose spokes differ between two maps (R99). -/
def differing (m n : Tbl Word) : Nat := ofBits ((List.range 64).filter (fun a => spokesOf m a != spokesOf n a))

/-- Spokes that leave empty because a staged map has switched at the nodes and not at the head, until a commit or a newer
staging takes effect (R99, R100). -/
def Chain.blank (x : Chain) (n : Nat) : List Nat :=
  match x.staging with
  | some g => if g.e ≤ n then (List.range 128).filter (fun k =>
      (bit (Tbl.get 0 x.active.map k) 31 || bit (Tbl.get 0 g.map k) 31) && Tbl.get 0 x.active.map k != Tbl.get 0 g.map k) else g.carry
  | none => []

/-- Spokes of a map whose node failed the match of its entry or the check of its descriptor: they go out empty (R118, R135). -/
def Chain.barred (x : Chain) (k : Nat) : Bool := (x.nd (fld (Tbl.get 0 x.active.map k) 13 8)).mismatch

/-- The next staging of a map: its nodes are those that differ from the active map and those that confirmed the staging it
replaces (R99). -/
def State.stageMap (s : State) (c e : Nat) (ref : Option MsgRef) : State :=
  let x := s.ch c
  let old := match x.staging with
    | some g => g.confirmed
    | none => 0
  let aff := ofBits ((setBits 64 (differing x.active.map x.shadow.map ||| old)).filter (fun a => (x.nd a).assigned))
  let gen := (x.gen + 1) % 256
  let g : Staging := { gen := gen, e := e, map := x.shadow.map, affected := aff, ref := ref, carry := x.blank s.clk.cycle }
  let s1 := s.updCh c (fun y => { y with gen := gen, staging := some g })
  (setBits 64 aff).foldl (fun t a => t.queueReq c a (stageReq x.shadow.map a gen e .stage)) s1

/-- A staging that is replaced answers its command with TIMEOUT and what had confirmed (R375). -/
def State.dropStaging (s : State) (c : Nat) : State :=
  match (s.ch c).staging with
  | some g =>
    match g.ref with
    | some m => (s.updCh c (fun x => { x with staging := some { g with ref := none } })).respond m stTimeout g.answer
    | none => s
  | none => s

/-- Staging at boundary n: its command times out at B(e - 2), its lock ends at B(e) without an accepted commit (R99, R375). -/
def State.stagingBoundary (s : State) (c : Nat) : State :=
  match (s.ch c).staging with
  | none => s
  | some g =>
    let n := s.clk.cycle
    let s1 := if g.e ≤ n + 2 then s.dropStaging c else s
    let held := match s.pend.commit with
      | some k => if c = 0 then k.ch0 else k.ch1
      | none => false
    if g.e ≤ n && !held then
      s1.updCh c (fun x => { x with staging := x.staging.map (fun y => { y with lock := false }) })
    else s1

/-- Axis i loses its spoke: its activity and queue end with cause 3 and it stands IDLE at the present p (R98, R220). -/
def State.removeAxis (s : State) (i : Nat) : State :=
  let x := s.ax i
  let e := x.endActivity 3
  let g := { e.1.gen with st := 0, v := 0, a := 0, plan := none, rampNew := false, discard := false, queued := none, pend := none
                          soft := none, softNew := false, engageNew := false }
  s.putReq i { ax := { e.1 with gen := g, src := { e.1.src with engaged := false } }, ev := e.2 }

/-- A node's entry is gone: its address is free, its waiting requests end with TIMEOUT. -/
def State.dropNode (s : State) (c a : Nat) : State :=
  let q := (s.nd c a).queue
  let s1 := s.setNd c a {}
  q.foldl (fun t r => match r.use with
    | .hostRead m => t.respond m stTimeout []
    | .hostWrite m => t.respond m stTimeout []
    | _ => t) s1

/-- The shadow tables of chain c become active at a boundary (R90, R94, R98). -/
def State.commitChain (s : State) (c : Nat) : State :=
  let x := s.ch c
  let changed := (List.range 64).filter (fun a =>
    nodeUsed x.shadow.node a && (List.range 4).any (fun k => nodeW x.shadow.node a k != nodeW x.active.node a k))
  let gone := (usedNodes x.active.node).filter (fun a => !nodeUsed x.shadow.node a)
  let same := match x.staging with
    | some g => g.map == x.shadow.map
    | none => false
  let s1 := if same && x.active.map != x.shadow.map then (s.dropStaging c).updCh c (fun y => { y with staging := none }) else s
  let s2 := s1.updCh c (fun y => { y with active := y.shadow })
  let s3 := gone.foldl (fun t a => t.dropNode c a) s2
  if s3.clk.begun then changed.foldl (fun t a => if (t.nd c a).assigned then t.deliver c a else t) s3 else s3

/-- Axes with a spoke under the active maps. -/
def State.mappedAxes (s : State) : List Nat := mapAxes s.ch0.active.map ++ mapAxes s.ch1.active.map

/-- The budget shadow becomes active: budgets are full, the headroom window restarts (R34, R36, R375). -/
def State.commitBudget (s : State) : State :=
  { s with budget := { s.budget with active := s.budget.shadow, activeW5 := s.budget.shadowW5 } }

/-- A commit takes effect: every part it names together (R95). -/
def State.applyCommit (s : State) (k : Commit) : State :=
  let old := s.mappedAxes
  let s1 := if k.ch0 then s.commitChain 0 else s
  let s2 := if k.ch1 then s1.commitChain 1 else s1
  let s3 := if k.budget then s2.commitBudget else s2
  let gone := old.filter (fun i => !s3.mappedAxes.contains i)
  { gone.foldl State.removeAxis s3 with pend := { s3.pend with commit := none } }

/-! ## Start-up phases (Table 4.10) -/

/-- The phase changes at the boundary of the cycle in hand. -/
def State.toPhase (s : State) (p : Phase) : State := { s with startup := { s.startup with phase := p, from_ := s.clk.cycle } }

/-- Some address waits for its assignment. -/
def Chain.assigning (x : Chain) : Bool := x.nodes.any (fun p => p.2.toAssign)

/-- The requests of the Deliver phase for one node. -/
def State.startNode (s : State) (c e a : Nat) : State :=
  let s1 := (s.queueReq c a ((s.nd c a).delayReq (s.ch c) .setDelay)).deliver c a
  s1.queueReq c a (stageReq (s.ch c).active.map a (s.ch c).gen e .deliver)

/-- The active map is staged with e at every assigned node (R117). -/
def State.stageActive (s : State) (c e : Nat) : State :=
  s.updCh c (fun x => { x with gen := (x.gen + 1) % 256
                               staging := some { gen := (x.gen + 1) % 256, e := e, map := x.active.map, affected := ofBits x.assigned, lock := false } })

/-- Longest request queue of any node, and whether any request waits. -/
def State.longestQueue (s : State) : Nat :=
  (s.chains.flatMap (fun c => (s.ch c).nodes.map (fun p => p.2.queue.length))).foldl max 0

/-- The Deliver phase begins: the rolling start follows the longest queue and the step cycle (Table 4.10). -/
def State.beginDeliver (s : State) : State :=
  let more : Nat := (s.chains.flatMap (fun c => (s.ch c).assigned.map (fun a => (s.nd c a).queue.length + (s.valueReqs c a).length + 2))).foldl max 0
  let e := s.clk.cycle + more + 1
  let s1 := s.chains.foldl (fun t c =>
    let u := t.stageActive c e
    (u.ch c).assigned.foldl (fun v a => v.startNode c e a) u) s
  { (s1.toPhase .deliver) with startup := { (s1.toPhase .deliver).startup with rollE := e } }

/-- The Deliver phase was not confirmed in time: the map is staged again with a later e. -/
def State.againDeliver (s : State) : State :=
  let e := s.clk.cycle + s.longestQueue + 2
  let s1 := s.chains.foldl (fun t c =>
    let u := t.stageActive c e
    (u.ch c).assigned.foldl (fun v a => v.queueReq c a (stageReq (u.ch c).active.map a (u.ch c).gen e .deliver)) u) s
  { s1 with startup := { s1.startup with rollE := e } }

/-- The start-up at the boundary of the cycle in hand (R117). -/
def State.startupBoundary (s : State) : State :=
  let n := s.clk.cycle
  match s.startup.phase with
  | .census =>
    if s.chains.all (fun c => (s.ch c).ring.agree) || decide (s.startup.from_ + 64 ≤ n) then
      (s.chains.foldl State.giveAddresses s).toPhase .assign
    else s
  | .assign =>
    let s1 := s.chains.foldl (fun t c => t.updCh c Chain.dropAssigns) s
    if s1.chains.any (fun c => (s1.ch c).assigning) then s1
    else
      (s1.chains.foldl (fun t c =>
        let u := t.updCh c Chain.startMeasure
        (u.ch c).assigned.foldl (fun v a => v.readDesc c a) u) s1).toPhase .measure
  | .measure => if s.chains.any (fun c => (s.ch c).ring.measuring) then s else s.beginDeliver
  | .deliver =>
    if n + 1 < s.startup.rollE then s
    else if s.longestQueue ≠ 0 then s.againDeliver
    else s.toPhase .stepClock
  | .stepClock => if s.startup.rollE ≤ n then s.toPhase .rolling else s
  | .rolling => if s.startup.rollE + 8 ≤ n then ({ s with startup := { s.startup with phase := .idle } } : State).enter .runActive 1 else s
  | _ => s

/-- Cycles begin at B(0): every enabled chain is searched (R104, R117). -/
def State.beginCensus (s : State) : State :=
  s.chains.foldl (fun t c => t.updCh c (fun x => { x with
    nodes := [], ring := {}, out := false, staging := none, kA := 0, kB := 0 })) (s.toPhase .census)

end Sys2Proof.Machine
end

