-- ==== Sys2Proof/Machine/CopyOps.lean ====
section
/-!
DEFINITION. The state copy: records of axes and profiles, its closing on the active, its application on the standby, and the
taking over of copied state (R24, R25, R37, R182, R298, R300 to R305).
-/
namespace Sys2Proof.Machine

/-- The q reference a CURRENT_UPDATE with coefficient set `c` uses (R173, R182; Table 7.1): the copied one until an outer result
replaces it. -/
def CurState.iqRefOf (q : CurState) (c : CoefSet) (outer : Nat) : SatVal :=
  match q.iqCopied with
  | some v => if outer = 0 then (0, false) else (v, false)
  | none => sat32 [term c 20 (if outer = 0 then 0 else q.y)]

/-- The outer result of the cycle becomes that of the cycle before (R173). -/
def CurState.advance (q : CurState) : CurState :=
  match q.yNext with
  | some y => { q with y := y, yNext := none, iqCopied := none }
  | none => q

/-- The q reference of the next cycle (Table 7.5). -/
def Axis.iqNext (x : Axis) : Int := (x.curst.advance.iqRefOf x.act x.outer).1

/-- Template state words (Table 12.7b), with the T4 part of a current-loop axis behind them (Table 7.5). -/
def Axis.stateWords (x : Axis) : List Word :=
  let l := x.loop
  let base : List Int :=
    match x.loopTemplate with
    | 1 => [l.u0a, l.u0b, l.u1a, l.u1b, l.u2a, l.u2b, l.u3a, l.u3b]
    | 2 => [l.u0a, l.u0b, l.u1a, l.u1b, 0, 0, 0, 0]
    | 3 => [l.xPrev, l.dPrev, 0, 0, 0, 0, 0, 0]
    | 5 => [l.u0a, l.u0b, l.u1a, l.u1b, l.u2a, l.u2b, 0, 0]
    | _ => [0, 0, 0, 0, 0, 0, 0, 0]
  base.map wdi ++ (if x.isCur then
    [wdi x.curst.xd, wdi x.curst.xq, wd x.curst.thPrev, wdi x.iqNext, wd (x.curst.dutyA + at_ 16 x.curst.dutyB),
     wd (x.curst.dutyC + bitAt 16 x.curst.limited)] else [])

/-- The state record of axis i (Table 12.7a). -/
def Axis.record (x : Axis) (i : Nat) : AxisRec :=
  { axis := BitVec.ofNat 8 i, state := BitVec.ofNat 4 x.gen.st, enabled := x.enabled, held := x.fb.held
    p := x.gen.p, v := x.gen.v, a := x.gen.a, pgen := BitVec.ofNat 16 x.pgen
    clampP := x.loop.clampP, clampN := x.loop.clampN, soft := x.gen.soft.isSome, i := x.loop.i
    cmd := wdi x.rel.target, w := x.stateWords }

/-- Bytes of an axis record (R182, R300). -/
def Axis.recordBytes (x : Axis) : Nat := if x.isCur then 96 else 64

/-- Absolute target of a move; a queued distance is taken from the target of the move it follows (Tables 9.1 and 12.8). -/
def Axis.recordTarget (x : Axis) (m : Move) : Int :=
  match m.rel, x.gen.act with
  | some r, .move a => a.target + r
  | some r, _ => x.gen.p + r
  | none, _ => m.target

/-- A move as a profile record (Table 12.8). -/
def moveRecord (i : Nat) (x : Axis) (m : Move) (queued : Bool) : ProfileRec :=
  { axis := BitVec.ofNat 8 i, state := BitVec.ofNat 4 x.gen.st, queued := queued, scurve := m.scurve
    kind := if m.jog then 2 else if m.rel.isSome || m.wasRel then 1 else 0, pgen := BitVec.ofNat 16 x.pgen
    target := x.recordTarget m, v := m.v, acc := m.acc, dec := m.dec, jerk := m.jerk
    t0 := match x.gen.plan with
      | some p => if queued then 0 else p.t0
      | none => 0
    x0 := match x.gen.plan with
      | some p => if queued then 0 else if x.gen.st = 1 ∨ x.gen.st = 2 then p.p0 else p.v0
      | none => 0
    a0 := match x.gen.plan with
      | some p => if queued then 0 else p.a0
      | none => 0 }

/-- The profile records of axis i: the activity and a queued move (R301). -/
def Axis.profileRecs (x : Axis) (i : Nat) : List ProfileRec :=
  (match x.gen.act with
   | .move m => [moveRecord i x m false]
   | _ => [{ axis := BitVec.ofNat 8 i, state := BitVec.ofNat 4 x.gen.st, kind := if x.gen.act = .source then 3 else 0
             pgen := BitVec.ofNat 16 x.pgen }]) ++
  (match x.gen.queued with
   | some (m, _) => [moveRecord i x m true]
   | none => [])

/-- The active sends copies: a twin is configured and the device heads (R24, R29). -/
def State.copies (s : State) : Bool := s.twin.enable && s.md.mode.heads

/-- Profile records that fit the A7 budget, in axis order, and the axes they cover; the others wait for the next copy (R301). -/
def State.fitRecords (s : State) : List Nat → State × List ProfileRec × List Nat
  | [] => (s, [], [])
  | i :: l =>
    let r := (s.ax i).profileRecs i
    match s.chargeBytes 7 (64 * r.length) with
    | some t =>
      let z := t.fitRecords l
      (z.1, r ++ z.2.1, i :: z.2.2)
    | none => (s.countDefer 7, [], [])

/-- A copy closes: profile records, state sequence number and control block (R24, R301, R302); `none`: they do not fit A7. -/
def State.closeBuild (s : State) (b : CopyBuild) : State × CopyBuild :=
  let f := s.fitRecords (sortBy (fun a b => decide (a ≤ b)) s.link.changed)
  match f.1.chargeBytes 7 4 with
  | none => (f.1.countDefer 7, { b with lost := true })
  | some t =>
    let seq := (t.twin.stateSeq + 1) % 2 ^ 32
    let cb : ControlBlock :=
      { cycle := b.cycle, gear := BitVec.ofNat 8 t.clk.gear, l := BitVec.ofNat 8 t.twin.l
        recs := BitVec.ofNat 16 b.recs.length, precs := BitVec.ofNat 16 f.2.1.length, cfgGen := wd t.link.cfgGen
        ring0 := wd t.link.ring0, ring1 := wd t.link.ring1
        shiftGear := match t.pend.shift with
          | some h => BitVec.ofNat 8 h.gear
          | none => 0
        shiftE := match t.pend.shift with
          | some h => h.e
          | none => 0
        stateSeq := wd seq, origin := t.clk.origin, originCycle := t.clk.originCycle }
    ({ t with
       twin := { t.twin with stateSeq := seq, copy := { cb := cb, recs := b.recs.map (·.2), precs := f.2.1 } }
       link := { t.link with sentRecs := t.link.sentRecs ++ f.2.2.map (fun i => (seq, i, (t.ax i).pgen)) } }, { b with closed := true })

/-- The records of a copy leave in axis order, axis i once axes 0 to i are accounted for, and the copy closes after the last
(R24, R190); one that does not fit A7 is discarded with the rest of the copy (R37). `axes`: those with a record, ascending. -/
def State.sendBuild (s : State) (b : CopyBuild) : List Nat → State × CopyBuild
  | [] => s.closeBuild b
  | i :: l =>
    if i < b.sent then s.sendBuild b l
    else if !b.mask.testBit i then (s, b)
    else
      match s.chargeBytes 7 (s.ax i).recordBytes with
      | some t => t.sendBuild { b with sent := i + 1 } l
      | none => (s.countDefer 7, { b with lost := true })

/-- A copy still to be sent, as far as it can go. -/
def State.advanceBuild (s : State) (b : CopyBuild) : State × CopyBuild :=
  if !s.copies || b.closed || b.lost then (s, b) else s.sendBuild b (sortBy (fun a b => decide (a ≤ b)) s.templated)

/-- The copies go out one after the other: that of the cycle before, then that of the cycle. -/
def State.tryClose (s : State) : State :=
  let z := s.advanceBuild s.link.old
  let s1 : State := { z.1 with link := { z.1.link with old := z.2 } }
  if !z.2.closed && !z.2.lost then s1
  else
    let y := s1.advanceBuild s1.link.build
    { y.1 with link := { y.1.link with build := y.2 } }

/-- A record enters a copy. -/
def CopyBuild.add (b : CopyBuild) (i : Nat) (r : AxisRec) : CopyBuild :=
  if b.mask.testBit i then b else { b with mask := putBit b.mask i true, recs := Tbl.put b.recs i r }

/-- Axis i is accounted for in the copy of cycle `n`, with its record as it stands (R24, R190). -/
def State.account (s : State) (i n : Nat) : State :=
  if !s.copies then s
  else
    let r := (s.ax i).record i
    (if n = s.clk.cycle then ({ s with link := { s.link with build := s.link.build.add i r } } : State)
     else if n = s.link.old.cycle then { s with link := { s.link with old := s.link.old.add i r } }
     else s).tryClose

/-- No item will come for axis i in the cycle: it is off, or neither local nor in a spoke map. -/
def State.noItem (s : State) (i : Nat) : Bool :=
  !(s.ax i).enabled || (!(s.ax i).isStep && (s.spokeOfAxis i).isNone)

/-- The copy of a new cycle begins; axes without an item in the cycle are accounted for at once. -/
def State.beginCopy (s : State) : State :=
  let n := s.clk.cycle
  let b := s.link.build
  let s1 : State := { s with
    link := { s.link with old := if b.cycle + 1 = n then b else {}, build := { cycle := n, closed := false }, incompleteNow := false } }
  ((s1.templated.filter s1.noItem).foldl (fun t i => t.account i n) s1).tryClose

/-- The standby acknowledges a copy: profile records sent in it and before it need not be sent again, unless the profile has
changed since (R301). -/
def State.ackCopy (s : State) (seq : Nat) : State :=
  let upTo := s.link.sentRecs.filter (fun p => sgn 32 (seq + 2 ^ 32 - p.1) ≥ 0)
  let later := s.link.sentRecs.filter (fun p => sgn 32 (seq + 2 ^ 32 - p.1) < 0)
  { s with twin := { s.twin with acked := seq }
           link := { s.link with sentRecs := later
                                 changed := s.link.changed.filter (fun i =>
                                   !upTo.any (fun p => p.2.1 == i && p.2.2 == (s.ax i).pgen)) } }

/-! ## The standby -/

/-- Readiness of a standby (R305). -/
def State.standbyReady (s : State) : Bool := s.twin.valid && s.twin.timeLock && s.twin.cfgCurrent && s.twin.applied

/-- Event 99 when the readiness of the standby changes (R289). -/
def State.readiness (s : State) : State :=
  let r := s.standbyReady && s.md.mode == .runStandby
  if r = s.twin.ready then s else ({ s with twin := { s.twin with ready := r } }).raise 99 (b2n r) 0

/-- A standby that is no longer configuration-current asks for a refresh (R305). -/
def State.notCurrent (s : State) : State :=
  if s.twin.cfgCurrent then
    ({ s with twin := { s.twin with cfgCurrent := false }, link := { s.link with refresh := true } } : State).readiness
  else { s with link := { s.link with refresh := true } }

/-- A copy is incomplete (R25, R302): counted, event 100 once per cycle. -/
def State.copyIncomplete (s : State) : State :=
  let s1 : State := { s with link := { s.link with incomplete := cadd s.link.incomplete 1 } }
  if s.link.incompleteNow then s1
  else ({ s1 with link := { s1.link with incompleteNow := true } }).raise 100 0 (s.twin.copy.cb.cycle % 2 ^ 32)

/-- Copy age at cycle n (R304). -/
def State.copyAge (s : State) (n : Nat) : Nat := n - s.twin.copy.cb.cycle

/-- The copy is judged at a cycle whose renewal was received (R304): event 101 when it becomes stale. -/
def State.judgeCopy (s : State) : State :=
  let old := !s.twin.applied || decide (s.copyAge s.clk.cycle > s.twin.ageMax)
  if old && !s.twin.stale && s.twin.applied then
    ({ s with twin := { s.twin with stale := true } }).raise 101 (s.copyAge s.clk.cycle) (s.twin.copy.cb.cycle % 2 ^ 32)
  else s

/-- Profile records of a copy are kept by axis, the queued one at axis + 256. A record of the activity without its queued one
ends the queue. -/
def keepRecs (t : Tbl ProfileRec) : List ProfileRec → Tbl ProfileRec
  | [] => t
  | r :: l =>
    if r.queued then keepRecs (Tbl.put t (r.axis.toNat + 256) r) l
    else keepRecs (Tbl.put (t.filter (fun p => p.1 != r.axis.toNat + 256)) r.axis.toNat r) l

/-- The move of a profile record. -/
def recMove (r : ProfileRec) : Move :=
  { target := r.target, wasRel := r.kind = 1, jog := r.kind = 2, scurve := r.scurve
    v := r.v, acc := r.acc.toNat, dec := r.dec.toNat, jerk := r.jerk.toNat }

/-- The activity that a profile record carries. -/
def recAct (r : ProfileRec) : Activity :=
  if r.kind = 3 then .source else if r.v = 0 ∧ r.acc = 0 ∧ r.dec = 0 ∧ r.target = 0 then .none else .move (recMove r)

/-- The plan of a profile record, in the cycle length in force. -/
def recPlan (r : ProfileRec) (p v : Int) (tc : Nat) : Option Plan :=
  if r.t0 = 0 then none
  else match recAct r with
    | .move m => if r.state = 1 then some (planMove m r.x0 r.t0 tc) else if r.state = 2 then some (planJog m r.x0 r.t0 tc)
                 else some (planRamp p v r.a0 m.dec m.jerk r.t0 tc)
    | _ => none

/-- Axis i takes over the copied state (R298, R301). With a copied `LIMITED` the own last vd and vq give the signs for R176
(R182; DESIGN CHOICE, log entry 113). -/
def Axis.takeOver (x : Axis) (r : AxisRec) (pr qr : ProfileRec) (tc : Nat) : Axis :=
  let w (k : Nat) : Int := (r.w.getD k 0).toInt
  let match_ := pr.pgen == r.pgen
  let g : Gen := { x.gen with
    p := r.p, v := r.v, a := r.a, rampNew := false, discard := false, pend := none, soft := none, softNew := r.soft, engageNew := false
    st := if match_ then r.state.toNat else 4
    act := if match_ then recAct pr else .none
    queued := if match_ && qr.queued then some (recMove qr, 0) else none
    plan := if match_ then recPlan pr r.p r.v tc else none }
  let g1 := if match_ then (if r.state = 4 ∨ r.state = 5 ∨ r.state = 8 ∨ r.state = 10 then
        { g with rampNew := g.plan.isNone, rampDec := x.prf0.toNat } else g)
    else { g with rampNew := true, rampDec := x.prf0.toNat, rampJerk := 0 }
  { x with
    enabled := r.enabled, pgen := r.pgen.toNat, gen := g1
    fb := { x.fb with pos := r.p / 4294967296 * 4294967296, known := true, seen := true, prevOk := false, held := r.held }
    rel := { x.rel with target := r.cmd.toInt, ff1 := 0, ff2 := 0, valid := true }
    loop := { x.loop with
      i := r.i, clampP := r.clampP, clampN := r.clampN, first := false
      u0a := w 0, u0b := w 1, u1a := w 2, u1b := w 3, u2a := w 4, u2b := w 5, u3a := w 6, u3b := w 7
      xPrev := w 0, dPrev := w 1 }
    curst := if x.isCur then
        { x.curst with xd := w 8, xq := w 9, thPrev := (r.w.getD 10 0).toNat, iqRef := w 11, dutyA := fld (r.w.getD 12 0) 15 0
                       dutyB := fld (r.w.getD 12 0) 31 16, dutyC := fld (r.w.getD 13 0) 15 0, limited := bit (r.w.getD 13 0) 16
                       y := r.cmd.toInt, yNext := none, iqCopied := some (w 11), fresh := true }
      else x.curst }

/-- Every axis takes over the copy applied last. -/
def State.loadCopy (s : State) : State :=
  s.twin.copy.recs.foldl (fun t r =>
    let i := r.axis.toNat
    t.updAx i (fun x => x.takeOver r (Tbl.get {} t.twin.precs i) (Tbl.get {} t.twin.precs (i + 256)) t.tc)) s

end Sys2Proof.Machine
end

