-- ==== Sys2Proof/Machine/EnvOps.lean ====
section
/-!
DEFINITION. The envelope: limits, the clamp of a result, and its words in the BBR (R55, R250 to R256).
-/
namespace Sys2Proof.Machine

/-- Position encoding: M × 4^E (Table 11.2). -/
def envPos (v : Nat) : Int := sgn 12 (v % 4096) * (4 ^ (v / 4096 % 16) : Nat)

/-- Magnitude encoding: M × 2^(E + 4), 0xFFFF the largest value. -/
def envMag (v : Nat) : Nat := if v = 0xFFFF then 0x7FFFFFFF else (v % 4096) * 2 ^ (v / 4096 % 16 + 4)

/-- A limit per 15.625 µs, applied at the cycle length; saturating (R55, R251). -/
def envScale (tc v : Nat) : Nat := min (v * (tc / 15625)) 0x7FFFFFFF

/-- The limits of one axis as applied. -/
structure EnvLimits where
  lo : Int := 0
  hi : Int := 0
  cmd : Nat := 0
  cmdScaled : Nat := 0
  step : Nat := 0
  deriving DecidableEq, Repr

/-- Limits in force of axis i. -/
def State.envOf (s : State) (i : Nat) : EnvLimits :=
  let w0 := Tbl.get (0 : Word) s.env.inForce (2 * i)
  let w1 := Tbl.get (0 : Word) s.env.inForce (2 * i + 1)
  { lo := envPos (fld w0 15 0), hi := envPos (fld w0 31 16), cmd := envMag (fld w1 15 0)
    cmdScaled := envScale s.tc (envMag (fld w1 15 0)), step := envScale s.tc (envMag (fld w1 31 16)) }

/-- A window edge within the 32-bit integer range; one beyond it leaves its side unlimited (R251). -/
def edgeIn (v : Int) : Bool := decide (-(2 ^ 31 : Int) ≤ v) && decide (v < 2 ^ 31)

/-- The measured position lies at or beyond an edge that limits. -/
def EnvLimits.atHi (e : EnvLimits) (pos : Int) : Bool := edgeIn e.hi && decide (e.hi ≤ pos)
def EnvLimits.atLo (e : EnvLimits) (pos : Int) : Bool := edgeIn e.lo && decide (pos ≤ e.lo)

/-- The command is zero at an edge it would leave (R252). -/
def EnvLimits.window (e : EnvLimits) (pos y : Int) : Int :=
  if (e.atHi pos && decide (y > 0)) || (e.atLo pos && decide (y < 0)) then 0 else y

/-- An extended target inside the window (output kind 4, R251). -/
def EnvLimits.inside (e : EnvLimits) (t : Int) : Int :=
  if edgeIn e.hi ∧ t > e.hi then e.hi else if edgeIn e.lo ∧ t < e.lo then e.lo else t

/-- Step-limited change from the last released command. -/
def EnvLimits.stepTo (e : EnvLimits) (last y : Int) : Int := last + clampI (-e.step) e.step (y - last)

/-- The measured position the window is judged by (R252). -/
def State.envPosOf (s : State) (x : Axis) : Int :=
  if x.isStep && !x.fbLocal then (s.stp x.stpPort).pos else x.fb.pos / 4294967296

/-- The last released command; before one has left, the zero-motion value (R252). -/
def Axis.lastTarget (x : Axis) (kind : Nat) : Int :=
  if x.rel.valid then x.rel.target else if kind = 4 then sgn 32 (ubits 32 (x.fb.pos / 4294967296)) else 0

/-- Held at zero motion: no valid seal, or a window that is upside down (R251, R252). -/
def State.zeroMotion (s : State) (i : Nat) : Bool := !s.bbr.ok1 || decide ((s.envOf i).lo > (s.envOf i).hi)

/-- Zero motion of a kind (Table 11.3); `none`: no position is known yet. -/
def Axis.zeroResult (x : Axis) (kind : Nat) (r : Result) : Option Result :=
  if kind = 4 then (if x.rel.valid || x.fb.seen then some { mode := r.mode, target := x.lastTarget 4 } else none)
  else some { mode := r.mode }

/-- The low 32 bits of a position target, as it leaves (R148). -/
def Result.low (kind : Nat) (r : Result) : Result := if kind = 4 then { r with target := sgn 32 (ubits 32 r.target) } else r

/-- What the limits make of a result of output kind `kind`, with the measured position `pos` (Table 11.3). -/
def EnvLimits.clamp (e : EnvLimits) (kind : Nat) (noWindow : Bool) (last pos : Int) (r : Result) : Result :=
  match kind with
  | 1 =>
    let v := clampI (-e.cmdScaled) e.cmdScaled r.target
    let w := if noWindow then v else e.window pos v
    { r with target := e.stepTo last w, ff1 := if w = v then r.ff1 else 0 }
  | 4 =>
    let f := clampI (-e.cmdScaled) e.cmdScaled r.ff1
    let t := if noWindow then r.target else e.inside r.target
    let u := sgn 32 (ubits 32 (last + clampI (-e.step) e.step (sgn 32 (ubits 32 (t - last)))))
    if t = r.target then { r with target := u, ff1 := f } else { r with target := u, ff1 := 0, ff2 := 0 }
  | 5 =>
    let v := clampI (-e.cmdScaled) e.cmdScaled r.target
    { r with target := e.stepTo last (if noWindow then v else e.window pos v) }
  | 2 => { r with target := e.stepTo last (clampI (-e.cmd) e.cmd r.target) }
  | _ =>
    let y := clampI (-e.cmd) e.cmd r.target
    { r with target := e.stepTo last (if noWindow then y else e.window pos y) }

/-- A result of axis i passes the envelope: the result, and whether it was clamped (R252, R253). `none`: the spoke goes out
empty. Duty values are not clamped (R250). -/
def State.envelope (s : State) (i kind : Nat) (r : Result) : Option (Result × Bool) :=
  let x := s.ax i
  if s.zeroMotion i then (x.zeroResult kind r).map (fun z => (z, false))
  else if kind = 4 && !x.rel.valid && !x.fb.seen then none
  else
    let c := (s.envOf i).clamp kind (x.loopTemplate == 3) (x.lastTarget kind) (s.envPosOf x) r
    some (c, c != r.low kind)

/-- A clamp of axis i is counted, once per cycle (R253); a lasting one aborts the axis's chirp (R397). -/
def State.countClamp (s : State) (i : Nat) : State :=
  if (s.ax i).rel.clamped then s
  else
    let s1 := s.updAx i (fun x => { x with cnt := { x.cnt with clamps := cadd x.cnt.clamps 1 }, rel := { x.rel with clamped := true } })
    let s2 := s1.occur 7 i (fun st => some (80, i, st))
    if (s2.faults.get 7 i).lasting.isSome then s2.stopChirp i else s2

/-- Axes whose odd word has been written and sealed take their new limits at the boundary (R255). -/
def State.envBoundary (s : State) : State :=
  { s with env := { s.env with nextWords := []
                               inForce := s.env.nextWords.foldl (fun t p => Tbl.put t p.1 p.2) s.env.inForce } }

/-- The path locks (R256): after at least one write, event 82. -/
def State.envLock (s : State) : State :=
  let n := s.env.written
  let s1 : State := { s with env := { s.env with firstKey := none, unlocked := false, written := 0 } }
  if s.env.unlocked && decide (0 < n) then s1.raise 82 n (s.bbr.word (0x3F1 + 4)).toNat else s1

/-- A key fault (R254): event 83 and the lockout. -/
def State.keyFault (s : State) (code : Nat) : State :=
  ({ s with env := { s.env with firstKey := none, lockout := some (s.now + 1000000000) } }).raise 83 code 0

/-- A write to BAR0 other than a key (R254): between the two keys it is a key fault. -/
def State.bar0Write (s : State) : State := if s.env.firstKey.isSome then s.keyFault 2 else s

/-- ENV_WE has been seen high (R254); its falls are rows of their own. -/
def State.seesWe (s : State) (we : Bool) : State := if we then { s with env := { s.env with we := true } } else s

/-- ENV_WE falls: the path locks (R256). -/
def State.weFall (s : State) : State := if s.env.we then ({ s with env := { s.env with we := false } } : State).envLock else s

/-- Key writes are ignored at present. -/
def State.lockedOut (s : State) : Bool :=
  match s.env.lockout with
  | some t => decide (s.now < t)
  | none => false

/-- A word goes to its address and its seal update begins (R255). -/
def State.envBegin (s : State) (a : Nat) (v : Word) : State :=
  { s with
    bbr := { s.bbr with words := Tbl.put (Tbl.put s.bbr.words (0x100 + a) v) (0x3F2 + 4) 1, running := some 1 }
    env := { s.env with busy := true, busyWord := a } }

/-- A data write takes the address in hand; during an update it is held (R255). -/
def State.envStore (s : State) (v : Word) : State :=
  let a := s.env.addr
  let e := { s.env with addr := (a + 1) % 512, lastWrite := s.now, written := s.env.written + 1 }
  if s.env.busy then { s with env := { e with held := e.held ++ [(a, v)] } } else ({ s with env := e } : State).envBegin a v

/-- The second key has been awaited for more than 1 ms. -/
def State.keyLate (s : State) : Bool :=
  match s.env.firstKey with
  | some t => decide (t + 1000000 < s.now)
  | none => false

/-- A write of `ENV_KEY` with the ENV_WE ball at a level (R254, R256). -/
def State.envKey (s0 : State) (v : Word) (we : Bool) : State :=
  let s1 := if we then { s0 with env := { s0.env with we := true } } else s0.weFall
  let s := if s1.keyLate then { s1 with env := { s1.env with firstKey := none } } else s1
  let k := fld v 15 0
  if s.lockedOut then s
  else if k = 0 then s.envLock
  else if !we then s.keyFault 3
  else if s.env.firstKey.isNone then
    if k = 0x5A17 then { s with env := { s.env with firstKey := some s.now } } else s.keyFault 1
  else if k = 0xC3E9 then
    let n := if s.env.unlocked then s.env.written else 0
    { s with env := { s.env with firstKey := none, unlocked := true, lastWrite := s.now, written := n } }
  else s.keyFault 1

/-- A write of `ENV_DATA` with the ENV_WE ball at a level (R254, R255). -/
def State.envData (s0 : State) (v : Word) (we : Bool) : State :=
  let s := if we then { s0 with env := { s0.env with we := true } } else s0.weFall
  if s.env.firstKey.isSome then s.keyFault 2
  else if !s.env.unlocked then s.keyFault 4
  else s.envStore v

/-- The seal update ends; the oldest held write follows. -/
def State.envSealed (s : State) : State :=
  if !s.env.busy then s
  else
    let s1 : State := { s with bbr := ({ s.bbr with running := none } : Bbr).reseal 1, env := { s.env with busy := false } }
    let a := s.env.busyWord
    let nw := if a % 2 = 0 then s.env.nextWords
      else Tbl.put (Tbl.put s.env.nextWords (a - 1) (s1.bbr.word (0xFF + a))) a (s1.bbr.word (0x100 + a))
    let s2 : State := { s1 with bbr := s1.bbr.setOk 1 true, env := { s1.env with nextWords := nw } }
    match s2.env.held with
    | (b, v) :: l => ({ s2 with env := { s2.env with held := l } } : State).envBegin b v
    | [] => s2

end Sys2Proof.Machine
end

