-- ==== Sys2Proof/Machine/SchedOps.lean ====
section
/-!
DEFINITION. The work scheduler: posting and spill, dispatch against budgets and release entries, failures, fences, release,
and the headroom meter (R17, R20 to R23, R33, R35 to R45, R141 to R144, R172, R181, R183 to R195).
-/
namespace Sys2Proof.Machine

/-! ## Items -/

/-- One item changed for another, or taken away. -/
def State.putItem (s : State) (x z : Item) : State :=
  { s with sched := { s.sched with items := s.sched.items.map (fun y => if y = x then z else y) } }
def State.delItem (s : State) (x : Item) : State :=
  { s with sched := { s.sched with items := s.sched.items.filter (fun y => y != x) } }

/-- Activity an item is charged to (Table 8.1). -/
def ItemKind.act : ItemKind → Nat
  | .current => 0
  | .axis => 1
  | .outer => 1
  | .profile => 2
  | .filter => 3
  | .house => 4

/-- `WI.KIND`: outer items are AXIS_UPDATE items (Table 8.2). -/
def ItemKind.code : ItemKind → Nat
  | .current => 0
  | .axis => 1
  | .outer => 1
  | .profile => 2
  | .filter => 3
  | .house => 4

/-- Core an item runs on. -/
def Item.core (x : Item) : Option Nat :=
  match x.stage with
  | .running (.core k) _ => some k.val
  | _ => none

def Item.running (x : Item) : Bool :=
  match x.stage with
  | .running _ _ => true
  | _ => false

/-- Items in spill (`SCH.SPILL_NOW`). -/
def Sched.spillNowN (c : Sched) : Nat := (c.items.filter (fun x => x.stage == .spilled)).length

/-- Shared release entries in use (R190). -/
def Sched.sharedUsed (c : Sched) : Nat := (c.items.filter (fun x => x.shared && !x.dead)).length

/-- An item is posted: to its level's hardware queue, or to spill when that is full or has items in spill (R187). -/
def State.addItem (s : State) (x : Item) : State :=
  let c := s.sched
  let full := decide (128 ≤ (c.items.filter (fun y => y.level == x.level && y.stage == .queued)).length) ||
    c.items.any (fun y => y.level == x.level && y.stage == .spilled)
  if full then
    let s1 : State := { s with sched := { c with items := c.items ++ [{ x with stage := .spilled }], spilled := cadd c.spilled 1 } }
    let n := s1.sched.spillNowN
    let s2 : State := { s1 with sched := { s1.sched with spillPeak := max s1.sched.spillPeak n, spillNow := true } }
    if c.spillNow then s2 else s2.raise 49 n s2.clk.cycle
  else { s with sched := { c with items := c.items ++ [{ x with stage := .queued }] } }

/-- The oldest spilled item of a level takes a freed hardware entry (R187). -/
def State.spillReturn (s : State) (level : Nat) : State :=
  match s.sched.items.find? (fun y => y.level == level && y.stage == .spilled) with
  | some x =>
    if (s.sched.items.filter (fun y => y.level == level && y.stage == .queued)).length < 128 then s.putItem x { x with stage := .queued }
    else s
  | none => s

/-! ## Posting -/

/-- Instant at which the first command byte of spoke k leaves in the frame of cycle n (R17, R74). -/
def State.firstByte (s : State) (c n k : Nat) : Nat :=
  s.clk.b n + (30 + (s.ch c).spokeSize * k) * byteTenths (s.ch c).rate / 10

/-- The profile step of axis i has not yet completed; with `all` a deferred one counts too. -/
def State.profilePending (s : State) (i : Nat) (all : Bool) : Bool :=
  s.sched.items.any (fun x => x.kind == .profile && x.axis == i && !x.dead && (all || !x.passed))

/-- The posting conditions of an item beside its candidate: a local item and a CURRENT_UPDATE wait for the profile step, and
every item for the feedback ports it reads (R20, R172, R235). -/
def State.mayPost (s : State) (x : Item) : Bool :=
  (match x.kind with
   | .axis => x.flow.isSome || !s.profilePending x.axis true
   | .current => !s.profilePending x.axis false
   | _ => true) &&
  (x.kind == .current || (s.ax x.axis).readsPorts.all (fun n => (s.fbp n).complete))

/-- The cycle runs on held feedback because a port the axis takes its feedback from has failed (R167). -/
def State.portFailed (s : State) (i : Nat) : Bool := (s.ax i).fbLocal && !(s.ax i).isCur && (s.fbp (s.ax i).fbPort).faulty

/-- The last confirmed feedback of an axis, as a held or local item runs on it (R164). -/
def Axis.fbView (x : Axis) : FbView := { pos := x.fb.pos, vel := x.fb.vel, proc := x.fb.proc }

/-- Velocity of a spoke, Q16.16: a compact spoke carries whole counts per cycle (Table 3.15). -/
def spokeVel (compact : Bool) (w : Word) : Int := if compact then sgn 16 (fld w 15 0) * 65536 else w.toInt

/-- Velocity feedback of a current-loop axis: the change of its extended position to `p` over one cycle; 0 in the first cycle after
enable and after a cycle without confirmed feedback (R174). -/
def Axis.curVel (x : Axis) (p : Int) : Int :=
  if x.loop.first || !x.fb.prevOk then 0
  else satS 32 (shrRne (wrap64 (p - (if x.fb.confirmed then x.fb.posPrev else x.fb.pos))) 16)

/-- What an item of axis i posted on a candidate runs on (R148, R174). -/
def State.candView (s : State) (c i : Nat) (fb : Feedback) : FbView :=
  let x := s.ax i
  let p := extendPos x.fb.known x.fb.pos fb.pos
  { pos := p, vel := if x.isCur then x.curVel p else spokeVel (s.ch c).compact fb.vel, proc := fb.pos.toInt }

/-- The item with the feedback of a port, where it runs on one: that of the cycle is complete when it is posted (R235). -/
def State.portView (s : State) (x : Item) : FbView :=
  if x.kind == .axis && (x.flow.isNone || (s.ax x.axis).fbLocal) then (s.ax x.axis).fbView else x.view

/-- Post an item, or keep it until its conditions hold. -/
def State.post_ (s : State) (x : Item) : State :=
  if s.mayPost x then
    (s.updAx x.axis (fun a => { a with want := none })).addItem
      { x with posted := s.now, held := x.held || s.portFailed x.axis, view := s.portView x }
  else s.updAx x.axis (fun a => { a with want := some x })

/-- A condition of axis i has come about: its waiting item is posted. -/
def State.tryWant (s : State) (i : Nat) : State :=
  match (s.ax i).want with
  | some x => if s.mayPost x then s.post_ x else s
  | none => s

/-- The AXIS_UPDATE or CURRENT_UPDATE of spoke k (R17, R172). -/
def State.chainItem (s : State) (c k i : Nat) (held : Bool) (copyB : Option Bool) (fb : Feedback) : Item :=
  let x := s.ax i
  { kind := if x.isCur then .current else .axis, level := if x.isCur then 0 else 1, axis := i, chain := c, spoke := k
    held := held, flow := some c, fseq := k, charge := chargeOf (templateSteps x.template)
    deadline := s.firstByte c (s.clk.cycle + 1) k, cycle := s.clk.cycle, copyB := copyB, fb := fb
    view := if held then x.fbView else s.candView c i fb }

/-- The item of a local axis (R158). -/
def State.localItem (s : State) (i : Nat) : Item :=
  { kind := .axis, level := 1, axis := i, charge := chargeOf (templateSteps (s.ax i).template), deadline := s.bNext, cycle := s.clk.cycle }

/-- The outer item that follows a CURRENT_UPDATE, due at the next boundary (R172). -/
def State.outerItem (s : State) (it : Item) : Item :=
  { it with kind := .outer, level := 1, flow := none, fseq := 0, charge := chargeOf (templateSteps (s.ax it.axis).outer)
            deadline := s.bNext, stage := .queued, dead := false, shared := false, passed := false }

/-- The PROFILE_STEP of axis i (R197). -/
def State.profileItem (s : State) (i : Nat) : Item :=
  { kind := .profile, level := 2, axis := i, charge := profileCharge, deadline := s.bNext, posted := s.now, cycle := s.clk.cycle }

/-! ## Ordered flows -/

/-- Released or failed places of flow c, of this cycle or the one before (R189). -/
def Sched.mask (c : Sched) (f : Nat) (old : Bool) : Nat :=
  if old then (if f = 0 then c.prev0 else c.prev1) else (if f = 0 then c.flow0 else c.flow1)

/-- Place k of flow f released or failed. -/
def Sched.mark (c : Sched) (f : Nat) (old : Bool) (k : Nat) : Sched :=
  match f, old with
  | 0, false => { c with flow0 := putBit c.flow0 k true }
  | 0, true => { c with prev0 := putBit c.prev0 k true }
  | _, false => { c with flow1 := putBit c.flow1 k true }
  | _, true => { c with prev1 := putBit c.prev1 k true }

/-- Places of a flow: the used entries of the map its frame was launched under. -/
def State.places (s : State) (f : Nat) (old : Bool) : List Nat :=
  (usedMap (if old then (s.ch f).prevMap else (s.ch f).launchMap)).map (·.1)

/-- The head of flow f (R190). -/
def State.flowHead (s : State) (f : Nat) (old : Bool) : Option Nat :=
  (s.places f old).find? (fun k => !(s.sched.mask f old).testBit k)

/-- Items of the cycle before still stand in flow f. -/
def State.oldInFlow (s : State) (f : Nat) : Bool :=
  s.sched.items.any (fun x => x.flow == some f && !x.dead && x.cycle != s.clk.cycle)

/-- An item is the head of its flow. -/
def State.atHead (s : State) (x : Item) : Bool :=
  match x.flow with
  | none => true
  | some f =>
    if f < 2 then
      let old := decide (x.cycle ≠ s.clk.cycle)
      (old || !s.oldInFlow f) && s.flowHead f old == some x.fseq
    else Tbl.get 0 s.sched.heads f == x.fseq

/-- Mark the place of an item in its flow. -/
def State.markFlow (s : State) (x : Item) : State :=
  match x.flow with
  | none => s
  | some f =>
    if f < 2 then { s with sched := s.sched.mark f (decide (x.cycle ≠ s.clk.cycle)) x.fseq }
    else { s with sched := { s.sched with heads := Tbl.put s.sched.heads f (x.fseq + 1) } }

/-- No item is posted for spoke k of the cycle in hand: its place is passed over and its axis accounted for (R24, R189). -/
def State.passOver (s : State) (f k i : Nat) : State :=
  ({ s with sched := s.sched.mark f false k } : State).account i s.clk.cycle

/-! ## The headroom meter -/

/-- One cycle's slack and projection enter the record; the end of a window gives its minima and the peaks of the activities
(R40, R42 to R45). -/
def State.meter (s0 : State) (slack proj : Int) : State :=
  let s : State := if 2 ^ (s0.budget.activeW5.toNat % 32) ≤ s0.room.count + 1 then
    { s0 with budget := { s0.budget with peak := s0.budget.run, run := [] } } else s0
  let r := s.room
  let mS := match r.runS with
    | some v => min v slack
    | none => slack
  let mP := match r.runP with
    | some v => min v proj
    | none => proj
  let low := decide (proj * 10 < (s.tc : Int))
  let full := decide (2 ^ (s.budget.activeW5.toNat % 32) ≤ r.count + 1)
  let r1 : Headroom := { r with
    slackLast := slack, projLast := proj
    slackMin := if full then mS else r.slackMin, projMin := if full then mP else r.projMin
    count := if full then 0 else r.count + 1
    runS := if full then none else some mS, runP := if full then none else some mP
    low := if low then min 1024 (r.low + 1) else 0, high := if low then 0 else min 1024 (r.high + 1) }
  let r2 : Headroom := { r1 with armed := r.armed || decide (1024 ≤ r1.high) }
  if r2.armed && decide (1024 ≤ r2.low) then ({ s with room := { r2 with armed := false } }).raise 42 0 (ubits 32 r2.projMin)
  else { s with room := r2 }

/-- S and P of the cycle that ended at `bn1`, from its last completion and that core's busy run (R42, R43). -/
def State.closeMeter (s : State) (bn1 : Nat) (tEnd : Option Nat) (run : Nat) : State :=
  match tEnd with
  | none => s.meter s.tc s.tc
  | some t =>
    let slack : Int := (bn1 : Int) - t
    s.meter slack (slack - divOpen (((s.room.k : Int) - 0x1000) * run) 0x1000)

/-- The meter of the cycle before closes with its last item. -/
def State.closeOld (s : State) : State :=
  if s.sched.open0 && !s.sched.items.any (fun x => decide (x.level ≤ 1) && !x.dead && x.cycle != s.clk.cycle && x.stage != .done) then
    ({ s with sched := { s.sched with open0 := false } }).closeMeter s.bNow s.sched.tEnd0 s.sched.busyRun0
  else s

/-- An A0 or A1 item of the item's cycle has completed or failed now (R42, R43); one that failed without a core has a busy run of 0
(DESIGN CHOICE, log entry 114). -/
def State.noteEnd (s : State) (x : Item) : State :=
  if 2 ≤ x.level then s
  else
    let run := match x.core with
      | some k => s.now - Tbl.get 0 s.sched.busySince k
      | none => 0
    if x.cycle = s.clk.cycle then { s with sched := { s.sched with tEnd := some s.now, busyRun := run } }
    else { s with sched := { s.sched with tEnd0 := some s.now, busyRun0 := run } }

/-! ## Failure -/

/-- The state record of the axis enters the copy of the item's cycle: its AXIS_UPDATE is released or failed (R24). -/
def State.accountOf (s : State) (x : Item) : State :=
  if x.kind == .axis || x.kind == .outer || (x.kind == .current && (s.ax x.axis).outer == 0) then s.account x.axis x.cycle else s

/-- An item is released as failed (R191). A running one keeps its core until it ends (R141); a failed CURRENT_UPDATE posts the
outer item (R172). -/
def State.failItem (s : State) (x : Item) (timeout : Bool) : State :=
  let s1 := if x.running then s.putItem x { x with dead := true } else s.delItem x
  let s2 := (s1.markFlow x).noteEnd x
  let s3 : State := if timeout then
      { s2 with sched := { s2.sched with
          timeout := cadd s2.sched.timeout 1, timeoutsNow := s2.sched.timeoutsNow + 1
          firstTimeout := if s2.sched.timeoutsNow = 0 then x.kind.code + at_ 8 x.axis else s2.sched.firstTimeout } }
    else s2
  let s4 := if x.kind = .current && (s3.ax x.axis).outer ≠ 0 && (s3.ax x.axis).enabled && s3.computes
    then s3.post_ (s3.outerItem x) else s3
  (s4.accountOf x).closeOld

/-- Places of flow f of the cycle before that still have no item when their R17 deadline has passed (R189). -/
def State.emptyPlaces (s : State) (f t : Nat) : List Nat :=
  (s.places f true).filter (fun k => !(s.sched.mask f true).testBit k && decide (s.firstByte f s.clk.cycle k ≤ t) &&
    !s.sched.items.any (fun x => x.flow == some f && x.fseq == k && !x.dead && x.cycle != s.clk.cycle))

/-- A place without an item is marked failed at its deadline: it is no timeout (R189). -/
def State.passOld (s : State) (f k : Nat) : State :=
  let i := fld (Tbl.get 0 (s.ch f).prevMap k) 7 0
  let s1 : State := { s with sched := s.sched.mark f true k }
  (s1.updAx i (fun x => match x.want with
    | some it => if it.cycle = s.clk.cycle then x else { x with want := none }
    | none => x)).account i (s.clk.cycle - 1)

/-- Places of the chain flows whose deadline is `t` or earlier and that have no item (R189). -/
def State.passPlaces (s : State) (t : Nat) : State :=
  [0, 1].foldl (fun u f => (u.emptyPlaces f t).foldl (fun v k => v.passOld f k) u) s

/-- Spokes of the frame that is leaving whose first byte is due at or before `t` go out empty (R22, R76). -/
def State.passDue (s : State) (t : Nat) : State :=
  [0, 1].foldl (fun u c => u.updCh c (fun x =>
    let gone := x.due.filter (fun k => decide (u.firstByte c u.clk.cycle k ≤ t))
    { x with due := x.due.filter (fun k => !gone.contains k)
             emptyNow := x.emptyNow + gone.length
             counters := { x.counters with emptyCmd := cadd x.counters.emptyCmd gone.length } })) s

/-- Items of levels 0 and 1 whose deadline is `t` or earlier and whose result has not been released fail (R23, R191). -/
def State.expire (s : State) (t : Nat) : State :=
  ((s.sched.items.filter (fun x => decide (x.level ≤ 1) && !x.dead && decide (x.deadline ≤ t))).foldl
    (fun u x => u.failItem x true) s).passPlaces t |>.passDue t

/-- Everything whose deadline lies before the present tick has passed; the tick of the deadline itself is on time (R414). -/
def State.expireBefore (s : State) : State := if s.now = 0 then s else s.expire (s.now - 1)

/-- Deadlines that lie ahead: of items of levels 0 and 1, of places without an item, and of spokes of the leaving frames. -/
def State.deadlines (s : State) : List Nat :=
  (s.sched.items.filter (fun x => decide (x.level ≤ 1) && !x.dead)).map (·.deadline) ++
  [0, 1].flatMap (fun f => ((s.places f true).filter (fun k => !(s.sched.mask f true).testBit k)).map (s.firstByte f s.clk.cycle)) ++
  s.ch0.due.map (fun k => s.firstByte 0 s.clk.cycle k) ++ s.ch1.due.map (fun k => s.firstByte 1 s.clk.cycle k)

/-! ## Dispatch -/

/-- Levels an executor serves (R183). -/
def execLevels : Executor → List Nat
  | .core _ => [0, 1, 2]
  | .filter => [3]
  | .supervisor => [4, 5, 6, 7]

def State.execFree (s : State) (e : Executor) : Bool :=
  s.sched.items.all (fun y => match y.stage with
    | .running z _ => z != e
    | _ => true)

def State.coreFree (s : State) (k : Nat) : Bool :=
  s.sched.inService.testBit k && s.sched.items.all (fun y => y.core != some k)

/-- A release entry is at hand: the flow's own for its head, otherwise a shared one (R190). -/
def State.entryFree (s : State) (x : Item) : Bool := x.flow.isNone || s.atHead x || decide (s.sched.sharedUsed < 192)

/-- Another loop item of the same axis runs (R143). -/
def State.axisBusy (s : State) (x : Item) : Bool :=
  decide (x.level ≤ 1) && s.sched.items.any (fun y => decide (y.level ≤ 1) && y.axis == x.axis && y.running)

/-- Deadline `a` is earlier than `b`: the signed difference modulo 2^32 of their low 32 bits (R184). -/
def sooner (a b : Nat) : Bool := decide (sgn 32 (a + (4294967296 - b % 4294967296)) < 0)

/-- The item with the earliest deadline, then the earlier posting, then the lower axis (R185). -/
def earliest : List Item → Option Item
  | [] => none
  | x :: l =>
    match earliest l with
    | none => some x
    | some y =>
      if sooner x.deadline y.deadline || (x.deadline % 4294967296 == y.deadline % 4294967296 && (decide (x.posted < y.posted) || (x.posted == y.posted && decide (x.axis ≤ y.axis))))
      then some x else some y

/-- The item a level offers. -/
def State.offer (s : State) (level : Nat) : Option Item :=
  earliest (s.sched.items.filter (fun x => x.level == level && x.stage == .queued && !x.passed && !x.dead && s.entryFree x && !s.axisBusy x))

/-- The item the dispatcher chooses for an executor. -/
def State.choose (s : State) (e : Executor) : Option Item := (execLevels e).findSome? s.offer

/-- Core for an axis: its home core when free, otherwise the lowest-numbered free core in service (R142, R186). -/
def State.coreFor (s : State) (i : Nat) : Nat :=
  if s.coreFree (i % 16) then i % 16 else ((List.range 16).find? s.coreFree).getD 0

/-- The charge fits what is left of the activity's budget; without cycles A3 and A4 are not limited (R35, R398). -/
def State.chargeFits (s : State) (x : Item) : Bool :=
  decide ((x.charge : Int) ≤ Tbl.get 0 s.budget.left x.kind.act) || (decide (3 ≤ x.level) && !s.counting)

/-- What a template reads when an item starts: the axis record, the set-point of the item's cycle and the item's feedback (R20, R143,
R160, R164). A load position is the last confirmed one at that start (R156; DESIGN CHOICE, log entry 103). -/
def State.loopIn (s : State) (it : Item) : LoopIn :=
  let x := s.ax it.axis
  let sp := it.sp.getD { p := x.gen.pRef, v := x.gen.vRef, a := x.gen.aRef }
  { pRef := sp.p, vRef := sp.v, aRef := sp.a, pFb := it.view.pos, vFb := it.view.vel, proc := it.view.proc, pLoad := x.load.pos
    held := it.held }

/-- The item reads the axis record (R143, R151). -/
def State.capture_ (s : State) (it : Item) : Item :=
  { it with set := (s.ax it.axis).act, inp := s.loopIn it, ls := (s.ax it.axis).loop, cs := (s.ax it.axis).curst }

/-- An item starts on an executor (R35, R143, R151, R190). -/
def State.start (s : State) (x : Item) (e : Executor) : State :=
  let e' : Executor := match e with
    | .core _ => .core (Fin.ofNat 16 (s.coreFor x.axis))
    | y => y
  let k := match e' with
    | .core k => k.val
    | _ => 16
  let shared := x.flow.isSome && !s.atHead x
  let c := s.sched
  let since := if Tbl.get 0 c.idleSince k = s.now then Tbl.get s.now c.busySince k else s.now
  let left := Tbl.get 0 s.budget.left x.kind.act
  let s1 := ({ s with budget := { s.budget with left := Tbl.put s.budget.left x.kind.act (left - x.charge) } }).putItem x
    (s.capture_ { x with stage := .running e' s.now, shared := shared })
  let c1 := s1.sched
  { s1 with sched := { c1 with
      busySince := Tbl.put c1.busySince k since, relPeak := max c1.relPeak c1.sharedUsed
      late := if 3 ≤ x.level && sooner x.deadline s.now then cadd c1.late 1 else c1.late } }

/-- A drop at dispatch (R37, R38). -/
def State.dropItem (s : State) (x : Item) : State :=
  let a := x.kind.act
  ({ s with budget := { s.budget with drop := Tbl.put s.budget.drop a (cadd (Tbl.get 0 s.budget.drop a) 1) }
            sched := { s.sched with dropsNow := s.sched.dropsNow + 1 } } : State).failItem x false

/-- An item of a level is discarded without running: its axis is off, or it is the profile step of an axis no longer enabled. -/
def Axis.discards (x : Axis) (level : Nat) : Bool := x.template == 0 || (level == 2 && !x.enabled)

/-- An executor takes an item: one that does not fit is dropped or deferred and the choice is made again (R185). -/
def State.dispatchFor (s : State) (e : Executor) : Nat → State
  | 0 => s
  | n + 1 =>
    match s.choose e with
    | none => s
    | some x =>
      if x.level ≤ 2 && (s.ax x.axis).discards x.level then (s.failItem x false).dispatchFor e n
      else if s.chargeFits x then s.start x e
      else if x.level ≤ 1 then (s.dropItem x).dispatchFor e n
      else ((s.countDefer x.kind.act).putItem x { x with passed := true }).dispatchFor e n

/-! ## Fences -/

/-- Core k is fenced (R192, R194): its running item fails, events 48 and 50. An item whose deadline strikes in the same tick is
counted as a timeout. -/
def State.fence (s : State) (k cause : Nat) (failing : Option Nat) : State :=
  let run := s.sched.items.find? (fun x => x.core == some k)
  let ax := match failing, run with
    | some i, _ => i
    | none, some x => x.axis
    | none, none => 0xFFFFFFFF
  let s1 := match run with
    | some x => (if x.dead then s else s.failItem x (decide (x.level ≤ 1) && decide (x.deadline ≤ s.now)))
    | none => s
  let s2 : State := { s1 with sched := { s1.sched with
      items := s1.sched.items.filter (fun y => y.core != some k)
      inService := putBit s1.sched.inService k false, fenceCause := cause, fenceCore := k
      idleSince := Tbl.put s1.sched.idleSince k s1.now } }
  let s3 := (s2.raise 48 (k + at_ 4 cause) ax).occur 15 k (fun _ => none)
  if (setBits 16 s3.sched.inService).length < 15 then s3.occur 16 0 (fun st => some (50, s3.sched.inService, st)) else s3

/-! ## Release -/

/-- A result of a local axis reaches its step output (R159, R219). -/
def State.releaseLocal (s : State) (i : Nat) (r : Result) : State :=
  let x := s.ax i
  let n := x.stpPort
  let p := s.stp n
  let s1 := (s.setStp n (p.release r.target s.now s.tc)).updAx i (fun a =>
    { a with rel := { a.rel with mode := r.mode, target := r.target, ff1 := 0, ff2 := 0, valid := true } })
  if p.clamps r.target s.tc then s1.occur 10 n (fun st => some (69, n, st)) else s1

/-- Control word of a launched spoke; in a compact one `AUX` is bits 11:4 (Table 3.11, R377). -/
def Axis.ctrl (x : Axis) (compact : Bool) : Nat :=
  2 ^ 15 + bitAt 14 x.enabled + bitAt 13 (decide (0 < x.ackLeft)) + bitAt 12 x.brakeNow + x.auxNow % 256 * (if compact then 16 else 1)

/-- `CSP.FF` of a command mode (Table 3.15, R158): whole counts per cycle in mode 1, Q1.15 in mode 2, to nearest with ties to even and
saturating (DESIGN CHOICE, log entry 110). -/
def compactFf (mode : Nat) (ff1 : Int) : Nat := if mode = 1 || mode = 2 then ubits 16 (satS 16 (shrRne ff1 16)) else 0

/-- The command half as it leaves: a compact spoke has no mode byte, 16 bits of feed-forward and no second one (R74, R75). -/
def TxSlot.wire (q : TxSlot) (compact : Bool) (ctrl : Nat) : TxSlot :=
  if compact then { q with ctrl := ctrl, mode := 0, ff1 := wd (compactFf q.mode q.ff1.toInt), ff2 := 0 } else { q with ctrl := ctrl }

/-- The duties of a released current-loop result are the last released ones (Table 7.5). -/
def Axis.noteDuties (x : Axis) (r : Result) : Axis :=
  if x.isCur then { x with curst := { x.curst with dutyA := nfld (ubits 32 r.ff1) 31 16, dutyB := nfld (ubits 32 r.ff1) 15 0
                                                   dutyC := nfld (ubits 32 r.ff2) 31 16 } } else x

/-- A result as the command half of a spoke (Table 6.9). -/
def Axis.slot (x : Axis) (r : Result) : TxSlot :=
  { ready := true, ctrl := x.ctrl false, mode := r.mode, target := wdi r.target, ff1 := wdi r.ff1, ff2 := wdi r.ff2 }

/-- The command of axis i leaves the device: it is the last released one (R252). -/
def State.leaves (s : State) (i : Nat) (r : Result) : State :=
  let x := s.ax i
  s.setAx i { x with enSent := x.enabled
                     rel := if x.isCur then x.rel
                            else { x.rel with mode := r.mode, target := r.target, ff1 := r.ff1, ff2 := r.ff2, valid := true } }

/-- Chain and spoke of axis i in the frames that are leaving. -/
def State.launchedSpoke (s : State) (i : Nat) : Option (Nat × Nat) :=
  match spokeOf s.ch0.launchMap i, spokeOf s.ch1.launchMap i with
  | some k, _ => some (0, k)
  | none, some k => some (1, k)
  | none, none => none

/-- A chain result is written into the transmit buffer: of this cycle's axis, or into the leaving frame that the map of the new
cycle gives the axis, while its first byte is not past (R21 to R23, R98). -/
def State.releaseChain (s0 : State) (x : Item) : State :=
  let s := s0.updAx x.axis (fun a => a.noteDuties x.result)
  if x.cycle = s.clk.cycle then
    s.updCh x.chain (fun c => { c with slots := Tbl.put c.slots x.axis ((s.ax x.axis).slot x.result) })
  else
    match s.launchedSpoke x.axis with
    | none => s
    | some (n, k) =>
      if (s.ch n).due.contains k then
        (s.leaves x.axis x.result).updCh n (fun c =>
          let f := c.sent 1
          { c with due := c.due.filter (· != k)
                   tx := Tbl.put c.tx 1 { f with emptyCmd := f.emptyCmd - 1
                                                 spokes := f.spokes.set k (((s.ax x.axis).slot x.result).wire c.compact ((s.ax x.axis).ctrl c.compact)) } })
      else s

/-- The head of chain flow f, of the older cycle first: its item where the item may be released (R19, R189). -/
def State.releasable (s : State) (f : Nat) : Option Item :=
  let old := s.oldInFlow f
  match s.flowHead f old with
  | none => none
  | some k =>
    s.sched.items.find? (fun x => x.flow == some f && x.fseq == k && !x.dead && x.stage == .done &&
      (x.cycle != s.clk.cycle) == old &&
      (match x.copyB with
       | none => true
       | some b => old || ((if b then (s.ch f).copyB else (s.ch f).copyA).state == .confirmed)))

end Sys2Proof.Machine
end

