-- ==== Sys2Proof/Machine/TraceOps.lean ====
section
/-!
DEFINITION. Acquisition, trigger sequencer and filter jobs (R385 to R398, R404).
-/
namespace Sys2Proof.Machine

/-! ## Signals -/

/-- Signal entry k, its index, code and reductions (Table 16.1). -/
def Trace.sigW (t : Trace) (k : Nat) : Word := Tbl.get 0 t.sig k
def sigIndex (w : Word) : Nat := fld w 7 0
def sigCode (w : Word) : Nat := fld w 13 8
def sigRed (w : Word) : Nat := fld w 20 16

/-- Indexes a code admits (Tables 16.1 and 16.2). -/
def sigRange (code : Nat) : Nat :=
  if code = 0 then 0
  else if code ≤ 0x10 || code = 0x19 || code = 0x13 || code = 0x14 then 256
  else if code = 0x11 || code = 0x12 || code = 0x15 || code = 0x16 then 16
  else if code = 0x17 then 4
  else if code = 0x18 then 1
  else if code = 0x1A then 2
  else 0

/-- The checks of a signal entry (R386). -/
def sigOk (w : Word) : Bool :=
  within w 0x1F3FFF && decide (sigIndex w < sigRange (sigCode w)) && sigRed w != 0 && (sigCode w != 0x17 || sigRed w == 1)

/-- The listed signals. -/
def Trace.sigs (t : Trace) : List Word := (List.range (fld t.c2 6 0)).map t.sigW

def low32 (v : Int) : Int := sgn 32 (ubits 32 v)

/-- Velocity feedback of an axis as its loop takes it (R174). -/
def Axis.vFb (x : Axis) : Int := x.fb.vel

/-- Value of a signal, read at the boundary that ends the cycle (Table 16.2); `ev`: the events since the last sample. -/
def State.sigValue (s : State) (ev : Nat) (w : Word) : Int :=
  let x := s.ax (sigIndex w)
  let k := sigIndex w
  match sigCode w with
  | 0x01 => low32 (x.gen.pRef / 4294967296)
  | 0x02 => x.gen.vRef
  | 0x03 => x.gen.aRef
  | 0x04 => low32 (x.fb.pos / 4294967296)
  | 0x05 => x.vFb
  | 0x06 => if x.isCur then 0 else x.rel.target
  | 0x07 => if x.isCur then low32 (at_ 16 x.curst.dutyA + x.curst.dutyB : Nat) else x.rel.ff1
  | 0x08 => x.obs.ep
  | 0x09 => x.obs.ev
  | 0x0A => x.loop.i
  | 0x0B => x.obs.y
  | 0x0C => x.obs.ia
  | 0x0D => x.obs.ib
  | 0x0E => x.obs.id
  | 0x0F => x.obs.iq
  | 0x10 => x.curst.iqRef
  | 0x11 => (s.fbp k).res.pos.toInt
  | 0x12 => (s.fbp k).res.vel.toInt
  | 0x13 => sgn 24 (fld (Tbl.get 0 s.pins.convS.res (2 * k)) 23 0)
  | 0x14 => sgn 24 (fld (Tbl.get 0 s.pins.convP.res (2 * k)) 23 0)
  | 0x15 => low32 (s.pin k).count
  | 0x16 => low32 (s.stp k).pos
  | 0x17 => sgn 32 (nfld ev (32 * k + 31) (32 * k))
  | 0x18 => s.room.slackLast
  | 0x19 => x.gen.st
  | 0x1A => ((s.ch k).hist.headD 0 : Nat)
  | _ => 0

/-- The signal comes from an axis whose item of cycle n did not complete (R387). -/
def State.sigHeld (s : State) (n : Nat) (w : Word) : Bool :=
  let x := s.ax (sigIndex w)
  let c := sigCode w
  if (decide (1 ≤ c) && decide (c ≤ 3)) || c == 0x19 then x.obs.profAt != n + 1
  else if 4 ≤ c && c ≤ 0x10 then x.obs.loopAt != n + 1
  else false

/-! ## Records -/

/-- Bytes of one signal's selected reductions (R389). -/
def redBytes (red : Nat) : Nat :=
  4 * (b2n (red.testBit 0) + b2n (red.testBit 1) + b2n (red.testBit 2) + b2n (red.testBit 3)) + 8 * b2n (red.testBit 4)

/-- L, C, m, d, P and Q (R387 to R390). -/
def Trace.recLen (t : Trace) : Nat := 16 + (t.sigs.map (fun w => redBytes (sigRed w))).sum
def Trace.slotCount (t : Trace) : Nat := 2097152 / t.recLen
def Trace.groupM (t : Trace) : Nat := fld t.c0 31 16
def Trace.divider (t : Trace) : Nat := fld t.c0 15 0
def Trace.preSlots (t : Trace) : Nat := (fld t.c1 23 0 + t.groupM - 1) / t.groupM

/-- A value enters the reductions of its signal (R388); the first of a group starts them. -/
def Reduce.add (r : Reduce) (first : Bool) (map : Bool) (v : Int) : Reduce :=
  if first then { last := v, min := v, max := v, sum := v, sq := v.natAbs * v.natAbs }
  else { last := if map then sgn 32 (ubits 32 r.last ||| ubits 32 v) else v, min := Min.min r.min v, max := Max.max r.max v
         sum := r.sum + v, sq := r.sq + v.natAbs * v.natAbs }

/-- Body bytes of one signal (R388, R389). -/
def Reduce.bytes (r : Reduce) (red m : Nat) : List Byte :=
  (if red.testBit 0 then leBytes 4 (ubits 32 r.last) else []) ++
  (if red.testBit 1 then leBytes 4 (ubits 32 r.min) else []) ++
  (if red.testBit 2 then leBytes 4 (ubits 32 r.max) else []) ++
  (if red.testBit 3 then leBytes 4 (ubits 32 (divRne r.sum m)) else []) ++
  (if red.testBit 4 then leBytes 8 (divRne (r.sq : Int) m).toNat else [])

/-- Room in the 16 KiB staging buffer for one more slot (R392). -/
def Trace.stageRoom (t : Trace) : Bool := decide ((t.stage.length + 1) * t.recLen ≤ 16384)

/-- A formed record, and a gap marker before it where records were skipped, go to staging (R392). -/
def Trace.stageRec (t : Trace) (r : StagedRec) : Trace :=
  let skip : Trace := match t.gap with
    | some g => { t with gap := some { g with skipped := g.skipped + 1, samples := g.samples + r.samples } }
    | none => { t with gap := some { gap := true, sample := r.sample, samples := r.samples, skipped := 1, time := r.time } }
  if !t.stageRoom then skip
  else
    match t.gap with
    | none => { t with stage := t.stage ++ [r] }
    | some g =>
      let t1 := { t with stage := t.stage ++ [g], gap := none }
      if t1.stageRoom then { t1 with stage := t1.stage ++ [r] }
      else { t1 with gap := some { gap := true, sample := r.sample, samples := r.samples, skipped := 1, time := r.time } }

/-- The sample enters its group; a full group forms a record (R388). -/
def Trace.gather (t : Trace) (vals : List Int) (held : Bool) (time : Nat) : Trace :=
  let first := t.groupN == 0
  let ws := t.sigs
  let g := (vals.zip ws).zipIdx.map (fun q => Reduce.add (t.group.getD q.2 {}) first (sigCode q.1.2 == 0x17) q.1.1)
  let h := held || (!first && t.groupHeld)
  let time0 := if first then time else t.groupTime
  let n := t.groupN + 1
  if t.groupM ≤ n then
    let body := (g.zip ws).flatMap (fun q => Reduce.bytes q.1 (sigRed q.2) t.groupM)
    ({ t with group := [], groupN := 0, groupHeld := false }).stageRec
      { sample := t.samples + 1 - n, samples := n, time := time0, held := h, body := body }
  else { t with group := g, groupN := n, groupHeld := h, groupTime := time0 }

/-! ## The sequencer -/

def Trace.stW (t : Trace) (k j : Nat) : Word := Tbl.get (if j = 2 then 0x00010001 else 0) t.trig (4 * k + j)

/-- States reachable from a state in at most `fuel` steps; FINAL states lead nowhere. -/
def Trace.reach (t : Trace) : Nat → Nat → List Nat
  | 0, k => [k]
  | fuel + 1, k => if bit (t.stW k 0) 19 then [k] else k :: t.reach fuel (fld (t.stW k 0) 18 16)

/-- The checks of sequencer states lo to hi - 1, and of a reachable FINAL (R393). -/
def Trace.trigOk (t : Trace) (lo hi : Nat) : Bool :=
  (List.range 8).all (fun k => decide (k < lo) || decide (hi ≤ k) ||
    (within (t.stW k 0) 0xFFFFF && decide (fld (t.stW k 0) 5 0 < fld t.c2 6 0) &&
     (fld (t.stW k 0) 8 6 == 0 || fld (t.stW k 0) 8 6 == 7 || sigCode (t.sigW (fld (t.stW k 0) 5 0)) != 0x17) &&
     fld (t.stW k 2) 15 0 != 0 && fld (t.stW k 2) 31 16 != 0)) &&
  (t.reach 8 0).any (fun k => bit (t.stW k 0) 19)

/-- Is the condition of state k true of a sample (R394)? -/
def Trace.holds (t : Trace) (k : Nat) (vals : List Int) (ev : Nat) : Bool :=
  let i := fld (t.stW k 0) 5 0
  let v := vals.getD i 0
  let p := t.seq.prev.getD i 0
  let x := (t.stW k 1).toInt
  match fld (t.stW k 0) 8 6 with
  | 0 => true
  | 1 => decide (v > x)
  | 2 => decide (v < x)
  | 3 => decide (v = x)
  | 4 => decide (v ≠ x)
  | 5 => !t.seq.first && decide (p < x) && decide (x ≤ v)
  | 6 => !t.seq.first && decide (p > x) && decide (v ≤ x)
  | _ => ev.testBit (fld (t.stW k 0) 15 9)

/-- One sample in the sequencer: its next state and whether it triggers (R394). -/
def Trace.evalSeq (t : Trace) (vals : List Int) (ev : Nat) : Sequencer × Bool :=
  let q := t.seq
  let k := q.st
  let delay := fld (t.stW k 3) 15 0
  let limit := fld (t.stW k 3) 31 16
  if q.age < delay then ({ q with age := q.age + 1 }, false)
  else
    let run := if t.holds k vals ev then q.run + 1 else 0
    let full := decide (fld (t.stW k 2) 15 0 ≤ run)
    let times := if full then q.times + 1 else q.times
    if full && decide (fld (t.stW k 2) 31 16 ≤ times) then
      if bit (t.stW k 0) 19 then ({ q with run := 0, times := 0 }, true)
      else ({ q with st := fld (t.stW k 0) 18 16, age := 0, run := 0, times := 0 }, false)
    else if limit ≠ 0 && decide (delay + limit ≤ q.age + 1) then ({ q with st := 0, age := 0, run := 0, times := 0 }, false)
    else ({ q with age := q.age + 1, run := if full then 0 else run, times := times }, false)

/-- A sample of cycle n, whose boundary is `bn`, is read (R387, R391, R394). -/
def State.traceSample (s : State) (n bn ev : Nat) : State :=
  let t := s.trace
  let vals := t.sigs.map (s.sigValue ev)
  let held := t.sigs.any (s.sigHeld n)
  let r := if t.st = 2 then t.evalSeq vals ev else (t.seq, false)
  let t1 := { t with seq := { r.1 with prev := vals, first := false } }
  let t2 := if r.2 then { t1 with st := 3, trigSample := some t.samples, trigTime := bn } else t1
  let t3 := t2.gather vals held bn
  let s1 : State := { s with trace := { t3 with samples := t.samples + 1 } }
  if r.2 then s1.raise 122 0 t.samples else s1

/-- The acquisition at the boundary that begins cycle m: its start, or the sample of the cycle that ended. `ev`: events raised
before this boundary since the last sample. -/
def State.traceBoundary (s : State) (m endedB ev : Nat) : State :=
  let t := s.trace
  if t.armNew then
    { s with trace := { t with armNew := false, nA := m, st := if t.preSlots = 0 then 2 else 1
                               seq := { first := true, live := t.preSlots == 0 } } }
  else if (t.st = 1 || t.st = 2 || t.st = 3) && decide (t.nA + 1 ≤ m) && (m - 1 - t.nA) % t.divider == 0 then
    s.traceSample (m - 1) endedB ev
  else s

/-- A sample was due at this boundary: the events it covers are done with. -/
def Trace.sampling (t : Trace) (m : Nat) : Bool :=
  t.armNew || ((t.st = 1 || t.st = 2 || t.st = 3) && decide (t.nA + 1 ≤ m) && (m - 1 - t.nA) % t.divider == 0)

/-- Arm afresh from slot 0 (R391). -/
def Trace.arm (t : Trace) : Trace :=
  { t with st := 1, armNew := true, samples := 0, group := [], groupN := 0, groupHeld := false, stage := [], gap := none, seq := {}
           slots := 0, gaps := 0, trigSample := none, trigTime := 0, trigSlot := none, events := 0 }

/-- Bytes of a slot (Table 16.3). -/
def Trace.slotData (t : Trace) (r : StagedRec) (trig : Bool) : List Byte :=
  let head : List Byte := [if r.gap then 2 else 1, BitVec.ofNat 8 (b2n trig + bitAt 1 (!trig && t.trigSlot.isNone) + bitAt 2 r.held)] ++
    leBytes 2 (if r.gap then min r.skipped 0xFFFF else fld t.c2 6 0) ++ leBytes 4 r.sample ++ leBytes 8 r.time
  if r.gap then head ++ List.replicate (t.recLen - 16) 0 else head ++ r.body

/-- The oldest staged record is written to the ring where A5 allows (R390, R392). -/
def State.traceWrite (s : State) : State :=
  let t := s.trace
  match t.stage with
  | [] => s
  | r :: rest =>
    match s.chargeBytes 5 t.recLen with
    | none => s.countDefer 5
    | some s1 =>
      let trig := t.trigSlot.isNone && (match t.trigSample with
        | some g => decide (g < r.sample + r.samples)
        | none => false)
      let slot := t.slots % t.slotCount
      let ts := if trig then some t.slots else t.trigSlot
      let done := match ts with
        | some k => t.st == 3 && decide (t.slotCount - t.preSlots - 1 ≤ t.slots - k)
        | none => false
      let t1 := { t with stage := if done then [] else rest, slots := t.slots + 1, gaps := t.gaps + b2n r.gap, trigSlot := ts
                         st := if done then 4 else if t.st = 1 && decide (t.preSlots ≤ t.slots + 1) then 2 else t.st
                         seq := if t.st = 1 && decide (t.preSlots ≤ t.slots + 1) then { t.seq with st := 0, age := 0, run := 0, times := 0, live := true } else t.seq }
      let s2 : State := { s1 with mem := { s1.mem with trace := s1.mem.trace.writeBytes (slot * t.recLen) (t.slotData r trig) }, trace := t1 }
      if done then s2.raise 123 0 (t1.slots - t1.gaps) else s2

/-! ## Filter jobs -/

def State.job (s : State) (j : Nat) : Job := Tbl.get {} s.jobs j
def State.setJob (s : State) (j : Nat) (b : Job) : State := { s with jobs := Tbl.put s.jobs j b }

/-- N, source bytes and destination bytes of a job (Table 16.6). -/
def Job.points (b : Job) : Nat := 2 ^ b.log2
def Job.srcSpan (b : Job) : Nat :=
  match b.kind with
  | 1 => if bit b.p5 1 then 8 * b.points else fld b.p4 15 0 * (b.points - 1) + 4
  | 2 => 8 * b.points
  | 3 => 4 * b.points
  | _ => fld b.p4 15 0 * (b.points - 1) + 4
def Job.dstMax (b : Job) : Nat :=
  match b.kind with
  | 1 => 8 * b.points
  | 2 => 4 * b.points
  | 3 => 48 * fld b.p5 2 0
  | _ => 16 * fld b.p4 20 16

/-- The ranges of a job start (R395, R397, Table 16.6); `cyc`: Tc in ns. -/
def Job.ok (b : Job) (w0 w1 : Word) (cyc : Nat) : Bool :=
  within w0 0xFF0F && within w1 0xF && decide (1 ≤ b.kind) && decide (b.kind ≤ 4) && decide (6 ≤ b.log2) && decide (b.log2 ≤ 14) &&
  decide (b.src < 0x400000) && decide (0x200000 ≤ b.dst) && decide (b.dst + b.dstMax ≤ 0x400000) &&
  (decide (b.src < 0x200000) || decide (b.src + b.srcSpan ≤ 0x400000)) &&
  (match b.kind with
   | 1 => within b.p5 3 && fld b.p4 31 16 == 0 && (bit b.p5 1 || (decide (4 ≤ fld b.p4 15 0) && fld b.p4 15 0 % 4 == 0))
   | 2 => decide (0x200000 ≤ b.src) && decide (0 < b.p4.toInt) && decide (fld b.p5 15 0 < fld b.p5 31 16) &&
          decide (fld b.p5 31 16 * cyc * 10 ≤ 4 * 1000000000)
   | 3 => fld b.p4 31 16 == 0 && within b.p5 0x3F && decide (1 ≤ fld b.p5 2 0) && decide (fld b.p5 2 0 ≤ 4) &&
          decide (1 ≤ fld b.p5 5 3) && decide (fld b.p5 5 3 ≤ 4)
   | _ => within b.p4 0x1FFFFF && decide (4 ≤ fld b.p4 15 0) && fld b.p4 15 0 % 4 == 0 && decide (1 ≤ fld b.p4 20 16) &&
          decide (fld b.p5 31 16 ≠ 0) &&
          -- the highest centre is f × 2^((bands - 1) / 3), at most 0.4 of the source sample rate: both sides to the third power
          decide ((fld b.p5 15 0 * cyc * fld b.p5 31 16 * 10) ^ 3 * 2 ^ (fld b.p4 20 16 - 1) ≤ (4 * 1000000000) ^ 3))

/-- Chunks of a job (R395): of an FFT gather, butterflies and normalising; the other kinds' are not given. -/
def Job.chunkTotal (b : Job) : Nat :=
  if b.kind = 1 then 2 * ((b.points + 1023) / 1024) + (b.log2 * (b.points / 2) + 1023) / 1024
  else Config.filterChunks b.kind b.log2 b.p4 b.p5

/-- Source bytes; an address that passes the end of the trace buffer from inside wraps (R395). -/
def State.jobSource (s : State) (b : Job) : List Byte :=
  (List.range b.srcSpan).map (fun i => s.mem.trace.read (if b.src < 0x200000 then (b.src + i) % 0x200000 else b.src + i))

/-- Post the next chunk of a job that holds the engine (R395, R398). -/
def State.postChunk (s : State) (j : Nat) : State :=
  let b := s.job j
  if b.st ≠ 1 || b.posted || (s.arb.get 0).holder ≠ some (j + 2) || (b.kind = 2 && decide (b.chirpDone < b.points)) then s
  else
    (s.setJob j { b with posted := true }).addItem
      { kind := .filter, level := 3, flow := some (j + 4), fseq := b.chunks, charge := 4500, arg := j + at_ 8 b.chunks
        deadline := s.now + Config.chunkTime j b.chunks, posted := s.now, cycle := s.clk.cycle }

/-- The holder of the filter engine starts or goes on (R397, R398). -/
def State.runHolder (s : State) : State :=
  match (s.arb.get 0).holder with
  | some w =>
    if w < 2 || !s.jobs.any (fun p => p.1 == w - 2) then s
    else
      let b := s.job (w - 2)
      (s.setJob (w - 2) { b with st := if b.st = 0 then 1 else b.st, granted := true }).postChunk (w - 2)
  | none => s

/-- A cut-off job without a running chunk drops its request and raises a new one (R401). -/
def State.reraise (s : State) (j : Nat) : State :=
  if (s.arb.get 0).ignored.contains (j + 2) && decide ((s.job j).st < 2) && !(s.job j).posted then
    (({ s with arb := s.arb.drop (j + 2) } : State).arbRaise 0 (j + 2))
  else s

/-- The values a job takes from its source are all zero (Table 16.6); so is then the transform of kind 1 and every mean square of
kind 4. -/
def Job.silent (b : Job) (src : List Byte) : Bool :=
  let step := if b.kind = 1 && bit b.p5 1 then 4 else fld b.p4 15 0
  (b.kind == 1 || b.kind == 4) &&
    (List.range (if b.kind = 1 && bit b.p5 1 then 2 * b.points else b.points)).all (fun i => ((src.drop (step * i)).take 4).all (· == 0))

/-- Component i of a job's result before the final shift (R396). -/
def Job.raw (b : Job) (src : List Byte) (i : Nat) : Int :=
  if b.silent src then 0 else Config.filterRaw b.kind b.log2 b.p4 b.p5 src i

/-- Binary places by which a block whose largest magnitude is `m` is shifted at the end: the magnitude then lies in 2^30 to
2^31 - 1 (R396). -/
def endShift (m : Nat) : Int := if m = 0 then 0 else (Nat.log2 m : Int) - 30

/-- A value shifted right by `k` places, toward zero. -/
def shiftPlaces (v k : Int) : Int := if k ≤ 0 then v * 2 ^ k.natAbs else v.tdiv (2 ^ k.natAbs)

/-- The largest r below 2^b above `r` with r³ ≤ n, bit by bit. -/
def icbrtFrom (n : Nat) : Nat → Nat → Nat
  | 0, r => r
  | b + 1, r => icbrtFrom n b (if (r + 2 ^ b) ^ 3 ≤ n then r + 2 ^ b else r)

/-- Centre of band k of a filter bank whose lowest centre is `f` Hz: third octaves, in Q16.16, one of the two values next to the real
one (Table 16.6). -/
def bandCentre (f k : Nat) : Nat :=
  let n := (f * 65536) ^ 3 * 2 ^ k
  let r := icbrtFrom n 44 0
  if r ^ 3 = n then r else if Config.roundUp n 3 then r + 1 else r

/-- The result of a job: its bytes and its block exponent (R396, Table 16.6). -/
def Job.result (b : Job) (src : List Byte) : List Byte × Int :=
  if b.kind = 3 then
    ((List.range (48 * min (fld b.p5 2 0) (Config.filterPeaks b.p4 b.p5 src))).map (Config.filterByte b.kind b.log2 b.chunks b.p4 b.p5 src), 0)
  else if b.kind = 4 then
    let sq := (List.range (fld b.p4 20 16)).map (fun k => (b.raw src k).natAbs)
    (sq.zipIdx.flatMap (fun q => leBytes 4 (bandCentre (fld b.p5 15 0) q.2) ++ [0, 0, 0, 0] ++ leBytes 8 (q.1 % 2 ^ 64)),
      if sq.all (· == 0) then 0 else Config.filterExp b.kind b.log2 src)
  else
    let l := (List.range (b.dstMax / 4)).map (b.raw src)
    let m := l.foldl (fun m v => max m v.natAbs) 0
    (l.flatMap (fun v => leBytes 4 (ubits 32 (shiftPlaces v (endShift m)))),
      if m = 0 then 0 else Config.filterExp b.kind b.log2 src + endShift m)

/-- A chunk of job j is complete (R395, R396, R398). -/
def State.chunkDone (s : State) (j : Nat) : State :=
  let b := s.job j
  let src := s.jobSource b
  let last := decide (b.total ≤ b.chunks + 1)
  let r := if last then b.result src else ((List.range b.dstMax).map (Config.filterByte b.kind b.log2 b.chunks b.p4 b.p5 src), 0)
  let bytes := r.1
  let b1 := { b with chunks := b.chunks + 1, posted := false, len := if last then bytes.length else 0, exp := r.2 }
  let s1 : State := { s.setJob j b1 with mem := { s.mem with trace := s.mem.trace.writeBytes b.dst bytes } }
  if last then s1.endJob j 2
  else if b.stopping then s1.endJob j 3
  else (s1.reraise j).postChunk j

/-- Chirps at the boundary of cycle m: one begins at the first boundary after the grant, one that has run N cycles gives way to
the job's chunks, and the axes take what they inject (R397). -/
def State.chirpBoundary (s : State) (m : Nat) : State :=
  let js := s.jobs.map (fun p =>
    if p.2.kind = 2 && p.2.st = 1 then
      match p.2.chirp with
      | none => (p.1, { p.2 with chirp := some m, chirpDone := 0 })
      | some n0 => (p.1, { p.2 with chirpDone := min p.2.points (m - n0) })
    else p)
  let inj (i : Nat) : Option Inject :=
    (js.find? (fun p => p.2.kind == 2 && p.2.st == 1 && !p.2.stopping && p.2.axis == i && decide (p.2.chirpDone < p.2.points))).map (fun p =>
      { n0 := p.2.chirp.getD m, n := p.2.points, amp := p.2.p4.toInt, f := p.2.p5, area := p.2.src })
  let s1 : State := { s with jobs := js, axes := s.axes.map (fun p => (p.1, { p.2 with inj := inj p.1 })) }
  js.foldl (fun t p => t.postChunk p.1) s1

/-- u(n) and v_fb go into the capture area: two words a cycle. -/
def State.capture (s : State) (q : Inject) (k : Nat) (u v : Int) : State :=
  { s with mem := { s.mem with trace := (s.mem.trace.writeWord (q.area + 8 * k) (wdi u)).writeWord (q.area + 8 * k + 4) (wdi v) } }

end Sys2Proof.Machine
end

