-- ==== Sys2Proof/Machine/CompOps.lean ====
section
/-!
DEFINITION. What the completion of a work item does: loop templates, profile steps, current loops, filter chunks (R20, R21,
R143, R147, R164, R172 to R176, R191, R198, R253).
-/
namespace Sys2Proof.Machine

/-- The counters of a completed loop item (Table 6.13); `usat` the first saturation of the axis in the cycle. -/
def AxisCounters.count (c : AxisCounters) (held usat isat : Bool) : AxisCounters :=
  { c with held := if held then cadd c.held 1 else c.held, usat := if usat then cadd c.usat 1 else c.usat
           isat := if isat then cadd c.isat 1 else c.isat }

/-- A cycle with a saturation counts once in `LCNT.USAT` (R147, Table 6.13). -/
def Axis.noteSat (x : Axis) (sat : Bool) (n : Nat) : Axis :=
  if sat && x.usatAt != n + 1 then { x with usatAt := n + 1, cnt := x.cnt.count false true false } else x

/-- The record as it stood before an item on a candidate of this cycle writes it (R19). -/
def Axis.keepUndo (x : Axis) (it : Item) (n : Nat) : Axis :=
  if it.copyB.isSome && it.cycle = n && x.undo.isNone then { x with undo := some { loop := x.loop, curst := x.curst, rel := x.rel } } else x

/-- The chirp of the axis is added to y before the envelope, and captured (R397). -/
def State.inject (s : State) (it : Item) (r : Result) : State × Result :=
  match (s.ax it.axis).inj with
  | none => (s, r)
  | some q =>
    if it.cycle < q.n0 || q.n ≤ it.cycle - q.n0 then (s, r)
    else
      let u := chirpAt q.amp (fld q.f 15 0) (fld q.f 31 16) q.n (it.cycle - q.n0) s.tc
      (s.capture q (it.cycle - q.n0) u it.view.vel, { r with target := if r.mode = 1 then r.target + u else satS 32 (r.target + u) })

/-- A result of an item that ran across the boundary of a shift between G2 and G3 is in the units of the new gear (R54). -/
def Item.inUnits (it : Item) (r : Result) : Result × Bool :=
  match it.units with
  | some up => r.rescale up
  | none => (r, false)

/-- An AXIS_UPDATE of a chain or local axis completes (R143, R21). -/
def State.completeAxis (s : State) (it : Item) : State :=
  let x := (s.ax it.axis).keepUndo it s.clk.cycle
  let o := runTemplate x.template it.set x.out it.ls it.inp
  let y := x.noteSat o.usat it.cycle
  let s0 := s.setAx it.axis { y with
    loop := o.st, cnt := y.cnt.count it.held false o.isat, fb := { x.fb with held := it.held }
    obs := { x.obs with ep := o.ep, ev := o.ev, y := sgn 32 (ubits 32 o.res.target), loopAt := it.cycle + 1 } }
  let j := s0.inject it o.res
  let u := it.inUnits j.2
  match j.1.envelope it.axis x.out u.1 with
  | none => (((j.1.noteEnd it).delItem it).markFlow it).accountOf it
  | some (r, clamped) =>
    let s1 := if clamped || u.2 then j.1.countClamp it.axis else j.1
    let s2 := s1.noteEnd it
    if it.flow.isSome then s2.putItem it { it with stage := .done, result := r }
    else ((s2.delItem it).releaseLocal it.axis r).accountOf it

/-- The outer item of a current-loop axis completes: y becomes the q reference of the next cycle (R172 to R175). -/
def State.completeOuter (s : State) (it : Item) : State :=
  let x := (s.ax it.axis).keepUndo it s.clk.cycle
  let o := runTemplate x.outer it.set 0 it.ls it.inp
  let z := x.noteSat o.usat it.cycle
  let s0 := s.setAx it.axis { z with
    loop := o.st, cnt := z.cnt.count false false o.isat
    obs := { x.obs with ep := o.ep, ev := o.ev, y := o.res.target } }
  let j := s0.inject it o.res
  match j.1.envelope it.axis 0 j.2 with
  | none => (((j.1.noteEnd it).delItem it)).accountOf it
  | some (r, clamped) =>
    let s1 := if clamped then j.1.countClamp it.axis else j.1
    let s2 := s1.updAx it.axis (fun a => { a with
      curst := { a.curst with yNext := some r.target }
      rel := { a.rel with mode := r.mode, target := r.target, ff1 := 0, ff2 := 0, valid := true } })
    ((s2.noteEnd it).delItem it).accountOf it

/-- A CURRENT_UPDATE completes: duties for the spoke, then the outer item (R172, R173, R176, R250). -/
def State.completeCurrent (s : State) (it : Item) : State :=
  let x := (s.ax it.axis).keepUndo it s.clk.cycle
  let o := runT4 it.set it.cs (it.cs.iqRefOf it.set x.outer) it.fb.vel it.view.pos
  let z := x.noteSat o.sat it.cycle
  let s0 := s.setAx it.axis { z with
    curst := { o.st with yNext := x.curst.yNext, y := x.curst.y, iqCopied := x.curst.iqCopied, dutyA := x.curst.dutyA
                         dutyB := x.curst.dutyB, dutyC := x.curst.dutyC }
    fb := { x.fb with held := false }
    obs := { x.obs with ia := o.ia, ib := o.ib, id := o.id, iq := o.iq, loopAt := it.cycle + 1 } }
  let r : Result := { mode := 4, ff1 := (at_ 16 o.dutyA + o.dutyB : Nat), ff2 := (at_ 16 o.dutyC : Nat) }
  let s1 := (s0.noteEnd it).putItem it { it with stage := .done, result := r }
  if x.outer = 0 then s1 else s1.post_ (s1.outerItem it)

/-- Items of axis i of an earlier cycle that have not started keep the set-point of their own cycle (R20). -/
def Item.keepSp (it : Item) (i n : Nat) (g : Gen) : Item :=
  if it.axis = i && decide (it.level ≤ 1) && decide (it.cycle < n) && it.sp.isNone then
    { it with sp := some { p := g.pRef, v := g.vRef, a := g.aRef } }
  else it

/-- A PROFILE_STEP completes: the set-point of its cycle, then items that waited for it (R20, R197, R198). -/
def State.completeProfile (s : State) (it : Item) : State :=
  let i := it.axis
  let x := s.ax i
  let o := x.profileStep (s.pulseView x) (s.clk.b it.cycle) s.tc it.cycle
  let s0 := s.delItem it
  let s1 := ({ s0 with sched := { s0.sched with items := s0.sched.items.map (fun y => y.keepSp i it.cycle x.gen) } } : State).setAx i
    ({ o.ax with obs := { o.ax.obs with profAt := it.cycle + 1 } }.noteSat o.sat it.cycle)
  let s2 := s1.profEvents i o.ev
  (if o.ax.pgen = x.pgen then s2 else s2.markChanged i).tryWant i

/-- The measured occupancy replaces the reservation, in the cycle of the dispatch (R35, R36); an overrun leaves the budget below 0. -/
def State.chargeMeasured (s : State) (it : Item) (since occ : Nat) : State :=
  let a := it.kind.act
  let b := s.budget
  if s.bNow ≤ since || !s.counting then
    { s with budget := { b with left := Tbl.put b.left a (Tbl.get 0 b.left a + (it.charge : Int) - (occ : Int))
                                now := Tbl.put b.now a (Tbl.get 0 b.now a + occ) } }
  else
    let u := Tbl.get 0 b.used a + occ
    { s with budget := { b with used := Tbl.put b.used a u, run := Tbl.put b.run a (max (Tbl.get 0 b.run a) u) } }

/-- The item of an executor completes (R143, R144, R191). -/
def State.complete (s : State) (x : Executor) (it : Item) (since occ : Nat) (residueOk : Bool) : State :=
  let k := match x with
    | .core k => k.val
    | _ => 16
  let s1 := s.chargeMeasured it since occ
  let s2 : State := { s1 with sched := { s1.sched with idleSince := Tbl.put s1.sched.idleSince k s1.now } }
  let core := decide (it.level ≤ 2)
  if core && !residueOk then s2.fence k 1 none
  else if it.dead then (s2.delItem it).closeOld
  else if core && (s2.ax it.axis).discards it.level then ((((s2.delItem it).markFlow it).noteEnd it).accountOf it).closeOld
  else
    match it.kind with
    | .axis => (s2.completeAxis it).closeOld
    | .outer => (s2.completeOuter it).closeOld
    | .current => (s2.completeCurrent it).closeOld
    | .profile => s2.completeProfile it
    | .filter => s2.putItem it { it with stage := .done }
    | .house => s2.delItem it

/-- The release unit releases the next result of a flow (R189, R190). No work item belongs to flow 3: acquisition records wait in the
staging buffer and leave it in sample order (R390). A chunk's result leaves when it is released. -/
def State.releaseFlow (s : State) (f : Nat) : State :=
  if f < 2 then
    match s.releasable f with
    | none => s
    | some x => (((s.releaseChain x).delItem x).markFlow x).accountOf x
  else if f = 2 then s.tryClose
  else if f = 3 then s
  else
    match s.sched.items.find? (fun x => x.flow == some f && x.stage == .done && x.fseq == Tbl.get 0 s.sched.heads f) with
    | none => s
    | some x => ((s.delItem x).markFlow x).chunkDone (f - 4)

/-- What runs on an executor: the item and when it started. -/
def State.runningOn (s : State) (x : Executor) : Option (Item × Nat) :=
  s.sched.items.findSome? (fun it => match it.stage with
    | .running y t => if y = x then some (it, t) else none
    | _ => none)

end Sys2Proof.Machine
end

