-- ==== Sys2Proof/Machine/Mailbox.lean ====
section
/-!
DEFINITION. The mailbox: what a host command is, the order of its checks, taking a command and answering it (chapter 14,
R367 to R373).
-/
namespace Sys2Proof.Machine

/-! ## The selector word (Table 15.1) -/

def selItem (p : List Word) : Nat := fld (pw p 0) 7 0
def selChain (p : List Word) : Nat := fld (pw p 0) 8 8
def selSub (p : List Word) : Nat := fld (pw p 0) 10 9
def selActive (p : List Word) : Bool := bit (pw p 0) 11
def selCount (p : List Word) : Nat := fld (pw p 0) 21 16
def selClear (p : List Word) : Bool := bit (pw p 0) 31

/-- Fields of the selector, as masks: a command names those it uses; the others are reserved for it (R369). -/
def mItem : Nat := 0xFF
def mChain : Nat := 0x100
def mSub : Nat := 0x600
def mActive : Nat := 0x800
def mCount : Nat := 0x3F0000
def mClear : Nat := 0x80000000

/-- The selector uses only the fields of a mask. -/
def selOk (p : List Word) (mask : Nat) : Bool := within (pw p 0) mask

/-- A ranged selector: n from 1 to `max`, within a table of `size` entries. -/
def rangeOk (p : List Word) (max size : Nat) : Bool :=
  decide (1 ≤ selCount p) && decide (selCount p ≤ max) && decide (selItem p + selCount p ≤ size)

/-! ## Host commands -/

/-- What a command's body answers: a status with a payload in a state, or a response still to come ("at completion"). -/
inductive Answer where
  | done (status : Nat) (p : List Word) (s : State)
  | wait (s : State)
  deriving DecidableEq, Repr

/-- OK with a payload. -/
def ok (s : State) (p : List Word := []) : Answer := .done 0 p s

/-- A refusal: no effect, no payload (R356). -/
def refuse (s : State) (status : Nat) : Answer := .done status [] s

/-- A host command of the catalogue. -/
structure HostCmd where
  opcode : Nat
  /-- Marked "(lead)" (R371). -/
  lead : Bool := false
  /-- Letters of the Modes column (R370). -/
  modes : List Mode := [.configure, .syncUp, .runActive, .runStandby, .safeHold]
  /-- Marked L. -/
  loader : Bool := false
  /-- Marked †. -/
  hold : Bool := false
  /-- Refused on a standby (R310). -/
  standby : Bool := false
  /-- A configuration change that the active forwards to its twin (R305). -/
  config : Bool := false
  /-- Payload length, ranges and reserved bits (R356, R8). -/
  valid : List Word → Bool
  /-- Refusals specific to the command, and its effect. -/
  run : MsgRef → List Word → State → Answer

/-- Modes of the column letters. -/
def mAll : List Mode := [.configure, .syncUp, .runActive, .runStandby, .safeHold]
def mC : List Mode := [.configure]
def mCA : List Mode := [.configure, .runActive]
def mA : List Mode := [.runActive]
def mAH : List Mode := [.runActive, .safeHold]
def mCAH : List Mode := [.configure, .runActive, .safeHold]
def mSAH : List Mode := [.syncUp, .runActive, .safeHold]

/-- The mode check of R370: 0 where the command may run. -/
def HostCmd.modeStatus (c : HostCmd) (m : Mode) : Nat :=
  if m = .boot then (if c.loader then 0 else stWrongMode)
  else if m = .runStandby && c.standby then stNotActive
  else if m = .safeHold && c.hold then stSafeHold
  else if c.modes.contains m then 0 else stWrongMode

/-- Members a command may name: those of `CLU.MEMBERS` that have joined, and the device itself (R312). -/
def State.memberOk (s : State) (m : Nat) : Bool := m == s.straps.cid || (bit s.clu.cfg m && s.clu.joined.testBit m)

/-- The header check of Table 14.8. -/
def headerOk (c : HostCmd) (h : Hdr) (s : State) : Bool :=
  h.rsv == 0 && s.memberOk h.target.val && (!c.lead || h.target.val == s.straps.cid)

/-- Effective cycle in an answer's payload: words 0 and 1 of a commit's response, 0 for a change at once. -/
def Answer.effect : List Word → Nat
  | [a, b] => w64 a b
  | _ => 0

/-- Members of the cluster that have joined, the device itself left out. -/
def State.others (s : State) : Nat :=
  ofBits ((setBits 4 (fld s.clu.cfg 3 0)).filter (fun m => s.clu.joined.testBit m && m != s.straps.cid))

/-- The specific checks and the effect of a command; an accepted change of the configuration is forwarded to the twin (R305), a
late one raises event 43 (R372). -/
def HostCmd.carry (c : HostCmd) (r : MsgRef) (p : List Word) (s : State) : Answer :=
  match c.run r p s with
  | .done st q t =>
    let t1 := if c.config && (st == stOk || st == stCommitLate) then t.forward c.opcode p (Answer.effect q) else t
    .done st q (if st = stCommitLate then t1.raise 43 c.opcode (Answer.effect q) else t1)
  | .wait t => .wait t

/-- An answer accepts the command. -/
def Answer.accepts : Answer → Bool
  | .done st _ _ => st == stOk || st == stCommitLate
  | .wait _ => true

/-- A lead command of a cluster with members: the lead's own refusal first, then the members are asked (R52, R371); one at a
time. -/
def HostCmd.gatherStart (c : HostCmd) (r : MsgRef) (p : List Word) (s : State) : Answer :=
  match c.run r p s with
  | .done st q t =>
    if st == stOk || st == stCommitLate then
      if s.clu.gather.isSome then refuse s stBusy
      else .wait (({ s with clu := { s.clu with gather := some { ref := r, waiting := s.others, request := wd c.opcode :: p }
                                                lastOrder := wd c.opcode :: p } } : State).arbRaise 3 0)
    else .done st q t
  | .wait _ =>
    if s.clu.gather.isSome then refuse s stBusy
    else .wait (({ s with clu := { s.clu with gather := some { ref := r, waiting := s.others, request := wd c.opcode :: p }
                                              lastOrder := wd c.opcode :: p } } : State).arbRaise 3 0)

/-- The mode, payload and specific checks and the effect of a command on the device that executes it (R356, R372). -/
def HostCmd.execute (c : HostCmd) (r : MsgRef) (p : List Word) (s : State) : Answer :=
  let m := c.modeStatus s.md.mode
  if m ≠ 0 then refuse s m
  else if !c.valid p then refuse s stBadArg
  else if c.lead && !r.viaBridge && decide (s.others ≠ 0) then c.gatherStart r p s
  else c.carry r p s

/-- An answer is written, or awaited. -/
def Answer.finish (a : Answer) (r : MsgRef) : State :=
  match a with
  | .done st q t => t.respond r st q
  | .wait t => t

/-- Header words of a command entry (Table 14.6). -/
def hdrWords (op : Nat) (h : Hdr) : List Word :=
  [wd (op + at_ 16 h.tag.toNat + at_ 24 h.len.toNat), wd (h.target.val + bitAt 2 h.fence + bitAt 3 h.quiet + at_ 4 h.rsv.toNat)]

/-- The reference of a taken command. -/
def refOf (op : Nat) (h : Hdr) : MsgRef := { opcode := op, tag := h.tag, quiet := h.quiet, lag := h.lag, cfgDiffer := h.cfgDiffer, queued := h.queued }

/-- A command is taken (R354): the head index advances and a response slot is reserved. -/
def State.takeSlot (s : State) : State :=
  { s with host := { s.host with cmdHead := (s.host.cmdHead + 1) % 128, reserved := s.host.reserved + 1 } }

/-- A taken command goes through the checks of Table 14.8 in order. -/
def HostCmd.taken (c : HostCmd) (h : Hdr) (p : List Word) (s : State) : State :=
  let r := refOf c.opcode h
  if !s.straps.lead then s.respond r stNotLead []
  else if h.len.toNat > 62 then s.respond r stLenTooLong []
  else if !headerOk c h s then s.respond r stBadArg []
  else if h.target.val ≠ s.straps.cid then
    ({ s with clu := { s.clu with out := s.clu.out ++ [{ ref := r, member := h.target.val }] } } : State).arbRaise 3 0
  else (c.execute r p s).finish r

/-- Commands waiting in the queue. -/
def HostPort.cmdCount (h : HostPort) : Nat := (h.cmdTail + 128 - h.cmdHead) % 128

/-- Response slots reserved or holding unconsumed responses (R354). -/
def HostPort.slotsUsed (h : HostPort) : Nat := h.reserved + (h.rspTail + 128 - h.rspHead) % 128

/-- The command at the head may be taken: a response slot is free, and a fenced command waits for every earlier response
(R354, R355). -/
def State.canTake (s : State) (fence : Bool) : Bool :=
  decide (s.host.slotsUsed < 64) && (!fence || s.host.reserved == 0)

/-- The mailbox serves its queues (R361, R364). -/
def State.served (s : State) : Bool := s.host.mbxReady

/-- Payload of an entry as the device reads it: the words the host wrote, and what the slot held beyond them. -/
def entryPayload (mem : Tbl Word) (slot : Nat) (len : Nat) (p : List Word) : List Word :=
  p.take len ++ Tbl.getRange 0 mem (64 * slot + 2 + p.length) (len - p.length)

/-- Bytes held of QSPI writes. -/
def PortData.qspiBytes (p : PortData) : Nat := (p.qspiHeld.map (fun x => x.2.length)).sum

/-- A QSPI write waits behind the others, up to 512 bytes in all; beyond that its bytes are discarded (R351). -/
def State.qspiHold (s : State) (addr : Nat) (bs : List Byte) : State :=
  let room := 512 - s.port.qspiBytes
  { s with port := { s.port with qspiHeld := s.port.qspiHeld ++ [(addr, bs.take room)] }
           host := { s.host with qspiDrop := s.host.qspiDrop || decide (room < bs.length) } }

/-- Doorbells that wait behind held accesses (R351). -/
def PortData.heldBells (p : PortData) : Nat :=
  (p.pcieHeld.filter (fun a => !a.bar2 && a.addr == 0x10 && a.write.isSome)).length + (p.qspiHeld.filter (fun x => x.1 == 0x10)).length

/-- Bytes of the entry that the host writes for a command with payload `p`. -/
def entryBytes (p : List Word) : Nat := 8 + 4 * min p.length 62

/-- The entry of a command waits for A6: earlier accesses wait, or its bytes do not fit (R351). -/
def State.entryWaits (s : State) (p : List Word) : Bool :=
  !(s.port.pcieHeld.isEmpty && s.port.qspiHeld.isEmpty) || !s.hostFits (entryBytes p)

/-- The words of an entry that fit A6 land; the rest and the doorbell wait as accesses of the port (R37, R351). -/
def State.holdEntry (s : State) (ws : List Word) : State :=
  let tail := (s.host.cmdTail + s.port.heldBells) % 128
  let first := s.port.pcieHeld.isEmpty && s.port.qspiHeld.isEmpty
  let k := if first then s.hostPart 0 (4 * ws.length) / 4 else 0
  let a : BitVec 24 := BitVec.ofNat 24 (0x2000 + 256 * (tail % 64) + 4 * k)
  let bs := (ws.drop k).flatMap wordBytes
  let bell := wordBytes (wd ((tail + 1) % 128))
  let t := if first then (if k = 0 then s else s.bar0Write).countDefer 6 else s
  let u : State := { t with budget := t.hostSpend (4 * k)
                            host := { t.host with cmdMem := Tbl.putRange t.host.cmdMem (64 * (tail % 64)) (ws.take k) } }
  if s.straps.hsel then (u.qspiHold a.toNat bs).qspiHold 0x10 bell
  else { u with port := { u.port with pcieHeld := u.port.pcieHeld ++ [{ addr := a, write := some bs }, { addr := 0x10, write := some bell }] } }

/-- The host writes a command into the next free entry and rings the doorbell (R352 to R354). A write while the queues are not
served is ignored (R361); one that would overfill the queue is ignored and sets `HS.DB_ERR` (R353). The command is taken at
once when it stands at the head and may be taken; otherwise it waits in the queue. Both are writes to BAR0 (R254), and the
entry's bytes are charged to A6 (R351). -/
def hostCommand (c : HostCmd) (h : Hdr) (p : List Word) (s0 : State) : State :=
  let s := s0.bar0Write
  if !s.served then s
  else if s.host.cmdCount = 64 then { s with host := { s.host with dbErr := true } }
  else if s0.entryWaits p then s0.holdEntry (hdrWords c.opcode h ++ p.take 62)
  else
    let slot := s.host.cmdTail % 64
    let pay := entryPayload s.host.cmdMem slot h.len.toNat p
    let s1 : State := { s with budget := s.hostSpend (entryBytes p), host := { s.host with
      cmdMem := Tbl.putRange s.host.cmdMem (64 * slot) (hdrWords c.opcode h ++ p.take 62), cmdTail := (s.host.cmdTail + 1) % 128 } }
    if s.host.cmdCount = 0 && s.canTake h.fence then c.taken h pay s1.takeSlot else s1

/-- A forwarded command reaches a member over the bridge and is executed there (R312): no lead or header check, and the
response goes back the same way. -/
def HostCmd.bridged (c : HostCmd) (h : Hdr) (p : List Word) (s : State) : State :=
  let r : MsgRef := { refOf c.opcode h with viaBridge := true }
  (c.execute r (p.take h.len.toNat) s).finish r

end Sys2Proof.Machine
end

