-- ==== Sys2Proof/Machine/CmdAxis.lean ====
section
/-!
DEFINITION. AXIS commands (R86, R150, R151, R157, R163, R170, R197, R204, R206, R211, R215, R233, R268, R377, R461, Table 15.8).
-/
namespace Sys2Proof.Machine

/-- Selector of one item. -/
def itemSel (p : List Word) : Bool := selOk p mItem

/-- The active coefficient set serves the gear in force (R461). -/
def Axis.setFits (x : Axis) (gear : Nat) : Bool := !x.usesSet || (x.act.ready && x.act.gear == gear)

/-- What an enable asks of the axis's configuration (R163, R211, R233, R461). -/
def State.enableOk (s : State) (i : Nat) : Bool :=
  let x := s.ax i
  x.template != 0 && x.setFits s.clk.gear && s.axisFits s.ch0.active.map s.ch1.active.map s.clk.gear i x &&
  (!x.softOn || x.softRate != 0) && x.prf0 != 0 && x.prf1 != 0 && x.readsPorts.all (fun n => !(s.fbp n).zClear)

/-- The ports an enabled axis reads start with their first word or latch (R226, R231, R234). -/
def State.freshPorts (s : State) (i : Nat) : State :=
  (s.ax i).readsPorts.foldl (fun t n => t.setFb n { t.fbp n with first := true, goodPrev := false, firstLatch := true }) s

/-- AXIS.ENABLE (R461). An axis that is enabled stays as it is. The enable of a streamed, converter or pulse axis would start motion
while a standstill shift is pending (R49). -/
def axisEnableCmd : HostCmd :=
  { opcode := 0x0701, modes := mA, hold := true
    valid := fun p => p.length == 1 && itemSel p
    run := fun _ p s =>
      let i := selItem p
      if !s.enableOk i then refuse s stBadArg
      else if decide (32 < s.curAxes.length) then refuse s stNoResource
      else if s.inSto i then refuse s stSafeHold
      else if (s.ax i).enabled then ok s
      else if (s.ax i).srcSel ≠ 0 && s.shiftLocks then refuse s stLocked
      else ok (((s.updAx i Axis.enable).freshPorts i).markChanged i) }
def execAxisEnable (h : Hdr) (p : List Word) (s : State) : Result' := .next (hostCommand axisEnableCmd h p s)

/-- Idle, or one of the stopped states (Table 9.2). -/
def Gen.rests (g : Gen) : Bool := g.st == 0 || g.st == 6 || g.st == 7 || g.st == 9

/-- AXIS.DISABLE (R204). -/
def axisDisableCmd : HostCmd :=
  { opcode := 0x0702, modes := mAH
    valid := fun p => p.length == 1 && itemSel p
    run := fun _ p s =>
      let i := selItem p
      if !(s.ax i).enabled then ok s
      else if !(s.ax i).gen.rests then refuse s stBusyMoving
      else ok ((s.putReq i (s.ax i).disable).stopChirp i) }
def execAxisDisable (h : Hdr) (p : List Word) (s : State) : Result' := .next (hostCommand axisDisableCmd h p s)

/-- The profile status record (Table 9.4). -/
def Axis.statusWords (x : Axis) : List Word :=
  let g := x.gen
  let sc := match g.act with
    | .move m => m.scurve
    | _ => false
  [wd (g.st + bitAt 4 sc + bitAt 5 g.queued.isSome + bitAt 6 g.limP + bitAt 7 g.limN + at_ 8 g.endCause)] ++
    words64i (if g.hasPos then g.leftOver else g.remain) ++ words64i g.target ++ [wdi g.vRef]

/-- AXIS.STATUS_READ (R206): the status tells a removed move, and the record still comes (R356). -/
def axisStatusReadCmd : HostCmd :=
  { opcode := 0x0703
    valid := fun p => p.length == 1 && itemSel p
    run := fun _ p s =>
      let i := selItem p
      let x := s.ax i
      .done (if x.gen.endCause = 3 then stRemoved else stOk)
        (x.statusWords ++ [wd (b2n x.enabled + bitAt 1 x.enSent + bitAt 2 (s.inSto i) + bitAt 3 x.fb.held + bitAt 4 x.gen.pend.isSome)]) s }
def execAxisStatusRead (h : Hdr) (p : List Word) (s : State) : Result' := .next (hostCommand axisStatusReadCmd h p s)

/-- AXIS.PRF_CFG_WRITE (R211, Table 9.6). -/
def axisPrfCfgWriteCmd : HostCmd :=
  { opcode := 0x0704, modes := mCA, hold := true, standby := true, config := true
    valid := fun p => p.length == 4 && itemSel p && within (pw p 3) 0xFF0FFF && decide (fld (pw p 3) 1 0 ≠ 3) && decide (fld (pw p 3) 3 2 ≠ 3)
    run := fun _ p s =>
      if (s.ax (selItem p)).enabled then refuse s stBusyMoving
      else ok (s.updAx (selItem p) (fun x => { x with prf0 := pw p 1, prf1 := pw p 2, prf2 := pw p 3 })) }
def execAxisPrfCfgWrite (h : Hdr) (p : List Word) (s : State) : Result' := .next (hostCommand axisPrfCfgWriteCmd h p s)

/-- AXIS.PRF_CFG_READ (R211). -/
def axisPrfCfgReadCmd : HostCmd :=
  { opcode := 0x0705
    valid := fun p => p.length == 1 && itemSel p
    run := fun _ p s => let x := s.ax (selItem p); ok s [x.prf0, x.prf1, x.prf2] }
def execAxisPrfCfgRead (h : Hdr) (p : List Word) (s : State) : Result' := .next (hostCommand axisPrfCfgReadCmd h p s)

/-- AXIS.MISS_WINDOW (R86, R408): from the next boundary, or at once where no cycles run. -/
def axisMissWindowCmd : HostCmd :=
  { opcode := 0x0706, modes := mCAH, standby := true, config := true
    valid := fun p => p.length == 2 && itemSel p && within (pw p 1) 0xFFFF001F && decide (1 ≤ fld (pw p 1) 4 0) &&
      decide (fld (pw p 1) 4 0 ≤ 16) && decide (fld (pw p 1) 4 0 ≤ fld (pw p 1) 31 16)
    run := fun _ p s =>
      let n := fld (pw p 1) 4 0
      let w := fld (pw p 1) 31 16
      ok (s.updAx (selItem p) (fun x =>
        let y := { x with missN := n, missW := w }
        if s.clk.begun then y else { y with missNowN := n, missNowW := w })) }
def execAxisMissWindow (h : Hdr) (p : List Word) (s : State) : Result' := .next (hostCommand axisMissWindowCmd h p s)

/-- AXIS.STREAM_INFO (R215). -/
def axisStreamInfoCmd : HostCmd :=
  { opcode := 0x0707
    valid := fun p => p.length == 1 && itemSel p
    run := fun _ p s => ok s [wd (0x4FC000 + 64 * selItem p)] }
def execAxisStreamInfo (h : Hdr) (p : List Word) (s : State) : Result' := .next (hostCommand axisStreamInfoCmd h p s)

/-- AXIS.AUX_WRITE (R377). -/
def axisAuxWriteCmd : HostCmd :=
  { opcode := 0x0708, modes := mAH, standby := true, config := true
    valid := fun p => p.length == 2 && itemSel p && within (pw p 1) 0x3FF
    run := fun _ p s =>
      let i := selItem p
      let x := s.ax i
      if (s.spokeOfAxis i).isNone then refuse s stBadArg
      else if bit (pw p 1) 8 && s.inSto i then refuse s stSafeHold
      else if bit (pw p 1) 9 && (x.ackNew || decide (x.ackLeft ≠ 0)) then refuse s stBusy
      else ok (s.setAx i { x with aux := fld (pw p 1) 7 0, brake := bit (pw p 1) 8, ackNew := x.ackNew || bit (pw p 1) 9 }) }
def execAxisAuxWrite (h : Hdr) (p : List Word) (s : State) : Result' := .next (hostCommand axisAuxWriteCmd h p s)

end Sys2Proof.Machine
end

