-- ==== Sys2Proof/Machine/CmdCan.lean ====
section
/-!
DEFINITION. The commands of the CAN group (Table 15.16) and the CAN counters (Table 15.20).
-/
namespace Sys2Proof.Machine

/-- The selector names a port 0 or 1. -/
def canSel (p : List Word) (mask : Nat) : Bool := selOk p (mSub ||| mask) && decide (selSub p ≤ 1)

/-- A table with the words of a ranged write of two-word entries. -/
def put2 (t : Tbl Word) (k : Nat) (ws : List Word) : Tbl Word := Tbl.putRange t (2 * k) ws

/-- CAN.CFG_WRITE (R319). -/
def canCfgWriteCmd : HostCmd :=
  { opcode := 0x1101, modes := mC, standby := true, config := true
    valid := fun p => p.length == 6 && canSel p 0 &&
      ({ w0 := pw p 1, w1 := pw p 2, w2 := pw p 3, w3 := pw p 4, w4 := pw p 5 } : CanCfg).valid
    run := fun _ p s =>
      let c : CanCfg := { w0 := pw p 1, w1 := pw p 2, w2 := pw p 3, w3 := pw p 4, w4 := pw p 5 }
      ok (s.setCan (selSub p) { s.canPort (selSub p) with cfg := c }).canModes }
def execCanCfgWrite (h : Hdr) (p : List Word) (s : State) : Result' := .next (hostCommand canCfgWriteCmd h p s)

/-- Filter entries of a write are in range (Table 13.5). -/
def filterWordsOk : List Word → Bool
  | _ :: b :: l => within b 0xDFFFFFFF && decide (fld b 31 30 ≤ 2) && filterWordsOk l
  | _ => true

/-- CAN.FILTER_WRITE (R325). -/
def canFilterWriteCmd : HostCmd :=
  { opcode := 0x1102, standby := true, config := true
    valid := fun p => canSel p (mItem ||| mCount) && rangeOk p 30 128 && p.length == 1 + 2 * selCount p && filterWordsOk (p.drop 1)
    run := fun _ p s =>
      let q := s.canPort (selSub p)
      ok (s.setCan (selSub p) { q with filt := put2 q.filt (selItem p) (p.drop 1) }) }
def execCanFilterWrite (h : Hdr) (p : List Word) (s : State) : Result' := .next (hostCommand canFilterWriteCmd h p s)

/-- CAN.SCHED_WRITE (R335, R381): the checks run on the whole schedule as it would stand. -/
def canSchedWriteCmd : HostCmd :=
  { opcode := 0x1103, modes := mC, standby := true, config := true
    valid := fun p => canSel p (mItem ||| mCount) && rangeOk p 30 64 && p.length == 1 + 2 * selCount p &&
      (List.range (selCount p)).all (fun j => winWordOk (pw p (1 + 2 * j), pw p (2 + 2 * j)))
    run := fun _ p s =>
      let q := s.canPort (selSub p)
      let q' := { q with win := put2 q.win (selItem p) (p.drop 1) }
      let t := s.setCan (selSub p) q'
      if !t.schedOk (selSub p) q' then refuse s stBadArg
      else if selSub p = 1 && s.safe.configured && !t.canSafeOk s.can.s0 s.can.s1 s.can.s2 then refuse s stBadArg
      else ok t }
def execCanSchedWrite (h : Hdr) (p : List Word) (s : State) : Result' := .next (hostCommand canSchedWriteCmd h p s)

/-- CAN.SAFE_WRITE (R340). -/
def canSafeWriteCmd : HostCmd :=
  { opcode := 0x1104, modes := mC, standby := true, config := true
    valid := fun p => p.length == 3
    run := fun _ p s =>
      if !s.canSafeOk (pw p 0) (pw p 1) (pw p 2) then refuse s stBadArg
      else ok { s with can := { s.can with s0 := pw p 0, s1 := pw p 1, s2 := pw p 2 } } }
def execCanSafeWrite (h : Hdr) (p : List Word) (s : State) : Result' := .next (hostCommand canSafeWriteCmd h p s)

/-- CAN.ABORT (R324, R381). -/
def canAbortCmd : HostCmd :=
  { opcode := 0x1105
    valid := fun p => p.length == 1 && canSel p mItem && decide (selItem p ≤ 31)
    run := fun _ p s =>
      let q := s.canPort (selSub p)
      if q.txEntry = some (selItem p) then refuse s stBusy
      else if !q.owned.contains (selItem p) then ok s
      else ok (s.setCan (selSub p) (q.giveBack (selItem p) 1)) }
def execCanAbort (h : Hdr) (p : List Word) (s : State) : Result' := .next (hostCommand canAbortCmd h p s)

/-- CAN.RECOVER (R330). -/
def canRecoverCmd : HostCmd :=
  { opcode := 0x1106
    valid := fun p => p.length == 1 && canSel p 0
    run := fun _ p s =>
      let q := s.canPort (selSub p)
      if !q.busOff then refuse s stBadArg else ok (s.setCan (selSub p) { q with recovering := true }) }
def execCanRecover (h : Hdr) (p : List Word) (s : State) : Result' := .next (hostCommand canRecoverCmd h p s)

/-- CAN.INFO (R321). -/
def canInfoCmd : HostCmd :=
  { opcode := 0x1107
    valid := fun p => p.length == 1 && canSel p 0
    run := fun _ p s => ok s [wd (Config.canTxOffset (selSub p)), wd (Config.canRxOffset (selSub p))] }
def execCanInfo (h : Hdr) (p : List Word) (s : State) : Result' := .next (hostCommand canInfoCmd h p s)

/-- Words CAN.READ returns for a part. -/
def canReadWords (s : State) (p : List Word) : List Word :=
  let q := s.canPort (selSub p)
  match fld (pw p 1) 1 0 with
  | 0 => [q.cfg.w0, q.cfg.w1, q.cfg.w2, q.cfg.w3, q.cfg.w4]
  | 1 => Tbl.getRange 0 q.win (2 * selItem p) (2 * selCount p)
  | 2 => Tbl.getRange 0 q.filt (2 * selItem p) (2 * selCount p)
  | _ => [s.can.s0, s.can.s1, s.can.s2]

/-- CAN.READ (R381). -/
def canReadCmd : HostCmd :=
  { opcode := 0x1108
    valid := fun p => p.length == 2 && canSel p (mItem ||| mCount) && within (pw p 1) 3 &&
      (fld (pw p 1) 1 0 == 0 || fld (pw p 1) 1 0 == 3 || rangeOk p 30 (if fld (pw p 1) 1 0 = 1 then 64 else 128))
    run := fun _ p s => ok s (canReadWords s p) }
def execCanRead (h : Hdr) (p : List Word) (s : State) : Result' := .next (hostCommand canReadCmd h p s)

/-- DIAG.CAN_COUNTERS (R343). -/
def diagCanCountersCmd : HostCmd :=
  { opcode := 0x1707
    valid := fun p => p.length == 1 && canSel p mClear
    run := fun _ p s =>
      let q := s.canPort (selSub p)
      ok (if selClear p then s.setCan (selSub p) { q with cnt := {} } else s) q.cnt.words }
def execDiagCanCounters (h : Hdr) (p : List Word) (s : State) : Result' := .next (hostCommand diagCanCountersCmd h p s)

end Sys2Proof.Machine
end

