-- ==== Sys2Proof/Machine/MergeOps.lean ====
section
/-!
DEFINITION. The merge unit: candidates, confirmation and discard of servo copies, held items, the pass sum, the close of the
receive window and the launch of the servo frame (R16 to R23, R76, R79, R81, R85 to R88, R100, R111, R148, R165, R166, R171,
R181, R189).
-/
namespace Sys2Proof.Machine

/-- Copy of a channel. -/
def Chain.copy (x : Chain) (b : Bool) : CopyRec := if b then x.copyB else x.copyA
def Chain.setCopy (x : Chain) (b : Bool) (r : CopyRec) : Chain := if b then { x with copyB := r } else { x with copyA := r }

/-- Spoke k of the frame that is out, and its axis. -/
def Chain.sp (x : Chain) (k : Nat) : SpokeRx := Tbl.get {} x.spokes k
def Chain.setSp (x : Chain) (k : Nat) (p : SpokeRx) : Chain := { x with spokes := Tbl.put x.spokes k p }
def Chain.axisAt (x : Chain) (k : Nat) : Nat := fld (Tbl.get 0 x.launchMap k) 7 0
def Chain.nodeAt (x : Chain) (k : Nat) : Nat := fld (Tbl.get 0 x.launchMap k) 13 8
def SpokeRx.on (p : SpokeRx) (b : Bool) : Option Feedback := if b then p.b else p.a

/-- Spokes of the frame: the used entries of its map. -/
def State.spokesOf (s : State) (c : Nat) : List Nat := (usedMap (s.ch c).launchMap).map (·.1)

/-- Spokes of the frame whose feedback counts: all of them but those whose feedback R100 discards. -/
def State.live (s : State) (c : Nat) : List Nat :=
  (s.spokesOf c).filter (fun k => !((s.ch c).blank s.clk.cycle).contains k)

/-- The echo of a spoke equals the sequence sent (R17, R76, R77). -/
def Chain.echoOk (x : Chain) (fb : Feedback) : Bool :=
  if x.compact then fb.status.toNat % 16 == x.seq % 16 else fb.seqEcho.toNat == x.seq % 256

/-- An item may be posted for spoke k: its axis is enabled and has a template, and its place in the flow has not been passed over,
as the boundary does for axes that are off or disabled (R17, R189). -/
def State.postable (s : State) (c k : Nat) : Bool :=
  let x := s.ax ((s.ch c).axisAt k)
  !(s.sched.mask c false).testBit k && x.enabled && x.template != 0

/-- The item of spoke k is posted from the candidate of a copy (R17, R19); the place of an axis switched off since the boundary is
passed over. -/
def State.postFrom (s : State) (c k : Nat) (b : Bool) (fb : Feedback) : State :=
  let p := (s.ch c).sp k
  let i := (s.ch c).axisAt k
  let s1 := s.updCh c (fun x => x.setSp k { p with use := some b, posted := true })
  if s.postable c k then s1.post_ (s1.chainItem c k i false (some b) fb)
  else if (s.sched.mask c false).testBit k then s1 else s1.passOver c k i

/-- No feedback for spoke k: its held item is posted, or a current-loop spoke is passed over (R165, R181, R189). -/
def State.postHeld (s : State) (c k : Nat) : State :=
  let p := (s.ch c).sp k
  let i := (s.ch c).axisAt k
  if p.posted || (s.sched.mask c false).testBit k then s
  else
    let s1 := s.updCh c (fun x => x.setSp k { p with use := none, posted := true })
    if (s.ax i).isCur || !s.postable c k then s1.passOver c k i
    else s1.post_ (s1.chainItem c k i true none {})

/-- Spoke k of a copy is complete (R17, R18): the first candidate posts; in the same tick channel A replaces channel B, also where
the item has just been dispatched. -/
def State.candidate (s : State) (c : Nat) (b : Bool) (k : Nat) (fb : Feedback) : State :=
  let p := (s.ch c).sp k
  let p1 := if b then { p with b := some fb, tb := s.now } else { p with a := some fb, ta := s.now }
  let s1 := s.updCh c (fun x => x.setSp k p1)
  if !p.posted then s1.postFrom c k b fb
  else if !b && p.use == some true && p.tb == s.now then
    let i := (s.ch c).axisAt k
    let swap (it : Item) : Item := { it with copyB := some false, fb := fb, view := s1.portView { it with view := s1.candView c i fb } }
    match s1.sched.items.find? (fun it => it.flow == some c && it.fseq == k && it.cycle == s.clk.cycle && !it.dead && it.stage != .done) with
    | some it =>
      (s1.putItem it (if it.running then s1.capture_ (swap it) else swap it)).updCh c (fun x => x.setSp k { p1 with use := some false })
    | none =>
      match (s1.ax i).want with
      | some it => (s1.updAx i (fun a => { a with want := some (swap it) })).updCh c (fun x => x.setSp k { p1 with use := some false })
      | none => s1
  else s1

/-- The confirmed feedback of a spoke becomes the axis's last confirmed feedback (R17, R148, R166, R174). -/
def State.takeFb (s : State) (c i : Nat) (fb : Feedback) : State :=
  let compact := (s.ch c).compact
  s.updAx i (fun x =>
    let st : AxisFb := { x.fb with status := fb.status.toNat, error := if compact then x.fb.error else fb.error.toNat }
    { x with fb := if x.fbLocal && !x.isCur then st
                   else { st with posPrev := x.fb.pos, pos := extendPos x.fb.known x.fb.pos fb.pos, known := true, seen := true
                                  vel := if x.isCur then x.curVel (extendPos x.fb.known x.fb.pos fb.pos) else spokeVel compact fb.vel
                                  proc := fb.pos.toInt, currents := fb.vel, confirmed := true } })

/-- Load positions taken from spoke k (Table 6.8). -/
def State.takeLoad (s : State) (c k : Nat) (q : Word) : State :=
  (s.axisList.filter (fun j => (s.ax j).loadSpoke k &&
      (spokeOf (s.ch c).launchMap j).isSome)).foldl
    (fun t j => t.updAx j (fun x => { x with load := { x.load with pos := extendPos x.load.known x.load.pos q, known := true } })) s

/-- Rising node fault and warning of axis i (Table 3.12; events 54 and 55). -/
def State.nodeBits (s : State) (i : Nat) (fb : Feedback) : State :=
  let st := fb.status.toNat
  let old := Tbl.get 0 s.faults.node i
  let s1 : State := { s with faults := { s.faults with node := Tbl.put s.faults.node i (b2n (st.testBit 13) + bitAt 1 (st.testBit 12)) } }
  let s2 := if st.testBit 13 && !old.testBit 0 then s1.occur 14 i (fun _ => some (54, i, (s.ax i).fb.error)) else s1
  if st.testBit 12 && !old.testBit 1 then s2.raise 55 i 0 else s2

/-- An enabled current-loop axis whose node has no reference goes to a safe stop (R171). -/
def State.refCheck (s : State) (i : Nat) (fb : Feedback) : State :=
  let x := s.ax i
  if x.enabled && x.isCur && !bit x.cur 3 && !fb.status.toNat.testBit 7 then
    let s1 := s.occur 11 (256 + i) (fun st => some (70, 0x100 + i, st))
    if (s1.ax i).stopsQuick then s1.safeStop 11 i else s1
  else s

/-- Spoke k of a good copy is confirmed (R19, R111, R166). A current-loop spoke has no held item that could be late (R181). -/
def State.confirmSpoke (s : State) (c : Nat) (b : Bool) (k : Nat) : State :=
  let p := (s.ch c).sp k
  match p.on b with
  | none => s
  | some fb =>
    let i := (s.ch c).axisAt k
    if p.confirmed then s
    else
      let s1 := s.updCh c (fun x => x.setSp k { p with confirmed := true })
      let s2 := (((s1.takeFb c i fb).takeLoad c k fb.pos).nodeBits i fb).refCheck i fb
      let s3 := if (s.ch c).compact then s2 else s2.driftCheck c ((s.ch c).nodeAt k) s.clk.cycle fb.stime.toNat false
      if !p.posted then s3.postFrom c k b fb
      else if p.use.isNone && !(s.ax i).isCur then s3.updAx i (fun x => { x with cnt := { x.cnt with late := cadd x.cnt.late 1 } })
      else s3

/-- The axis record as it stood before the items of this cycle on a discarded copy; `LCNT` keeps its counts (R19, R181;
DEDUCED, log entry 30). -/
def Axis.undone (x : Axis) : Axis :=
  match x.undo with
  | some u => { x with loop := u.loop, rel := { u.rel with clamped := x.rel.clamped }, undo := none
                       curst := { u.curst with dutyA := x.curst.dutyA, dutyB := x.curst.dutyB, dutyC := x.curst.dutyC } }
  | none => x

/-- Offset of the miss instant (Table 6.11). -/
def State.missOffset (s : State) (c : Nat) : Nat :=
  if fld (s.ch c).missAtNow 23 0 = 0 then s.tc * 7 / 8 else fld (s.ch c).missAtNow 23 0

/-- A copy is discarded: what was computed from it goes nowhere, its outer item and what they wrote in the axis record too, and the
item is posted again from the other copy once that has passed, or held (R19, R165, R173, R181). -/
def State.discardCopy (s : State) (c : Nat) (b : Bool) : State :=
  let other := ((s.ch c).copy (!b)).state == .confirmed
  let s0 := s.updCh c (fun x => x.setCopy b { x.copy b with state := .discarded })
  let past := decide (s.bNow + s.missOffset c ≤ s.now)
  (s.live c).foldl (fun t k =>
    let p := (t.ch c).sp k
    let p1 := if b then { p with b := none } else { p with a := none }
    if p.use == some b then
      let i := (t.ch c).axisAt k
      let mine (it : Item) : Bool := it.chain == c && it.spoke == k && it.cycle == t.clk.cycle && it.copyB == some b && decide (it.level ≤ 1)
      let items := (t.sched.items.filter (fun it => !mine it || it.running)).map (fun it => if mine it then { it with dead := true } else it)
      let t1 : State := { t with sched := { t.sched with items := items } }
      let t2 := (t1.updAx i (fun a => { a.undone with want := none })).updCh c (fun x => x.setSp k { p1 with use := none, posted := false })
      match p1.on (!b) with
      | some fb => if other then t2.postFrom c k (!b) fb else t2
      | none => if past then t2.postHeld c k else t2
    else t.updCh c (fun x => x.setSp k p1)) s0

/-- The pass-sum check over the confirmed copies (R79). -/
def Chain.passOk (x : Chain) : Bool :=
  let a := x.copyA
  let b := x.copyB
  let n := x.passN
  match a.state == .confirmed, b.state == .confirmed with
  | true, true => if a.wrapped || b.wrapped then a.passSum + b.passSum == n else a.passSum == n && b.passSum == n
  | true, false => if !a.wrapped || !x.linkR then a.passSum == n else true
  | false, true => if !b.wrapped || !x.linkL then b.passSum == n else true
  | false, false => true

/-- Both copies are confirmed or discarded: held items for spokes without feedback, and the pass sum (R79, R165). -/
def State.bothDone (s : State) (c : Nat) : State :=
  let x := s.ch c
  if x.copyA.state == .outstanding || x.copyB.state == .outstanding || x.passDone then s
  else
    let s1 := s.updCh c (fun y => { y with passDone := true })
    let s2 := ((s1.spokesOf c).filter (fun k => !(x.sp k).confirmed)).foldl (fun t k => t.postHeld c k) s1
    if x.passOk || s.swapNow then s2
    else
      let v (r : CopyRec) : Nat := if r.state == .confirmed then r.passSum else 0xFFFF
      ((s2.updCh c (fun y => y.count (fun q => { q with passMismatch := cadd q.passMismatch 1 }))).raiseCh c 20 x.passN
        (v x.copyA + at_ 16 (v x.copyB))).occur 5 (256 * c) (ev10 5)

/-- `CB.RINGc` as copy A measures it: 0 while a copy comes back wrapped (R292). -/
def State.noteRing (s : State) (c : Nat) (b : Bool) (i : CopyInfo) : State :=
  if (b && !i.wrapped) || s.swapNow then s
  else
    let w := (s.ch c).portR
    let v := if i.wrapped then 0
      else ubits 32 (divOpen (10 * ((i.rxStamp : Int) - i.launch) + (cTx w : Int) - cRx w) 10)
    { s with link := if c = 0 then { s.link with ring0 := v } else { s.link with ring1 := v } }

/-- A good copy: its spokes are confirmed, its wrap noted (R19, R88). -/
def State.confirmCopy (s : State) (c : Nat) (b : Bool) (i : CopyInfo) : State :=
  let r : CopyRec := { state := .confirmed, wrapped := i.wrapped, passSum := i.passSum.toNat, wrapAddr := i.wrapAddr.toNat }
  let began := i.wrapped && !(s.ch c).wrapped && !(s.ch c).wrapNow
  let s1 := s.updCh c (fun x =>
    let y := x.setCopy b r
    if i.wrapped then
      { y with wrapNow := true
               counters := if b then { y.counters with wrapB := i.wrapAddr.toNat } else { y.counters with wrapA := i.wrapAddr.toNat } }
    else y)
  let s1 := s1.noteRing c b i
  let s2 := if began then s1.raiseCh c 17 1 ((s1.ch c).counters.wrapA + at_ 8 (s1.ch c).counters.wrapB) else s1
  ((s2.live c).foldl (fun t k => t.confirmSpoke c b k) s2).bothDone c

/-- The servo copy of the swap cycle as it passes the standby's ingress port (R308). -/
def Chain.passingCopy (x : Chain) (i : CopyInfo) : Bool :=
  i.version == 2 && i.kind.toNat == 1 && i.cycle.toNat == (x.sent 1).cycle % 65536

/-- A servo copy has come back whole (R19, R65, R81, R85). -/
def State.copyReturns (s : State) (c : Nat) (b : Bool) (i : CopyInfo) : State :=
  let x := s.ch c
  let f := x.sent 1
  let waits := x.out && (x.copy b).state == .outstanding
  if i.fcs ≠ .good then
    let s1 := s.updCh c (fun y => y.badFcs i.fcs)
    if waits then (s1.discardCopy c b).bothDone c else s1
  else if !(if s.swapNow then x.passingCopy i else x.ownCopy b i 1) then s.updCh c Chain.foreign
  else if i.count.toNat ≠ f.count || i.fmt ≠ f.fmt then
    let s1 := s.updCh c Chain.foreign
    if waits then (s1.discardCopy c b).bothDone c else s1
  else if waits then s.confirmCopy c b i
  else s

/-! ## The boundary -/

/-- A copy not returned or not checked by the boundary (R85). -/
def State.loseCopy (s : State) (c : Nat) (b : Bool) : State :=
  if ((s.ch c).copy b).state == .outstanding then
    let s1 := s.updCh c (fun x => x.count (fun q => { q with lost := cadd q.lost 1 }))
    ((s1.raiseCh c 21 (b2n b) s.clk.cycle).occur 6 (256 * c) (ev10 6)).discardCopy c b
  else s

/-- The receive window of the ended cycle closes: lost copies, missing feedback, totals, the end of a wrap (R85 to R88). -/
def State.closeWindow (s : State) (c : Nat) : State :=
  if !(s.ch c).out then s
  else
    let s1 := ((s.loseCopy c false).loseCopy c true).bothDone c
    let miss := (s1.live c).filter (fun k => !((s1.ch c).sp k).confirmed)
    let s2 := (miss.filter (fun k => (s1.ax ((s1.ch c).axisAt k)).enabled)).foldl (fun t k =>
      let i := (t.ch c).axisAt k
      t.occur 1 i (fun st => some (52, i, st))) s1
    let x := s2.ch c
    let hist := ((x.emptyNow + miss.length) :: x.hist).take 256
    let total := hist.sum
    let above := decide (x.emptyTh ≤ total)
    let ended := x.wrapped && !x.wrapNow
    let s3 := s2.setCh c { x with
      hist := hist, aboveTh := above, out := false, wrapped := x.wrapNow
      counters := { x.counters with missing := cadd x.counters.missing miss.length } }
    let s4 := if ended then s3.raiseCh c 17 0 (x.counters.wrapA + at_ 8 x.counters.wrapB) else s3
    if above && !x.aboveTh then s4.raiseCh c 18 x.emptyTh total else s4

/-- The command halves of the frame of the new cycle, its empty spokes and those whose first byte is still to come. -/
def State.fillFrame (s : State) (c : Nat) : List (Nat × Word) → State × List TxSlot × List Nat
  | [] => (s, [], [])
  | (k, w) :: l =>
    let i := fld w 7 0
    let x := s.ax i
    let blank := ((s.ch c).blank s.clk.cycle).contains k || (s.ch c).barred k
    let q := Tbl.get ({} : TxSlot) (s.ch c).slots i
    if q.ready && !blank then
      let r : Result := { mode := q.mode, target := q.target.toInt, ff1 := q.ff1.toInt, ff2 := q.ff2.toInt }
      let z := (s.leaves i r).fillFrame c l
      (z.1, q.wire (s.ch c).compact (x.ctrl (s.ch c).compact) :: z.2.1, z.2.2)
    else
      let z := (s.updAx i (fun a => { a with enSent := false })).fillFrame c l
      (z.1, {} :: z.2.1, if blank then z.2.2 else k :: z.2.2)

/-- Spokes of the frame for which no item will be posted in the cycle (R189). -/
def State.passedOver (s : State) (c : Nat) : Nat :=
  ofBits (((usedMap (s.ch c).launchMap).filter (fun p =>
    let x := s.ax (fld p.2 7 0)
    !x.enabled || x.template == 0)).map (·.1))

/-- The servo frame of chain c leaves on both ports (R15, R16, R22, R76), unless the launch gate holds it (R92); no item is posted in
the rolling start (Table 1.5). -/
def State.launchServo (s : State) (c : Nat) (rolling : Bool) : State :=
  let x := s.ch c
  let map := usedMap x.active.map
  let goes := x.gate { kind := 1, window := (windowFor x.active.win 1).getD 0, count := map.length, fmt := x.compact }
  let copy : CopyRec := if goes then { state := .outstanding } else {}
  let s0 := s.setCh c { x with
    prevMap := x.launchMap, launchMap := x.active.map, seq := (x.seq + 1) % 256, out := goes, copyA := copy, copyB := copy, passDone := false, wrapNow := false, spokes := [], emptyNow := 0
    slots := if rolling then [] else x.slots }
  let z := s0.fillFrame c map
  let empties := (z.2.1.filter (fun q => !q.ready)).length
  let f : TxFrame := { (z.1.frame 1 ((windowFor x.active.win 1).getD 0) map.length) with
    fmt := x.compact, rolling := rolling, seq := (x.seq + 1) % (if x.compact then 16 else 256), spokes := z.2.1, emptyCmd := empties }
  let blanks := empties - z.2.2.length
  let s1 := (z.1.launch c f).updCh c (fun y => { y with
    slots := [], due := if goes then z.2.2 else [], emptyNow := blanks, counters := { y.counters with emptyCmd := cadd y.counters.emptyCmd blanks } })
  let m := if rolling || !goes then 2 ^ map.length - 1 else s1.passedOver c
  { s1 with sched := if c = 0 then { s1.sched with prev0 := s1.sched.flow0, flow0 := m } else { s1.sched with prev1 := s1.sched.flow1, flow1 := m } }

/-- No frame leaves: the launch has stopped (R28). -/
def State.noLaunch (s : State) (c : Nat) : State := s.updCh c (fun x => { x with out := false, slots := [], due := [] })

end Sys2Proof.Machine
end

