-- ==== Sys2Proof/Machine/CmdChain.lean ====
section
/-!
DEFINITION. CHAIN and TIME commands, and the chain counters (R14, R26, R56, R57, R61, R89, R104 to R106, R111, R122, R135, R165,
R376, R455, Tables 15.6 and 15.7).
-/
namespace Sys2Proof.Machine

/-- A chain configuration word and its port words (Tables 3.3 and 3.4, R32, R57). -/
def chainCfgOk (w l r : Word) : Bool :=
  within w 0x7FFFF && decide (0x0600 ≤ fld w 15 0) && within l 0xFFFF0FFF && within r 0xFFFF0FFF &&
  (portRate l == 0 || portRate r == 0 || portRate l == portRate r) &&
  (bit w 16 || (portRate l != 1 && portRate r != 1))

/-- CHAIN.CFG_WRITE (R57, R61): a line rate that the gear does not allow, or whose limits the active tables exceed, is refused (R30,
R31). -/
def chainCfgWriteCmd : HostCmd :=
  { opcode := 0x0401, modes := mC, standby := true, config := true
    valid := fun p => p.length == 4 && selOk p mChain && chainCfgOk (pw p 1) (pw p 2) (pw p 3)
    run := fun _ p s =>
      let t := s.updCh (selChain p) (fun x => { x with cfg := pw p 1, portL := pw p 2, portR := pw p 3 })
      if !t.limitsOk t.clk.gear t.ch0.active t.ch1.active then refuse s stNoResource else ok t }
def execChainCfgWrite (h : Hdr) (p : List Word) (s : State) : Result' := .next (hostCommand chainCfgWriteCmd h p s)

/-- CHAIN.CFG_READ (R61). -/
def chainCfgReadCmd : HostCmd :=
  { opcode := 0x0402
    valid := fun p => p.length == 1 && selOk p mChain
    run := fun _ p s => let x := s.ch (selChain p); ok s [x.cfg, x.portL, x.portR] }
def execChainCfgRead (h : Hdr) (p : List Word) (s : State) : Result' := .next (hostCommand chainCfgReadCmd h p s)

/-- CHAIN.SUPV_WRITE (R61, R87). -/
def chainSupvWriteCmd : HostCmd :=
  { opcode := 0x0403, standby := true, config := true
    valid := fun p => p.length == 2 && selOk p mChain && within (pw p 1) 0xFFFF && pw p 1 != 0
    run := fun _ p s => ok (s.updCh (selChain p) (fun x => { x with emptyTh := fld (pw p 1) 15 0 })) }
def execChainSupvWrite (h : Hdr) (p : List Word) (s : State) : Result' := .next (hostCommand chainSupvWriteCmd h p s)

/-- Ranges of `CHn.GUARD` (Table 4.9). -/
def guardOk (a b : Word) : Bool :=
  within a 0x1F07FF && within b 0xFFFF && decide (50 ≤ fld a 10 0) && decide (fld a 10 0 ≤ 2000) &&
  decide (1 ≤ fld a 20 16) && decide (fld a 20 16 ≤ 16) && decide (fld a 20 16 ≤ fld b 15 0)

/-- CHAIN.GUARD_WRITE (R111): in force from the next boundary; where no cycles run, at once. -/
def chainGuardWriteCmd : HostCmd :=
  { opcode := 0x0404, standby := true, config := true
    valid := fun p => p.length == 3 && selOk p mChain && guardOk (pw p 1) (pw p 2)
    run := fun _ p s => ok (s.updCh (selChain p) (fun x =>
      let y := { x with guard0 := pw p 1, guard1 := pw p 2 }
      if s.clk.begun then y else { y with guardNow0 := pw p 1, guardNow1 := pw p 2 })) }
def execChainGuardWrite (h : Hdr) (p : List Word) (s : State) : Result' := .next (hostCommand chainGuardWriteCmd h p s)

/-- CHAIN.MISS_AT_WRITE (R165, Table 6.11). -/
def chainMissAtWriteCmd : HostCmd :=
  { opcode := 0x0405, standby := true, config := true
    valid := fun p => p.length == 2 && selOk p mChain && within (pw p 1) 0xFFFFFF
    run := fun _ p s =>
      if s.tc ≤ fld (pw p 1) 23 0 then refuse s stBadArg
      else ok (s.updCh (selChain p) (fun x =>
        let y := { x with missAt := pw p 1 }
        if s.clk.begun then y else { y with missAtNow := pw p 1 })) }
def execChainMissAtWrite (h : Hdr) (p : List Word) (s : State) : Result' := .next (hostCommand chainMissAtWriteCmd h p s)

/-- CHAIN.SUPV_READ (R61). -/
def chainSupvReadCmd : HostCmd :=
  { opcode := 0x0406
    valid := fun p => p.length == 1 && selOk p mChain
    run := fun _ p s => let x := s.ch (selChain p); ok s [wd x.emptyTh, x.guard0, x.guard1, x.missAt] }
def execChainSupvRead (h : Hdr) (p : List Word) (s : State) : Result' := .next (hostCommand chainSupvReadCmd h p s)

/-- Selector of a node. -/
def nodeSel (p : List Word) : Bool := selOk p (mItem ||| mChain) && decide (selItem p < 64)

/-- CHAIN.NODE_READ (R102, R376). -/
def chainNodeReadCmd : HostCmd :=
  { opcode := 0x0407, modes := mSAH
    valid := fun p => p.length == 2 && nodeSel p
    run := fun r p s =>
      if !(s.nd (selChain p) (selItem p)).assigned then refuse s stBadArg
      else .wait (s.queueReq (selChain p) (selItem p) { op := 0x01, index := pw p 1, len := objSize (pw p 1).toNat, use := .hostRead r }) }
def execChainNodeRead (h : Hdr) (p : List Word) (s : State) : Result' := .next (hostCommand chainNodeReadCmd h p s)

/-- Bytes of packed words. -/
def unpackBytes (l : List Word) : List Byte := l.flatMap wordBytes

/-- CHAIN.NODE_WRITE (R102, R376). -/
def chainNodeWriteCmd : HostCmd :=
  { opcode := 0x0408, modes := [.syncUp, .runActive], hold := true
    valid := fun p => p.length == 7 && nodeSel p && within (pw p 2) 0x1F && decide (fld (pw p 2) 4 0 ≤ 16) &&
      ((unpackBytes (p.drop 3)).drop (fld (pw p 2) 4 0)).all (fun b => b == 0)
    run := fun r p s =>
      if !(s.nd (selChain p) (selItem p)).assigned then refuse s stBadArg
      else .wait (s.queueReq (selChain p) (selItem p)
        { op := 0x02, index := pw p 1, len := fld (pw p 2) 4 0, data := (unpackBytes (p.drop 3)).take (fld (pw p 2) 4 0)
          use := .hostWrite r }) }
def execChainNodeWrite (h : Hdr) (p : List Word) (s : State) : Result' := .next (hostCommand chainNodeWriteCmd h p s)

/-- CHAIN.DESC_READ (R135). -/
def chainDescReadCmd : HostCmd :=
  { opcode := 0x0409
    valid := fun p => p.length == 1 && nodeSel p
    run := fun _ p s =>
      let n := s.nd (selChain p) (selItem p)
      if n.descParts = 15 then ok s (packWords 16 n.desc) else refuse s stBusy }
def execChainDescRead (h : Hdr) (p : List Word) (s : State) : Result' := .next (hostCommand chainDescReadCmd h p s)

/-- A census record as it stood in the frame (Table 3.20): zeros where no node wrote it. -/
def censusBytes (q : Option CensusRec) : List Byte :=
  match q with
  | some q => [q.addr, q.axes] ++ beBytes 2 q.vendor.toNat ++ beBytes 2 q.product.toNat ++ [q.fwd, q.flags]
  | none => List.replicate 8 0

/-- CHAIN.CENSUS_READ (R122). -/
def chainCensusReadCmd : HostCmd :=
  { opcode := 0x040A, modes := mSAH
    valid := fun p => p.length == 1 && selOk p (mItem ||| mChain ||| mSub ||| mCount) && decide (selSub p ≤ 1) && rangeOk p 30 64
    run := fun _ p s =>
      let r := (s.ch (selChain p)).ring
      let b := selSub p == 1
      let l := if b then r.censusB else r.censusA
      ok s (wd (if b then r.hopsB else r.hopsA) ::
        (List.range (selCount p)).flatMap (fun j => packWords 2 (censusBytes l[selItem p + j]?))) }
def execChainCensusRead (h : Hdr) (p : List Word) (s : State) : Result' := .next (hostCommand chainCensusReadCmd h p s)

/-- CHAIN.DELAY_READ (R106). -/
def chainDelayReadCmd : HostCmd :=
  { opcode := 0x040B, modes := mSAH
    valid := fun p => p.length == 1 && nodeSel p
    run := fun _ p s => let n := s.nd (selChain p) (selItem p); ok s [n.dA, n.dB] }
def execChainDelayRead (h : Hdr) (p : List Word) (s : State) : Result' := .next (hostCommand chainDelayReadCmd h p s)

/-- Words of the chain counter record (Table 3.23). -/
def ChainCounters.words (k : ChainCounters) : List Word :=
  [wd k.crcLink, wd k.crcMarked, wd k.lost, wd k.passMismatch, wd k.emptyCmd, wd k.missing, wd k.foreign, wd (k.wrapA + at_ 8 k.wrapB)]

/-- The counts of a chain cleared; the wrap addresses are no counts (R89). -/
def ChainCounters.clear (k : ChainCounters) : ChainCounters := { wrapA := k.wrapA, wrapB := k.wrapB }

/-- DIAG.CHAIN_COUNTERS (R89). -/
def diagChainCountersCmd : HostCmd :=
  { opcode := 0x1703
    valid := fun p => p.length == 1 && selOk p (mChain ||| mClear)
    run := fun _ p s =>
      let c := selChain p
      ok (if selClear p then s.updCh c (fun x => { x with counters := x.counters.clear }) else s) (s.ch c).counters.words }
def execDiagChainCounters (h : Hdr) (p : List Word) (s : State) : Result' := .next (hostCommand diagChainCountersCmd h p s)

/-! ## TIME -/

/-- Rate in signed units of 2^-32 ns/ns. -/
def rateMax : Int := 858993
def rateStep50 : Int := 214748

/-- The rate moves toward the requested one, by at most 50 ppm (R105). -/
def Clk.rateMove (c : Clk) : Clk := { c with rate := c.rate + clampI (-rateStep50) rateStep50 (c.rateReq - c.rate) }

/-- TIME.READ (R14). -/
def timeReadCmd : HostCmd :=
  { opcode := 0x0601
    valid := fun p => p.length == 0
    run := fun _ _ s =>
      let c := s.clk
      let pps := match c.ppsLast with
        | some t => decide (c.tb ≤ t + 1100000000)
        | none => false
      ok s (words64 c.tb ++ words64 c.cycle ++ [wdi c.rate,
        wd (b2n c.stepped + bitAt 1 pps + bitAt 2 s.twin.timeLock + bitAt 3 c.staged.isSome)]) }
def execTimeRead (h : Hdr) (p : List Word) (s : State) : Result' := .next (hostCommand timeReadCmd h p s)

/-- TIME.STAGE (R104). -/
def timeStageCmd : HostCmd :=
  { opcode := 0x0602, lead := true, modes := mC
    valid := fun p => p.length == 3 && within (pw p 2) 3
    run := fun _ p s =>
      ok { s with clk := { s.clk with staged := if bit (pw p 2) 1 then none else some (w64 (pw p 0) (pw p 1))
                                      ppsStep := bit (pw p 2) 0 } } }
def execTimeStage (h : Hdr) (p : List Word) (s : State) : Result' := .next (hostCommand timeStageCmd h p s)

/-- TIME.RATE (R105): the first 50 ppm at once, the rest at RATE_STEP. -/
def timeRateCmd : HostCmd :=
  { opcode := 0x0603, lead := true, modes := mCAH
    valid := fun p => p.length == 1 && decide ((pw p 0).toInt.natAbs ≤ 858993)
    run := fun _ p s => ok { s with clk := ({ s.clk with rateReq := (pw p 0).toInt } : Clk).rateMove } }
def execTimeRate (h : Hdr) (p : List Word) (s : State) : Result' := .next (hostCommand timeRateCmd h p s)

/-- TIME.CP_WRITE (R26). -/
def timeCpWriteCmd : HostCmd :=
  { opcode := 0x0604, modes := mCAH, standby := true, config := true
    valid := fun p => p.length == 2 && selOk p mItem && decide (selItem p < 8) && within (pw p 1) 0x3FFFFFF
    run := fun _ p s =>
      if s.tc ≤ fld (pw p 1) 23 0 then refuse s stBadArg
      else
        let k := Tbl.get {} s.pins.cp (selItem p)
        let k1 := { k with cfg := pw p 1, now := if s.clk.begun then k.now else pw p 1 }
        ok { s with pins := { s.pins with cp := Tbl.put s.pins.cp (selItem p) k1 } } }
def execTimeCpWrite (h : Hdr) (p : List Word) (s : State) : Result' := .next (hostCommand timeCpWriteCmd h p s)

/-- TIME.CAP_CFG (R455). -/
def timeCapCfgCmd : HostCmd :=
  { opcode := 0x0605, standby := true, config := true
    valid := fun p => p.length == 2 && selOk p mItem && decide (selItem p < 4) && within (pw p 1) 3
    run := fun _ p s =>
      let k := Tbl.get {} s.pins.cap (selItem p)
      let e := fld (pw p 1) 1 0
      ok { s with pins := { s.pins with cap := Tbl.put s.pins.cap (selItem p) { k with edge := e, edgeNow := if s.clk.begun then k.edgeNow else e } } } }
def execTimeCapCfg (h : Hdr) (p : List Word) (s : State) : Result' := .next (hostCommand timeCapCfgCmd h p s)

/-- TIME.CAP_READ (Table 15.7): bit 1 of the last word stands until it is cleared. -/
def timeCapReadCmd : HostCmd :=
  { opcode := 0x0606
    valid := fun p => p.length == 1 && selOk p (mItem ||| mClear) && decide (selItem p < 4)
    run := fun _ p s =>
      let k := Tbl.get {} s.pins.cap (selItem p)
      let k1 := if selClear p then { k with count := 0, more := false, seen := false } else { k with seen := false }
      ok { s with pins := { s.pins with cap := Tbl.put s.pins.cap (selItem p) k1 } }
        (words64 k.time ++ [wd k.count, wd (b2n k.level + bitAt 1 k.more)]) }
def execTimeCapRead (h : Hdr) (p : List Word) (s : State) : Result' := .next (hostCommand timeCapReadCmd h p s)

end Sys2Proof.Machine
end

