-- ==== Sys2Proof/Machine/CmdDiag.lean ====
section
/-!
DEFINITION. DIAG commands other than the chain and CAN counters (R40, R44, R169, R184, R193, R196, R426, Table 15.20).
-/
namespace Sys2Proof.Machine

/-- Activity counter record k (Table 2.6a). -/
def Budgets.record (b : Budgets) (k : Nat) : List Word :=
  [wd (Tbl.get 0 b.used k % 2 ^ 24), wd (Tbl.get 0 b.peak k % 2 ^ 24), wd (Tbl.get 0 b.defer k), wd (Tbl.get 0 b.drop k)]

/-- The counts of activities k to k + n - 1 cleared (R40). -/
def Budgets.clearCounts (b : Budgets) (k n : Nat) : Budgets :=
  { b with defer := Tbl.putRange b.defer k (List.replicate n 0), drop := Tbl.putRange b.drop k (List.replicate n 0) }

/-- DIAG.ACT_READ (R40). -/
def diagActReadCmd : HostCmd :=
  { opcode := 0x1701
    valid := fun p => p.length == 1 && selOk p (mItem ||| mCount ||| mClear) && rangeOk p 8 8
    run := fun _ p s =>
      ok (if selClear p then { s with budget := s.budget.clearCounts (selItem p) (selCount p) } else s)
        ((List.range (selCount p)).flatMap (fun j => s.budget.record (selItem p + j))) }
def execDiagActRead (h : Hdr) (p : List Word) (s : State) : Result' := .next (hostCommand diagActReadCmd h p s)

/-- DIAG.HEADROOM_READ (R44, Table 2.8). -/
def diagHeadroomReadCmd : HostCmd :=
  { opcode := 0x1702
    valid := fun p => p.length == 1 && selOk p 0
    run := fun _ _ s =>
      let r := s.room
      ok s [wdi r.slackLast, wdi r.slackMin, wdi r.projLast, wdi r.projMin, wd (r.k + bitAt 16 r.beyond), s.budget.activeW5] }
def execDiagHeadroomRead (h : Hdr) (p : List Word) (s : State) : Result' := .next (hostCommand diagHeadroomReadCmd h p s)

/-- The scheduler record (Table 8.7). -/
def Sched.record (c : Sched) : List Word :=
  [wd (c.inService + at_ 16 c.fenceCause + at_ 20 c.fenceCore), wd c.timeout, wd (c.spillNowN + at_ 16 c.spillPeak), wd c.spilled,
   wd c.relPeak, wd c.late]

/-- The counts cleared and the peaks restarted (R196). -/
def Sched.clearRecord (c : Sched) : Sched :=
  { c with timeout := 0, spilled := 0, late := 0, spillPeak := c.spillNowN, relPeak := c.sharedUsed }

/-- DIAG.SCHED_READ (R196). -/
def diagSchedReadCmd : HostCmd :=
  { opcode := 0x1704
    valid := fun p => p.length == 1 && selOk p mClear
    run := fun _ p s => ok (if selClear p then { s with sched := s.sched.clearRecord } else s) s.sched.record }
def execDiagSchedRead (h : Hdr) (p : List Word) (s : State) : Result' := .next (hostCommand diagSchedReadCmd h p s)

/-- A work-item descriptor (Table 8.2). -/
def Item.words (x : Item) : List Word :=
  let chain := x.kind == .current || (x.kind == .axis && x.flow.isSome)
  [wd (x.kind.code + at_ 3 x.level + bitAt 6 x.held + at_ 8 (if x.level < 3 then x.axis else 0) + at_ 16 (x.flow.getD 0) +
     bitAt 22 x.flow.isSome),
   wd (x.fseq % 65536 + at_ 16 (x.charge % 65536)), wd x.deadline,
   wd ((if chain then x.spoke + bitAt 7 (x.chain == 1) else 0) + at_ 8 (x.arg % 2 ^ 24))]

/-- Items of a level, earliest deadline first. -/
def Sched.level (c : Sched) (l : Nat) : List Item :=
  sortBy (fun a b => decide (a.deadline ≤ b.deadline))
    (c.items.filter (fun x => x.level == l && !x.dead && (x.stage == .queued || x.stage == .spilled)))

/-- DIAG.QUEUE_SNAPSHOT (R184). -/
def diagQueueSnapshotCmd : HostCmd :=
  { opcode := 0x1705
    valid := fun p => p.length == 1 && selOk p (mItem ||| mCount) && decide (selItem p < 8) && decide (1 ≤ selCount p) &&
      decide (selCount p ≤ 15)
    run := fun _ p s =>
      let l := s.sched.level (selItem p)
      ok s (wd l.length :: (List.range (selCount p)).flatMap (fun j =>
        match l[j]? with
        | some x => x.words
        | none => [0, 0, 0, 0])) }
def execDiagQueueSnapshot (h : Hdr) (p : List Word) (s : State) : Result' := .next (hostCommand diagQueueSnapshotCmd h p s)

/-- DIAG.LOOP_COUNTERS (R169, Table 6.13). -/
def diagLoopCountersCmd : HostCmd :=
  { opcode := 0x1706
    valid := fun p => p.length == 1 && selOk p (mItem ||| mClear)
    run := fun _ p s =>
      let k := (s.ax (selItem p)).cnt
      ok (if selClear p then s.updAx (selItem p) (fun x => { x with cnt := { clamps := x.cnt.clamps } }) else s)
        [wd k.held, wd k.late, wd k.usat, wd k.isat] }
def execDiagLoopCounters (h : Hdr) (p : List Word) (s : State) : Result' := .next (hostCommand diagLoopCountersCmd h p s)

/-- DIAG.CORE_TEST (R193): one test at a time. -/
def diagCoreTestCmd : HostCmd :=
  { opcode := 0x1708, modes := mC
    valid := fun p => p.length == 1 && selOk p mItem && decide (selItem p < 16)
    run := fun r p s =>
      if s.power.coreTest.isSome then refuse s stBusy
      else .wait { s with power := { s.power with coreTest := some (selItem p, r) } } }
def execDiagCoreTest (h : Hdr) (p : List Word) (s : State) : Result' := .next (hostCommand diagCoreTestCmd h p s)

/-- DIAG.MEM_STATUS (R426, R430). -/
def diagMemStatusCmd : HostCmd :=
  { opcode := 0x1709
    valid := fun p => p.length == 1 && selOk p mClear
    run := fun _ p s =>
      ok (if selClear p then { s with power := { s.power with eccCorr := [], eccUnc := 0 } } else s)
        (((List.range 5).map (fun k => wd (Tbl.get 0 s.power.eccCorr k))) ++ [wd s.power.eccUnc, wd Config.repairUse.toNat]) }
def execDiagMemStatus (h : Hdr) (p : List Word) (s : State) : Result' := .next (hostCommand diagMemStatusCmd h p s)

end Sys2Proof.Machine
end

