-- ==== Sys2Proof/Machine/CmdMove.lean ====
section
/-!
DEFINITION. MOVE commands (R199 to R213, R378, R397, Tables 9.1, 9.3 and 15.9).
-/
namespace Sys2Proof.Machine

/-- A move record (Table 9.1) from words P1 to P7. -/
def moveOf (p : List Word) : Move :=
  let kind := fld (pw p 3) 1 0
  let t := sgn 64 (w64 (pw p 1) (pw p 2))
  { target := t, rel := if kind = 1 then some t else none, jog := decide (kind = 2), scurve := bit (pw p 3) 2
    v := if kind = 2 then (pw p 4).toInt else (pw p 4).toNat, acc := (pw p 5).toNat, dec := (pw p 6).toNat, jerk := (pw p 7).toNat }

/-- Field ranges of a move record (R199, Table 9.1). -/
def moveOk (p : List Word) : Bool :=
  let kind := fld (pw p 3) 1 0
  within (pw p 3) 0xF && decide (kind ≠ 3) && (kind == 2 || (pw p 4 != 0 && decide ((pw p 4).toNat ≤ 0x7FFFFFFF))) &&
  pw p 5 != 0 && pw p 6 != 0 && ((pw p 7 != 0) == bit (pw p 3) 2)

/-- A chirp runs on axis i: its job has been granted the engine and its cycles are not done (R397). -/
def State.chirping (s : State) (i : Nat) : Bool :=
  (s.chirps i).any (fun j => (Tbl.get {} s.jobs j).granted && decide ((Tbl.get {} s.jobs j).chirpDone < 2 ^ (Tbl.get {} s.jobs j).log2))

/-- Requests that start motion are refused: no axis on (R378), a chirp (R397), zone STO (R268), a shift at standstill (R49). -/
def State.startStatus (s : State) (i : Nat) : Nat :=
  if !(s.ax i).enabled then stBadArg
  else if s.inSto i then stSafeHold
  else if s.shiftLocks then stLocked
  else if s.chirping i then stBusyMoving
  else stOk

/-- Where a move would end if it started now, after the move ahead of it where it waits (R199, Table 9.1). -/
def Axis.endOf (x : Axis) (m : Move) (behind : Bool) : Int × Int :=
  let from_ := match x.gen.act, behind with
    | .move a, true => a.target
    | _, _ => x.gen.p
  (from_, match m.rel with
    | some r => from_ + r
    | none => m.target)

/-- A target lies in the envelope position window of axis i. -/
def State.inWindow (s : State) (i : Nat) (t : Int) : Bool :=
  let e := s.envOf i
  !(edgeIn e.hi && decide (t > e.hi * 4294967296)) && !(edgeIn e.lo && decide (t < e.lo * 4294967296))

/-- Queued moves of the device (R205). -/
def State.queuedMoves (s : State) : Nat := (s.axisList.filter (fun i => (s.ax i).gen.queued.isSome)).length

/-- How a MOVE is judged by generator state: a refusal, a start, or a wait behind the move ahead (Table 9.3, R201, R205). -/
inductive MoveFate where
  | no (status : Nat)
  | starts
  | waits
  deriving DecidableEq, Repr

/-- A MOVE with `QUEUE` = 0 (Table 9.3, R201). -/
def Gen.fateNow (g : Gen) (m : Move) : MoveFate :=
  match g.st with
  | 0 | 6 | 7 | 9 => .starts
  | 1 => match g.act with
    | .move a => if m.scurve || a.scurve then .no stBusyMoving else .starts
    | _ => .no stBusyMoving
  | 2 => if m.scurve && !g.still then .no stBusyMoving else .starts
  | _ => .no stBusyMoving

/-- A MOVE with `QUEUE` = 1 (R205). -/
def Gen.fateQueue (g : Gen) (m : Move) : MoveFate :=
  match g.st with
  | 0 => .starts
  | 1 => .waits
  | 4 | 5 | 6 | 7 | 8 | 9 =>
    if g.hasPos && !g.discard then .waits else if g.hasJog then .no stBusyMoving else g.fateNow m
  | _ => .no stBusyMoving

/-- A MOVE that may start or wait is judged against the limits, the window and the queue, and takes its place: it waits behind the move
ahead, or starts at its boundary, late where that has passed (R201, R205, R213, R372, R378). -/
def State.placeMove (s : State) (i : Nat) (m : Move) (n : Nat) (waits : Bool) : Answer :=
  let x := s.ax i
  let e := x.endOf m waits
  if !waits && x.gen.towardLimit (if m.jog then sgnI m.v else sgnI (e.2 - e.1)) then refuse s stBadArg
  else if !m.jog && !s.inWindow i e.2 then refuse s stEnvelope
  else if waits && x.gen.queued.isSome then refuse s stBusy
  else if waits && decide (8 ≤ s.queuedMoves) then refuse s stNoResource
  else if waits then
    ok ((s.setAx i ({ x with gen := { x.gen with queued := some (m, n) } } : Axis).bump).markChanged i) (words64 0)
  else
    let late := decide (n ≠ 0) && decide (s.clk.b n < s.now)
    let at_ := if n = 0 || late then s.clk.cycle + 1 else n
    .done (if late then stCommitLate else stOk) (words64 at_)
      (s.setAx i { x with gen := { x.gen with pend := some (m, at_) } })

/-- MOVE.START (R199, R201, R205, R213, R378). -/
def moveStartCmd : HostCmd :=
  { opcode := 0x0801, modes := mA, hold := true, standby := true
    valid := fun p => p.length == 10 && itemSel p && moveOk p && within (pw p 9) 0xFFFF
    run := fun _ p s =>
      let i := selItem p
      let x := s.ax i
      let m := moveOf p
      let n := w64 (pw p 8) (pw p 9)
      let st := s.startStatus i
      if st ≠ 0 then refuse s st
      else if x.srcSel ≠ 0 || decide (m.dec > x.prf0.toNat) || decide (s.clk.cycle + 32767 < n) then refuse s stBadArg
      else if x.gen.pend.isSome then refuse s stBusy
      else
        match (if bit (pw p 3) 3 then x.gen.fateQueue m else x.gen.fateNow m) with
        | .no st => refuse s st
        | .starts => s.placeMove i m n false
        | .waits => s.placeMove i m n true }
def execMoveStart (h : Hdr) (p : List Word) (s : State) : Result' := .next (hostCommand moveStartCmd h p s)

/-- What a stop, hold, resume or abort request does to axis i: its status and the state it leaves (Table 9.3, R209, R378). -/
def State.request (s : State) (i kind : Nat) : Nat × State :=
  let x := s.ax i
  if kind = 3 then
    let st := s.startStatus i
    if st ≠ 0 then (st, s)
    else
      let o := x.resume (s.pulseView x) s.bNow
      if o.status ≠ 0 then (o.status, s) else (stOk, s.putReq i o)
  else if !x.enabled then (stBadArg, s)
  else
    let o := if kind = 1 then x.quickStop else if kind = 2 then x.hold else x.abort
    if o.status ≠ 0 then (o.status, s) else (stOk, (s.putReq i o).stopChirp i)

/-- The body of a request to one axis. -/
def requestRun (kind : Nat) (p : List Word) (s : State) : Answer :=
  let r := s.request (selItem p) kind
  if r.1 ≠ 0 then refuse s r.1 else ok r.2 [wd (r.2.ax (selItem p)).gen.st]

/-- MOVE.QUICK_STOP (R207). -/
def moveQuickStopCmd : HostCmd :=
  { opcode := 0x0802, modes := mAH, standby := true, valid := fun p => p.length == 1 && itemSel p, run := fun _ p s => requestRun 1 p s }
def execMoveQuickStop (h : Hdr) (p : List Word) (s : State) : Result' := .next (hostCommand moveQuickStopCmd h p s)

/-- MOVE.HOLD (R207). -/
def moveHoldCmd : HostCmd :=
  { opcode := 0x0803, modes := mAH, standby := true, valid := fun p => p.length == 1 && itemSel p, run := fun _ p s => requestRun 2 p s }
def execMoveHold (h : Hdr) (p : List Word) (s : State) : Result' := .next (hostCommand moveHoldCmd h p s)

/-- MOVE.RESUME (R208). -/
def moveResumeCmd : HostCmd :=
  { opcode := 0x0804, modes := mA, hold := true, standby := true, valid := fun p => p.length == 1 && itemSel p
    run := fun _ p s => requestRun 3 p s }
def execMoveResume (h : Hdr) (p : List Word) (s : State) : Result' := .next (hostCommand moveResumeCmd h p s)

/-- MOVE.ABORT (R209). -/
def moveAbortCmd : HostCmd :=
  { opcode := 0x0805, modes := mAH, standby := true, valid := fun p => p.length == 1 && itemSel p, run := fun _ p s => requestRun 4 p s }
def execMoveAbort (h : Hdr) (p : List Word) (s : State) : Result' := .next (hostCommand moveAbortCmd h p s)

/-- Local axes named by a 256-bit mask in eight words. -/
def maskAxes (ws : List Word) : List Nat := (List.range 256).filter (fun i => bit (pw ws (i / 32)) (i % 32))

/-- A mask of axes as eight words. -/
def axesMask (l : List Nat) : List Word := (List.range 8).map (fun k => wd (ofBits ((l.filter (fun i => i / 32 == k)).map (· % 32))))

/-- A request to every named axis in ascending order: the state, the refused axes and the status of the lowest (R378). -/
def State.requests (s : State) (kind : Nat) : List Nat → State × List Nat × Nat
  | [] => (s, [], 0)
  | i :: l =>
    let r := s.request i kind
    let z := r.2.requests kind l
    if r.1 = 0 then z else (z.1, i :: z.2.1, r.1)

/-- MOVE.SET_STOP (R378). -/
def moveSetStopCmd : HostCmd :=
  { opcode := 0x0806, modes := mAH, standby := true
    valid := fun p => p.length == 9 && within (pw p 0) 7 && decide (1 ≤ fld (pw p 0) 2 0) && decide (fld (pw p 0) 2 0 ≤ 4)
    run := fun _ p s =>
      let kind := fld (pw p 0) 2 0
      if kind = 3 && s.md.mode == .safeHold then refuse s stSafeHold
      else
        let r := s.requests kind (maskAxes (p.drop 1))
        .done r.2.2 (axesMask r.2.1) r.1 }
def execMoveSetStop (h : Hdr) (p : List Word) (s : State) : Result' := .next (hostCommand moveSetStopCmd h p s)

end Sys2Proof.Machine
end

