-- ==== Sys2Proof/Machine/CmdLoop.lean ====
section
/-!
DEFINITION. LOOP commands (R146, R149 to R151, R157, R162, R163, R170, R177, R379, Table 15.11).
-/
namespace Sys2Proof.Machine

/-- Bits of w0 that a source change may differ in: `SRC` and `SOFT` (R157). -/
def srcBits : Nat := 0x1C0

/-- Two configurations agree but for `SRC` and `SOFT`. -/
def Axis.sameBut (x : Axis) (w0 w1 w2 : Word) : Bool :=
  (x.cfg0 &&& ~~~(wd srcBits)) == (w0 &&& ~~~(wd srcBits)) && x.cfg1 == w1 && x.cfg2 == w2

/-- The axes of the device with axis i as `y` stay within its limit at the gear (R30, R31, Table 17.8): chain axes and step axes. -/
def State.axesWith (s : State) (i : Nat) (y : Axis) : Bool :=
  !y.isStep || (s.ax i).isStep || decide (s.mappedAxes.length + s.stepAxes.length < maxAxes s.clk.gear)

/-- LOOP.CFG_WRITE (R157, R162, R163). A change to a stream would start motion while a standstill shift is pending (R49). -/
def loopCfgWriteCmd : HostCmd :=
  { opcode := 0x0901, modes := mCA, hold := true, standby := true, config := true
    valid := fun p => p.length == 4 && itemSel p && loopWordsOk (pw p 1) (pw p 2)
    run := fun _ p s =>
      let i := selItem p
      let x := s.ax i
      let y := { x with cfg0 := pw p 1, cfg1 := pw p 2, cfg2 := pw p 3 }
      if x.enabled && !x.sameBut (pw p 1) (pw p 2) (pw p 3) then refuse s stBusyMoving
      else if !s.axisFits s.ch0.active.map s.ch1.active.map s.clk.gear i y then refuse s stBadArg
      else if (y.isCur && !x.isCur && decide (32 ≤ s.curAxes.length)) || !s.axesWith i y then refuse s stNoResource
      else if x.enabled then
        if y.srcSel = x.srcSel then ok (s.setAx i { x with srcNext := some (pw p 1) })
        else if y.softOn && y.softRate == 0 then refuse s stBadArg
        else if y.srcSel ≠ 0 && s.shiftLocks then refuse s stLocked
        else if x.stillOrHold || y.softOn then ok (s.setAx i { x with srcNext := some (pw p 1) })
        else refuse s stBusyMoving
      else
        let t := s.setAx i { y with srcNext := none }
        ok (if y.template = 0 then t.tryClose else t.account i t.clk.cycle) }
def execLoopCfgWrite (h : Hdr) (p : List Word) (s : State) : Result' := .next (hostCommand loopCfgWriteCmd h p s)

/-- LOOP.CFG_READ (R157): the words as last written. -/
def loopCfgReadCmd : HostCmd :=
  { opcode := 0x0902
    valid := fun p => p.length == 1 && itemSel p
    run := fun _ p s => let x := s.ax (selItem p); ok s [x.srcNext.getD x.cfg0, x.cfg1, x.cfg2] }
def execLoopCfgRead (h : Hdr) (p : List Word) (s : State) : Result' := .next (hostCommand loopCfgReadCmd h p s)

/-- LOOP.CUR_WRITE (Table 7.1): a write that changes nothing is accepted on an enabled axis too (R157, R171). -/
def loopCurWriteCmd : HostCmd :=
  { opcode := 0x0903, modes := mCA, hold := true, standby := true, config := true
    valid := fun p =>
      let o := fld (pw p 1) 2 0
      p.length == 2 && itemSel p && within (pw p 1) 0xF && (o == 0 || o == 1 || o == 2 || o == 5) && (!bit (pw p 1) 3 || o == 0)
    run := fun _ p s =>
      if (s.ax (selItem p)).enabled && (s.ax (selItem p)).cur != pw p 1 then refuse s stBusyMoving
      else ok (s.updAx (selItem p) (fun x => { x with cur := pw p 1 })) }
def execLoopCurWrite (h : Hdr) (p : List Word) (s : State) : Result' := .next (hostCommand loopCurWriteCmd h p s)

/-! ## Coefficient sets -/

/-- A pending swap names axis i: its shadow may not be edited (R96, R151). -/
def State.swapNames (s : State) (i : Nat) : Bool :=
  match s.pend.swap with
  | some w => w.axes.testBit i
  | none => false

/-- A ranged write of coefficients: words of the entries, their first index and the gear. -/
def coefIdx (p : List Word) : Nat := fld (pw p 1) 4 0

/-- LOOP.COEF_WRITE (R146, R150, R379). -/
def loopCoefWriteCmd : HostCmd :=
  { opcode := 0x0904, modes := mCAH, standby := true, config := true
    valid := fun p =>
      let n := selCount p
      p.length == 2 + 2 * n && selOk p (mItem ||| mCount) && decide (1 ≤ n) && decide (n ≤ 30) && within (pw p 1) 0x71F &&
      decide (coefIdx p + n ≤ 32) && (List.range n).all (fun j => within (pw p (3 + 2 * j)) 0x3F && decide (fld (pw p (3 + 2 * j)) 5 0 ≠ 32))
    run := fun _ p s =>
      let i := selItem p
      let n := selCount p
      if s.swapNames i then refuse s stLocked
      else
        let ms := (List.range n).map (fun j => pw p (2 + 2 * j))
        let ss := (List.range n).map (fun j => pw p (3 + 2 * j))
        ok (s.updAx i (fun x => { x with sh := { x.sh with
          m := Tbl.putRange x.sh.m (coefIdx p) ms, s := Tbl.putRange x.sh.s (coefIdx p) ss, gear := fld (pw p 1) 10 8, ready := false } })) }
def execLoopCoefWrite (h : Hdr) (p : List Word) (s : State) : Result' := .next (hostCommand loopCoefWriteCmd h p s)

/-- LOOP.PARAM_WRITE (R150, R379). -/
def loopParamWriteCmd : HostCmd :=
  { opcode := 0x0905, modes := mCAH, standby := true, config := true
    valid := fun p => p.length == 10 && itemSel p && within (pw p 1) 7
    run := fun _ p s =>
      let i := selItem p
      if s.swapNames i then refuse s stLocked
      else ok (s.updAx i (fun x => { x with sh := { x.sh with
        p := Tbl.putRange x.sh.p 0 (p.drop 2), gear := fld (pw p 1) 2 0, ready := false } })) }
def execLoopParamWrite (h : Hdr) (p : List Word) (s : State) : Result' := .next (hostCommand loopParamWriteCmd h p s)

/-- LOOP.READY (R150, R177). -/
def loopReadyCmd : HostCmd :=
  { opcode := 0x0906, modes := mCAH, standby := true, config := true
    valid := fun p => p.length == 1 && itemSel p
    run := fun _ p s =>
      let i := selItem p
      let x := s.ax i
      if s.swapNames i then refuse s stLocked
      else if !readyOk x.sh x.template x.outer then refuse s stBadArg
      else ok (s.setAx i { x with sh := { x.sh with ready := true } }) }
def execLoopReady (h : Hdr) (p : List Word) (s : State) : Result' := .next (hostCommand loopReadyCmd h p s)

/-- Active and shadow sets change places; states stay (R151). -/
def Axis.swapSets (x : Axis) : Axis := { x with act := x.sh, sh := x.act }

/-- A swap takes effect with effective cycle e, 0 in CONFIGURE: event 44 (R413). -/
def State.applySwap (s : State) (axes e : Nat) : State :=
  ({ (setBits 256 axes).foldl (fun t i => t.updAx i Axis.swapSets) s with pend := { s.pend with swap := none } } : State).raise 44
    (setBits 256 axes).length (e % 2 ^ 32)

/-- LOOP.SWAP (R95, R96, R151). -/
def loopSwapCmd : HostCmd :=
  { opcode := 0x0907, modes := mCA, hold := true, standby := true, config := true
    valid := fun p => p.length == 10 && within (pw p 9) 0xFFFF && (p.take 8).any (fun w => w != 0)
    run := fun r p s =>
      let l := maskAxes (p.take 8)
      let e := w64 (pw p 8) (pw p 9)
      if s.pend.swap.isSome || s.pend.shift.isSome then refuse s stLocked
      else if !l.all (fun i => (s.ax i).sh.ready && (s.ax i).sh.gear == s.clk.gear) then refuse s stBadArg
      else if s.md.mode = .configure then ok (s.applySwap (ofBits l) 0) (words64 0)
      else if e < s.clk.cycle + 2 || s.clk.cycle + 32767 < e then refuse s stBadArg
      else
        let x := s.lateEffect r.lag e
        .done (if x.2 then stCommitLate else stOk) (words64 x.1) { s with pend := { s.pend with swap := some { axes := ofBits l, e := x.1 } } } }
def execLoopSwap (h : Hdr) (p : List Word) (s : State) : Result' := .next (hostCommand loopSwapCmd h p s)

/-- Set header (Table 6.3). -/
def CoefSet.header (c : CoefSet) : Word := wd (c.gear + bitAt 3 c.ready)

/-- LOOP.COEF_READ (R149). -/
def loopCoefReadCmd : HostCmd :=
  { opcode := 0x0908
    valid := fun p => p.length == 2 && selOk p (mItem ||| mActive ||| mCount) && within (pw p 1) 0x3F &&
      (bit (pw p 1) 5 || (decide (1 ≤ selCount p) && decide (selCount p ≤ 30) && decide (coefIdx p + selCount p ≤ 32)))
    run := fun _ p s =>
      let x := s.ax (selItem p)
      let c := if selActive p then x.act else x.sh
      ok s (c.header :: (if bit (pw p 1) 5 then Tbl.getRange 0 c.p 0 8
        else (List.range (selCount p)).flatMap (fun j => [Tbl.get 0 c.m (coefIdx p + j), Tbl.get 0 c.s (coefIdx p + j)]))) }
def execLoopCoefRead (h : Hdr) (p : List Word) (s : State) : Result' := .next (hostCommand loopCoefReadCmd h p s)

end Sys2Proof.Machine
end

