-- ==== Sys2Proof/Machine/CmdTable.lean ====
section
/-!
DEFINITION. TABLE commands: edits of the shadow tables, staging and commit (R34, R90 to R100, R124, R132, R375, Table 15.5).
-/
namespace Sys2Proof.Machine

/-- A pending commit names chain c. -/
def State.commitNames (s : State) (c : Nat) : Bool :=
  match s.pend.commit with
  | some k => if c = 0 then k.ch0 else k.ch1
  | none => false

/-- A pending commit names the budget set. -/
def State.commitBudgetPending (s : State) : Bool :=
  match s.pend.commit with
  | some k => k.budget
  | none => false

/-- The shadow spoke map is locked by its staging (R99). -/
def Chain.mapLocked (x : Chain) : Bool :=
  match x.staging with
  | some g => g.lock
  | none => false

/-- The shadow tables of a chain changed. -/
def State.editShadow (s : State) (c : Nat) (f : Tables → Tables) : State := s.updCh c (fun x => { x with shadow := f x.shadow })

/-- A ranged write of n entries of `width` words. -/
def rangedLen (p : List Word) (width : Nat) : Bool := p.length == 1 + width * selCount p

/-- Selector of the three chain tables. -/
def tableSel (p : List Word) : Bool := selOk p (mItem ||| mChain ||| mCount)

/-- Entry j of a ranged write of `width` words, word k. -/
def entryW (p : List Word) (width j k : Nat) : Word := pw p (1 + width * j + k)

/-- TABLE.WIN_WRITE (R90, Table 4.1). -/
def tableWinWriteCmd : HostCmd :=
  { opcode := 0x0501, modes := mCA, hold := true, standby := true, config := true
    valid := fun p => tableSel p && rangeOk p 8 8 && rangedLen p 2 &&
      (List.range (selCount p)).all (fun j => winEntryOk (entryW p 2 j 0) (entryW p 2 j 1))
    run := fun _ p s =>
      if s.commitNames (selChain p) || s.pend.shift.isSome then refuse s stLocked
      else ok (s.editShadow (selChain p) (fun t => { t with win := Tbl.putRange t.win (2 * selItem p) (p.drop 1) })) }
def execTableWinWrite (h : Hdr) (p : List Word) (s : State) : Result' := .next (hostCommand tableWinWriteCmd h p s)

/-- TABLE.MAP_WRITE (R99, Table 4.3). -/
def tableMapWriteCmd : HostCmd :=
  { opcode := 0x0502, modes := mCA, hold := true, standby := true, config := true
    valid := fun p => tableSel p && rangeOk p 61 128 && rangedLen p 1 &&
      (List.range (selCount p)).all (fun j => mapEntryOk (entryW p 1 j 0))
    run := fun _ p s =>
      if s.commitNames (selChain p) || (s.ch (selChain p)).mapLocked then refuse s stLocked
      else ok (s.editShadow (selChain p) (fun t => { t with map := Tbl.putRange t.map (selItem p) (p.drop 1) })) }
def execTableMapWrite (h : Hdr) (p : List Word) (s : State) : Result' := .next (hostCommand tableMapWriteCmd h p s)

/-- TABLE.NODE_WRITE (R94, Table 4.4). -/
def tableNodeWriteCmd : HostCmd :=
  { opcode := 0x0503, modes := mCA, hold := true, standby := true, config := true
    valid := fun p => tableSel p && rangeOk p 15 64 && rangedLen p 4 &&
      (List.range (selCount p)).all (fun j => nodeEntryOk (entryW p 4 j 1) (entryW p 4 j 2) (entryW p 4 j 3))
    run := fun _ p s =>
      if s.commitNames (selChain p) then refuse s stLocked
      else ok (s.editShadow (selChain p) (fun t => { t with node := Tbl.putRange t.node (4 * selItem p) (p.drop 1) })) }
def execTableNodeWrite (h : Hdr) (p : List Word) (s : State) : Result' := .next (hostCommand tableNodeWriteCmd h p s)

/-- TABLE.BUDGET_WRITE (R34, R44, Table 2.3). -/
def tableBudgetWriteCmd : HostCmd :=
  { opcode := 0x0504, modes := mCA, hold := true, standby := true, config := true
    valid := fun p => p.length == 9 && (p.take 8).all (fun w => within w 0xFFFFFF) && within (pw p 8) 0x1F
    run := fun _ p s =>
      if s.commitBudgetPending || s.pend.shift.isSome then refuse s stLocked
      else ok { s with budget := { s.budget with shadow := Tbl.putRange s.budget.shadow 0 (p.take 8), shadowW5 := pw p 8 } } }
def execTableBudgetWrite (h : Hdr) (p : List Word) (s : State) : Result' := .next (hostCommand tableBudgetWriteCmd h p s)

/-- Words of TABLE.READ. -/
def tableReadWords (s : State) (p : List Word) : List Word :=
  let x := s.ch (selChain p)
  let t := if selActive p then x.active else x.shadow
  match selSub p with
  | 0 => Tbl.getRange 0 t.win (2 * selItem p) (2 * selCount p)
  | 1 => Tbl.getRange 0 t.map (selItem p) (selCount p)
  | 2 => Tbl.getRange 0 t.node (4 * selItem p) (4 * selCount p)
  | _ => if selActive p then Tbl.getRange 0 s.budget.active 0 8 ++ [s.budget.activeW5]
         else Tbl.getRange 0 s.budget.shadow 0 8 ++ [s.budget.shadowW5]

/-- TABLE.READ (R90). -/
def tableReadCmd : HostCmd :=
  { opcode := 0x0505
    valid := fun p => p.length == 1 && selOk p (mItem ||| mChain ||| mSub ||| mActive ||| mCount) &&
      (match selSub p with
       | 0 => rangeOk p 8 8
       | 1 => rangeOk p 61 128
       | 2 => rangeOk p 15 64
       | _ => true)
    run := fun _ p s => ok s (tableReadWords s p) }
def execTableRead (h : Hdr) (p : List Word) (s : State) : Result' := .next (hostCommand tableReadCmd h p s)

/-- TABLE.STAGE (R99, R375): with no node affected it is complete at once. -/
def tableStageCmd : HostCmd :=
  { opcode := 0x0506, modes := mA, standby := true
    valid := fun p => p.length == 3 && selOk p mChain && within (pw p 2) 0xFFFF
    run := fun r p s =>
      let c := selChain p
      let e := w64 (pw p 1) (pw p 2)
      if s.commitNames c || s.pend.shift.isSome then refuse s stLocked
      else if e < s.clk.cycle + 8 || s.clk.cycle + 32767 < e then refuse s stBadArg
      else
        let t := (s.dropStaging c).stageMap c e (some r)
        match (t.ch c).staging with
        | some g => if g.affected = 0 then
            ok (t.updCh c (fun x => { x with staging := some { g with ref := none } })) g.answer else .wait t
        | none => .wait t }
def execTableStage (h : Hdr) (p : List Word) (s : State) : Result' := .next (hostCommand tableStageCmd h p s)

/-! ## Commit -/

/-- The staging of chain c holds the map to commit, confirmed at every node it affects (R99, Table 4.5). -/
def Chain.stagedFor (x : Chain) : Bool :=
  match x.staging with
  | some g => g.map == x.shadow.map && (g.affected &&& g.confirmed) == g.affected
  | none => false

/-- The e of the staging in force of the shadow map. -/
def Chain.stagedE (x : Chain) : Option Nat :=
  match x.staging with
  | some g => if g.map == x.shadow.map then some g.e else none
  | none => none

/-- The commit changes the spoke of some node axis of chain c (R99). -/
def Chain.mapChanges (x : Chain) : Bool := differing x.active.map x.shadow.map != 0

/-- Staging asked of a commit at a running head: 0, BUSY or BAD_ARG (Table 4.5, R100). -/
def State.stagedStatus (s : State) (c e : Nat) : Nat :=
  let x := s.ch c
  if !x.mapChanges then stOk
  else if !x.stagedFor then stBusy
  else if x.stagedE ≠ some e then stBadArg
  else stOk

/-- The commit names the e of a staging in force, so the bound c + 2 does not apply (R100). -/
def State.stagedExempt (s : State) (n0 n1 : Bool) (e : Nat) : Bool :=
  (n0 && s.ch0.stagedE == some e) || (n1 && s.ch1.stagedE == some e)

/-- Checks of a commit that depend on the tables and the budget set (Tables 4.5 and 2.4). -/
def State.commitChecks (s : State) (k : Commit) (running : Bool) : Nat :=
  let t (c : Nat) (n : Bool) : Tables := if n then (s.ch c).shadow else (s.ch c).active
  let a := if k.ch0 || k.ch1 then s.commitStatus s.clk.gear k.ch0 k.ch1 (t 0 k.ch0) (t 1 k.ch1) else stOk
  let b := if running && k.ch0 then s.stagedStatus 0 k.e else stOk
  let c := if running && k.ch1 then s.stagedStatus 1 k.e else stOk
  let d := if k.budget then s.budgetStatus s.clk.gear (fun j => Tbl.get 0 s.budget.shadow j) s.budget.shadowW5 else stOk
  if a ≠ 0 then a else if b ≠ 0 then b else if c ≠ 0 then c else d

/-- TABLE.COMMIT (R95 to R100, R375). -/
def tableCommitCmd : HostCmd :=
  { opcode := 0x0507, modes := mCA, hold := true, standby := true, config := true
    valid := fun p => p.length == 3 && within (pw p 0) 7 && decide (fld (pw p 0) 2 0 ≠ 0) && within (pw p 2) 0xFFFF
    run := fun r p s =>
      let e := w64 (pw p 1) (pw p 2)
      let k : Commit := { ch0 := bit (pw p 0) 0, ch1 := bit (pw p 0) 1, budget := bit (pw p 0) 2, e := e }
      if s.pend.commit.isSome || s.pend.shift.isSome then refuse s stLocked
      else if s.md.mode = .configure then
        let st := s.commitChecks k false
        if st ≠ 0 then refuse s st else ok (s.applyCommit k) (words64 0)
      else if (e < s.clk.cycle + 2 && !s.stagedExempt k.ch0 k.ch1 e) || s.clk.cycle + 32767 < e then refuse s stBadArg
      else
        let st := s.commitChecks k true
        if st ≠ 0 then refuse s st
        else
          let x := s.lateEffect r.lag e
          .done (if x.2 then stCommitLate else stOk) (words64 x.1) { s with pend := { s.pend with commit := some { k with e := x.1 } } } }
def execTableCommit (h : Hdr) (p : List Word) (s : State) : Result' := .next (hostCommand tableCommitCmd h p s)

end Sys2Proof.Machine
end

