-- ==== Sys2Proof/Machine/CmdPort.lean ====
section
/-!
DEFINITION. PULSE, FEEDBACK and ADC commands (R217, R219, R223, R237, R241 to R248, Tables 15.12 and 15.13).
-/
namespace Sys2Proof.Machine

/-- Enabled local axes. -/
def State.enabledAxes (s : State) : List Nat := s.axisList.filter (fun i => (s.ax i).enabled)

/-- The selector names one of sixteen ports. -/
def portSel (p : List Word) : Bool := itemSel p && decide (selItem p < 16)

/-! ## Pulse inputs and step outputs -/

/-- PULSE.PIN_CFG (R217, Table 9.8). -/
def pulsePinCfgCmd : HostCmd :=
  { opcode := 0x0A01, modes := mCA, hold := true, standby := true, config := true
    valid := fun p => p.length == 2 && portSel p && pinCfgOk (pw p 1)
    run := fun _ p s =>
      let n := selItem p
      if s.enabledAxes.any (fun i => (s.ax i).srcSel == 1 && (s.ax i).pinPort == n) then refuse s stBusyMoving
      else ok (s.setPin n { s.pin n with cfg := pw p 1 }) }
def execPulsePinCfg (h : Hdr) (p : List Word) (s : State) : Result' := .next (hostCommand pulsePinCfgCmd h p s)

/-- PULSE.STP_CFG (R219, Table 9.9). -/
def pulseStpCfgCmd : HostCmd :=
  { opcode := 0x0A02, modes := mCA, hold := true, standby := true, config := true
    valid := fun p => p.length == 2 && portSel p && stpCfgOk (pw p 1)
    run := fun _ p s =>
      let n := selItem p
      if s.enabledAxes.any (fun i => (s.ax i).isStep && (s.ax i).stpPort == n) then refuse s stBusyMoving
      else ok (s.setStp n { s.stp n with cfg := pw p 1 }) }
def execPulseStpCfg (h : Hdr) (p : List Word) (s : State) : Result' := .next (hostCommand pulseStpCfgCmd h p s)

/-- PULSE.READ (Table 15.12). -/
def pulseReadCmd : HostCmd :=
  { opcode := 0x0A03
    valid := fun p => p.length == 1 && selOk p (mItem ||| mClear) && decide (selItem p < 16)
    run := fun _ p s =>
      let n := selItem p
      let i := s.pin n
      let o := s.stp n
      let t := if selClear p then (s.setPin n { i with errs := 0 }).setStp n { o with suppressed := 0 } else s
      ok t [wdi i.count, wdi o.pos, wd o.suppressed, wd i.errs] }
def execPulseRead (h : Hdr) (p : List Word) (s : State) : Result' := .next (hostCommand pulseReadCmd h p s)

/-! ## Feedback ports -/

/-- FEEDBACK.CFG_WRITE (R223, R228, Table 10.2). -/
def feedbackCfgWriteCmd : HostCmd :=
  { opcode := 0x0B01, modes := mCA, hold := true, standby := true, config := true
    valid := fun p => p.length == 6 && portSel p
    run := fun _ p s =>
      let n := selItem p
      let f : FbPort := { s.fbp n with w0 := pw p 1, w1 := pw p 2, w2 := pw p 3, w3 := pw p 4, w4 := pw p 5 }
      if !f.cfgOk s.tc then refuse s stBadArg
      else if s.enabledAxes.any (fun i => (s.ax i).usesPort n) then refuse s stBusyMoving
      else ok (s.setFb n f.fresh) }
def execFeedbackCfgWrite (h : Hdr) (p : List Word) (s : State) : Result' := .next (hostCommand feedbackCfgWriteCmd h p s)

/-- FEEDBACK.CFG_READ (Table 15.12). -/
def feedbackCfgReadCmd : HostCmd :=
  { opcode := 0x0B02
    valid := fun p => p.length == 1 && portSel p
    run := fun _ p s => let f := s.fbp (selItem p); ok s [f.w0, f.w1, f.w2, f.w3, f.w4] }
def execFeedbackCfgRead (h : Hdr) (p : List Word) (s : State) : Result' := .next (hostCommand feedbackCfgReadCmd h p s)

/-- FEEDBACK.RESULT_READ; the read clears `Z_SEEN` (Tables 10.3 and 15.12). -/
def feedbackResultReadCmd : HostCmd :=
  { opcode := 0x0B03
    valid := fun p => p.length == 1 && portSel p
    run := fun _ p s =>
      let n := selItem p
      let f := s.fbp n
      ok (s.setFb n { f with res := { f.res with zSeen := false } }) f.res.words }
def execFeedbackResultRead (h : Hdr) (p : List Word) (s : State) : Result' := .next (hostCommand feedbackResultReadCmd h p s)

/-- FEEDBACK.SINGLE_READ: the request is made at once, the answer comes with the word or its timeout (R237). -/
def feedbackSingleReadCmd : HostCmd :=
  { opcode := 0x0B04, modes := [.configure, .syncUp]
    valid := fun p => p.length == 1 && portSel p
    run := fun r p s =>
      let n := selItem p
      let f := s.fbp n
      if f.mode ≠ 1 then refuse s stBadArg
      else if f.single.isSome || f.request.isSome then refuse s stBusy
      else .wait (s.setFb n { f.requestAt s.now with single := some r }) }
def execFeedbackSingleRead (h : Hdr) (p : List Word) (s : State) : Result' := .next (hostCommand feedbackSingleReadCmd h p s)

/-! ## Converters -/

/-- A trigger stands: a cycle point waits, or an absolute start is to come (R242, R243). -/
def Conv.isArmed (c : Conv) : Bool := c.armed && (c.trig == 1 || (c.trig == 2 && c.next.isSome))

/-- First absolute start at or after `t` (R243). -/
def Conv.firstStart (c : Conv) (t : Nat) : Nat :=
  let t0 := w64 c.w2 c.w3
  let step := c.w4.toNat * 1000
  if t ≤ t0 then t0 else if step = 0 then t else t0 + (t - t0 + step - 1) / step * step

/-- The configured trigger is armed from `t` (R243). -/
def Conv.arm (c : Conv) (t : Nat) : Conv :=
  match c.trig with
  | 0 => { c with armed := false, next := none }
  | 1 => { c with armed := true, next := none }
  | _ => { c with armed := true, next := some (c.firstStart t) }

/-- A write of `ADC.REF`, or of `ADC.TRIG` = 0, and of nothing else (R242). -/
def Conv.freeWrite (c : Conv) (w : List Word) : Bool :=
  let keep := ~~~(0x603 : Word)
  (pw w 0 &&& keep) == (c.w0 &&& keep) && (fld (pw w 0) 10 9 == 0 || fld (pw w 0) 10 9 == c.trig) &&
  pw w 1 == c.w1 && pw w 2 == c.w2 && pw w 3 == c.w3 && pw w 4 == c.w4

/-- Configuration words of a converter written. -/
def Conv.setCfg (c : Conv) (w : List Word) : Conv :=
  { c with w0 := pw w 0, w1 := pw w 1, w2 := pw w 2, w3 := pw w 3, w4 := pw w 4 }

/-- The selector names a converter. -/
def convSel (p : List Word) (mask : Nat) : Bool := selOk p (mSub ||| mask) && decide (selSub p ≤ 1)

/-- ADC.CFG_WRITE (R241, R242, R246, R247, Table 10.7). -/
def adcCfgWriteCmd : HostCmd :=
  { opcode := 0x0C01, standby := true, config := true
    valid := fun p => p.length == 6 && convSel p 0
    run := fun _ p s =>
      let x := selSub p
      let c := s.conv x
      let w := p.drop 1
      if !convCfgOk (x == 0) c.seq (pw w 0) (pw w 1) then refuse s stBadArg
      else if (c.run.isSome || c.isArmed) && !c.freeWrite w then refuse s stBusy
      else
        let d := c.setCfg w
        let e := if d.trig = 0 || !(c.run.isSome || c.isArmed) then d.arm s.now else d
        if fld c.w0 1 0 = fld d.w0 1 0 then ok (s.setConv x e)
        else ok ((s.setConv x (e.refChange x).1).raiseAll (e.refChange x).2) }
def execAdcCfgWrite (h : Hdr) (p : List Word) (s : State) : Result' := .next (hostCommand adcCfgWriteCmd h p s)

/-- ADC.SEQ_WRITE (R241, R242, R247, Table 10.6). -/
def adcSeqWriteCmd : HostCmd :=
  { opcode := 0x0C02, standby := true, config := true
    valid := fun p => convSel p (mItem ||| mCount) && rangeOk p 16 16 && rangedLen p 1
    run := fun _ p s =>
      let x := selSub p
      let c := s.conv x
      let seq := Tbl.putRange c.seq (selItem p) (p.drop 1)
      if !(p.drop 1).all (seqEntryOk c.lowPwr) || !convCfgOk (x == 0) seq c.w0 c.w1 then refuse s stBadArg
      else if c.run.isSome || c.isArmed then refuse s stBusy
      else ok (s.setConv x { c with seq := seq }) }
def execAdcSeqWrite (h : Hdr) (p : List Word) (s : State) : Result' := .next (hostCommand adcSeqWriteCmd h p s)

/-- Nominal mains period, from the settings (R239, Table 18.8). -/
def State.mainsNominal (s : State) : Nat := if bit s.settings 3 then 16666667 else 20000000

/-- ADC.START (R243, R248). -/
def adcStartCmd : HostCmd :=
  { opcode := 0x0C03
    valid := fun p => p.length == 1 && convSel p 0
    run := fun _ p s =>
      let c := s.conv (selSub p)
      if c.run.isSome || c.off then refuse s stBusy else ok (s.setConv (selSub p) (c.startSeq s.mainsNominal s.now)) }
def execAdcStart (h : Hdr) (p : List Word) (s : State) : Result' := .next (hostCommand adcStartCmd h p s)

/-- ADC.RESULT_READ (R244, Table 10.8). -/
def adcResultReadCmd : HostCmd :=
  { opcode := 0x0C04
    valid := fun p => p.length == 1 && convSel p (mItem ||| mCount) && rangeOk p 30 256
    run := fun _ p s => ok s (Tbl.getRange 0 (s.conv (selSub p)).res (2 * selItem p) (2 * selCount p)) }
def execAdcResultRead (h : Hdr) (p : List Word) (s : State) : Result' := .next (hostCommand adcResultReadCmd h p s)

/-- The three words of ADC.STAT_READ. -/
def Conv.statWords (c : Conv) : List Word :=
  [wd (bitAt 0 c.refOk + bitAt 1 c.lock + bitAt 2 c.run.isSome + bitAt 3 c.isArmed +
      at_ 4 (match c.run with | some r => (r.idx + 1) % Conv.seqLen r.w0 | none => 0)),
   wd c.period, wd c.skip]

/-- ADC.STAT_READ (Table 15.13). -/
def adcStatReadCmd : HostCmd :=
  { opcode := 0x0C05
    valid := fun p => p.length == 1 && convSel p mClear
    run := fun _ p s =>
      let x := selSub p
      let c := s.conv x
      ok (if selClear p then s.setConv x { c with skip := 0 } else s) c.statWords }
def execAdcStatRead (h : Hdr) (p : List Word) (s : State) : Result' := .next (hostCommand adcStatReadCmd h p s)

end Sys2Proof.Machine
end

