-- ==== Sys2Proof/Machine/CmdEnv.lean ====
section
/-!
DEFINITION. ENV commands (Table 15.13). No mailbox command writes the envelope.
-/
namespace Sys2Proof.Machine

/-- ENV.READ: a read checks the seal of the region (R434); its row brings the level of ENV_WE with the header (R254). -/
def envReadCmd : HostCmd :=
  { opcode := 0x0D01
    valid := fun p => p.length == 1 && selOk p (mItem ||| mCount) && rangeOk p 30 256
    run := fun _ p s =>
      ok (s.checkSeal 1 false) (wd (bitAt 0 (s.bbr.sealOk 1) + bitAt 1 s.env.unlocked + bitAt 2 s.env.we) ::
        Tbl.getRange 0 s.bbr.words (0x100 + 2 * selItem p) (2 * selCount p)) }
def execEnvRead (h : Hdr) (p : List Word) (s : State) : Result' := .next (hostCommand envReadCmd h p (s.seesWe h.we))

/-- ENV.CLAMP_READ. -/
def envClampReadCmd : HostCmd :=
  { opcode := 0x0D02
    valid := fun p => p.length == 1 && selOk p (mItem ||| mClear)
    run := fun _ p s =>
      let i := selItem p
      let t := if selClear p then s.updAx i (fun x => { x with cnt := { x.cnt with clamps := 0 } }) else s
      ok t [wd (s.ax i).cnt.clamps, wd (b2n (s.faults.get 7 i).lasting.isSome)] }
def execEnvClampRead (h : Hdr) (p : List Word) (s : State) : Result' := .next (hostCommand envClampReadCmd h p s)

end Sys2Proof.Machine
end

