-- ==== Sys2Proof/Machine/TwinId.lean ====
section
/-!
DEFINITION. The identity of a configuration: the words that TWIN.CFG_ID covers (Table 12.1).
-/
namespace Sys2Proof.Machine

/-! ## Identity of the configuration (Table 12.1) -/

/-- Words of a coefficient set. -/
def CoefSet.words (c : CoefSet) : List Word :=
  [wd (c.gear + bitAt 3 c.ready)] ++ Tbl.getRange 0 c.m 0 32 ++ Tbl.getRange 0 c.s 0 32 ++ Tbl.getRange 0 c.p 0 8

/-- Configuration words of an axis. -/
def Axis.cfgWords (x : Axis) : List Word :=
  [x.cfg0, x.cfg1, x.cfg2, x.cur, x.prf0, x.prf1, x.prf2, wd x.missN, wd x.missW] ++ x.act.words ++ x.sh.words

/-- Configuration words of a chain, its tables left out. -/
def Chain.cfgWords (x : Chain) : List Word := [x.cfg, x.portL, x.portR, wd x.emptyTh, x.guard0, x.guard1, x.missAt]

/-- Configuration words of a converter. -/
def Conv.cfgWords (c : Conv) : List Word := [c.w0, c.w1, c.w2, c.w3, c.w4] ++ Tbl.getRange 0 c.seq 0 16

/-- Configuration words of a CAN port. -/
def CanPort.cfgWords (q : CanPort) : List Word :=
  [q.cfg.w0, q.cfg.w1, q.cfg.w2, q.cfg.w3, q.cfg.w4] ++ Tbl.getRange 0 q.filt 0 256 ++ Tbl.getRange 0 q.win 0 128

/-- Every configuration word, the chain tables, the budget sets and the BBR left out (Table 12.1). -/
def State.cfgWords (s : State) : List Word :=
  (List.range 256).flatMap (fun i => (s.ax i).cfgWords) ++ s.ch0.cfgWords ++ s.ch1.cfgWords ++
  (List.range 16).flatMap (fun n => [(s.pin n).cfg, (s.stp n).cfg, (s.fbp n).w0, (s.fbp n).w1, (s.fbp n).w2, (s.fbp n).w3, (s.fbp n).w4]) ++
  s.pins.convS.cfgWords ++ s.pins.convP.cfgWords ++ s.safe.words ++ [s.twin.cfg, s.clu.cfg, wd s.clk.gear] ++
  (List.range 8).map (fun k => (Tbl.get {} s.pins.cp k).cfg) ++ (List.range 4).map (fun k => wd (Tbl.get {} s.pins.cap k).edge) ++
  [wd (b2n s.clk.ppsStep), s.trace.c0, s.trace.c1, s.trace.c2] ++ Tbl.getRange 0 s.trace.sig 0 64 ++ Tbl.getRange 0 s.trace.trig 0 32 ++ s.can.p0.cfgWords ++ s.can.p1.cfgWords ++ [s.can.s0, s.can.s1, s.can.s2] ++
  (List.range 36).map (fun k => wd ((s.faults.written k).n + at_ 8 (s.faults.written k).w + at_ 24 (s.faults.written k).r))

/-- `TWIN.CFG_ID`: of the words as written in CONFIGURE. -/
def State.twinCfgId (s : State) : Word := if s.md.mode = .configure then Config.twinCfgId s.cfgWords else s.twin.cfgId

end Sys2Proof.Machine
end

