-- ==== Sys2Proof/Machine/CmdTwin.lean ====
section
/-!
DEFINITION. TWIN and CLUSTER commands, the identity of a configuration, and the move of an axis (R221, R286, R307, R311, R315,
Tables 12.1, 12.10, 12.11 and 15.15).
-/
namespace Sys2Proof.Machine

/-! ## TWIN -/

/-- `TWIN.CFG` w0 in range (Table 12.1). -/
def twinCfgOk (w : Word) : Bool :=
  within w 0xFF03FF && decide (2 ≤ fld w 5 1) && decide (fld w 5 1 ≤ 16) && decide (1 ≤ fld w 9 6) && decide (fld w 9 6 ≤ 8) &&
  decide (fld w 23 16 ≤ 168)

/-- TWIN.CFG_WRITE (R286). -/
def twinCfgWriteCmd : HostCmd :=
  { opcode := 0x0F01, modes := mC
    valid := fun p => p.length == 1 && twinCfgOk (pw p 0)
    run := fun _ p s => ok { s with twin := { s.twin with cfg := pw p 0 } } }
def execTwinCfgWrite (h : Hdr) (p : List Word) (s : State) : Result' := .next (hostCommand twinCfgWriteCmd h p s)

/-- `TS.ROLE` (Table 12.10). -/
def State.twinRole (s : State) : Nat :=
  if !s.twin.enable then 0
  else if s.md.mode.heads then 1
  else if s.md.mode = .runStandby then 2
  else if s.md.mode = .configure && s.md.lapsed then 3
  else 0

/-- `TWIN.STAT` (Table 12.10). -/
def State.twinStat (s : State) : List Word :=
  [wd (s.twinRole + bitAt 2 s.twin.ready + bitAt 3 (s.twin.lanes == 3) + bitAt 4 s.twin.timeLock + bitAt 5 s.twin.cfgCurrent
      + bitAt 6 (s.twin.applied && !s.twin.stale) + at_ 7 (min s.twin.count 31)),
   wd s.twin.leaseSeq, wd s.twin.stateSeq, wdi s.link.eps, wd s.link.incomplete, wd s.link.swaps,
   wd (min ((s.now - s.link.hoursFrom) / 3600000000000) 0xFFFFFFFF)]

/-- TWIN.STATUS. -/
def twinStatusCmd : HostCmd :=
  { opcode := 0x0F02
    valid := fun p => p.length == 0
    run := fun _ _ s => ok s (s.twinStat ++ [s.twinCfgId]) }
def execTwinStatus (h : Hdr) (p : List Word) (s : State) : Result' := .next (hostCommand twinStatusCmd h p s)

/-- SET_DELAY of node a before a swap: the delay of the channel that the swap cuts is marked unknown (R307). -/
def State.swapDelayReq (s : State) (c a : Nat) : NodeReq :=
  let n := s.nd c a
  let m : Node := if nodePos (s.ch c).active.node a < Config.twinHops c then { n with dA := 0xFFFFFFFF } else { n with dB := 0xFFFFFFFF }
  m.delayReq (s.ch c) .swapDelay

/-- The planned swap begins: SET_DELAY to every node (R307). -/
def State.beginSwap (s : State) (r : MsgRef) : State :=
  let l := s.chains.flatMap (fun c => (s.ch c).assigned.map (fun a => a + 64 * c))
  let t := l.foldl (fun t x => t.queueReq (x / 64) (x % 64) (s.swapDelayReq (x / 64) (x % 64))) s
  let w : TwinSwap := { ref := r, waiting := l }
  if l.isEmpty then t.swapReady w else { t with link := { t.link with swap := some w } }

/-- TWIN.SWAP (R307). -/
def twinSwapCmd : HostCmd :=
  { opcode := 0x0F03, lead := true, modes := mA, standby := true
    valid := fun p => p.length == 0
    run := fun r _ s =>
      if !s.twinReady then refuse s stNoResource
      else if s.link.swap.isSome || s.pend.commit.isSome || s.pend.shift.isSome ||
          s.chains.any (fun c => (s.ch c).wrapped || (s.ch c).ring.close.isSome) then refuse s stBusy
      else .wait (s.beginSwap r) }
def execTwinSwap (h : Hdr) (p : List Word) (s : State) : Result' := .next (hostCommand twinSwapCmd h p s)

/-! ## CLUSTER -/

/-- CLUSTER.CFG_WRITE (Table 12.11). -/
def clusterCfgWriteCmd : HostCmd :=
  { opcode := 0x1001, lead := true, modes := mC
    valid := fun p => p.length == 1 && within (pw p 0) 0xF
    run := fun _ p s => if !bit (pw p 0) s.straps.cid then refuse s stBadArg else ok { s with clu := { s.clu with cfg := pw p 0 } } }
def execClusterCfgWrite (h : Hdr) (p : List Word) (s : State) : Result' := .next (hostCommand clusterCfgWriteCmd h p s)

/-- Boundary offsets of the members, one byte each. -/
def Cluster.offsets (c : Cluster) : Nat :=
  ((List.range 4).map (fun m => at_ (8 * m) (ubits 8 (clampI (-127) 127 (Tbl.get 0 c.offset m))))).sum

/-- CLUSTER.STATUS (Table 15.15). -/
def clusterStatusCmd : HostCmd :=
  { opcode := 0x1002
    valid := fun p => p.length == 0
    run := fun _ _ s =>
      ok s [wd (s.clu.joined % 16 + at_ 4 (s.clu.lost % 16) + bitAt 8 s.clu.otherWay), wd s.clu.offsets] }
def execClusterStatus (h : Hdr) (p : List Word) (s : State) : Result' := .next (hostCommand clusterStatusCmd h p s)

/-- The destination of a move takes over configuration, coefficient sets and generator of the source (R221, R315); a streamed
axis arrives in HELD. -/
def Axis.movedFrom (d x : Axis) : Axis :=
  let g := { x.gen with limP := d.gen.limP, limN := d.gen.limN, engageNew := false, softNew := false, soft := none }
  { d with cfg0 := x.cfg0, cfg1 := x.cfg1, cfg2 := x.cfg2, srcNext := none, cur := x.cur, prf0 := x.prf0, prf1 := x.prf1, prf2 := x.prf2
           enabled := x.enabled, act := x.act, sh := x.sh
           gen := if x.srcSel = 3 then { g with st := 7, act := .source } else g
           loop := {}, curst := {}, rel := {}, fb := { d.fb with known := false, prevOk := false }
           missN := x.missN, missW := x.missW, missNowN := x.missNowN, missNowW := x.missNowW
           pgen := (x.pgen + 1) % 65536 }

/-- The source of a move is switched off. -/
def Axis.switchedOff (x : Axis) : Axis :=
  { x with cfg0 := setFld x.cfg0 2 0 0, enabled := false, srcNext := none, want := none, inj := none
           gen := { limP := x.gen.limP, limN := x.gen.limN, p := x.gen.p } }

/-- Coefficient set of its words. -/
def CoefSet.ofWords (l : List Word) : CoefSet :=
  let h := l.getD 0 0
  { gear := fld h 2 0, ready := bit h 3, m := Tbl.putRange [] 0 ((l.drop 1).take 32), s := Tbl.putRange [] 0 ((l.drop 33).take 32)
    p := Tbl.putRange [] 0 ((l.drop 65).take 8) }

/-- An axis as it leaves over the bridge. -/
def Axis.moved (x : Axis) (i : Nat) : MovedAxis :=
  { cfg := x.cfgWords, record := x.record i, precs := x.profileRecs i, endCause := BitVec.ofNat 4 x.gen.endCause, remain := x.gen.remain
    target := x.gen.target }

/-- An axis as the bridge brought it. -/
def axisOfMoved (m : MovedAxis) (tc : Nat) : Axis :=
  let w (k : Nat) : Word := m.cfg.getD k 0
  let x : Axis := { cfg0 := w 0, cfg1 := w 1, cfg2 := w 2, cur := w 3, prf0 := w 4, prf1 := w 5, prf2 := w 6, missN := (w 7).toNat, missW := (w 8).toNat
                    missNowN := (w 7).toNat, missNowW := (w 8).toNat, act := .ofWords (m.cfg.drop 9), sh := .ofWords (m.cfg.drop 82) }
  let y := x.takeOver m.record ((m.precs.find? (fun r => !r.queued)).getD {}) ((m.precs.find? (·.queued)).getD {}) tc
  { y with gen := { y.gen with endCause := m.endCause.toNat, remain := m.remain, target := m.target } }

/-- An axis move takes effect at B(e) (R315): the sides that lie on this device, and event 111; to and from another member the bridge
carries the axis (R221). Fault windows of the axis start empty. -/
def State.applyMove (s : State) (m : AxisMove) : State :=
  let mine (g : Nat) : Bool := g / 256 == s.straps.cid
  let x := if mine m.src then s.ax (m.src % 256) else match s.clu.movedIn with
    | some a => axisOfMoved a s.tc
    | none => {}
  let empty (t : State) (i : Nat) : State :=
    { t with faults := { t.faults with inst := t.faults.inst.filter (fun f => !((f.cls == 1 || f.cls == 7) && f.idx == i)) } }
  let s1 := if mine m.dst && (mine m.src || s.clu.movedIn.isSome) then
      empty ((s.updAx (m.dst % 256) (fun d => d.movedFrom x)).markChanged (m.dst % 256)) (m.dst % 256) else s
  let s2 := if mine m.src then empty ((s1.updAx (m.src % 256) Axis.switchedOff).markChanged (m.src % 256)) (m.src % 256) else s1
  ({ s2 with pend := { s2.pend with move := none }
             clu := { s2.clu with movedIn := none
                                  movedOut := if mine m.src && !mine m.dst then some (x.moved (m.src % 256)) else s2.clu.movedOut } } : State).raise
    111 m.src m.dst

/-- States from which an axis may move (R315). -/
def Gen.movable (g : Gen) : Bool := g.st == 0 || g.st == 6 || g.st == 7 || g.st == 9

/-- The side of a move on this device that refuses it, or 0 (R315, R221). -/
def State.moveStatus (s : State) (m : AxisMove) : Nat :=
  let x := s.ax (m.src % 256)
  let d := s.ax (m.dst % 256)
  if m.src / 256 = s.straps.cid ∧ !x.gen.movable then stBusyMoving
  else if m.dst / 256 = s.straps.cid ∧ d.template ≠ 0 then stBadArg
  else if m.dst / 256 = s.straps.cid ∧ m.src / 256 ≠ s.straps.cid ∧ m.queued ∧ 8 ≤ s.queuedMoves then stNoResource
  else stOk

/-- CLUSTER.MOVE_AXIS (R95, R96, R315). -/
def clusterMoveAxisCmd : HostCmd :=
  { opcode := 0x1003, lead := true, modes := mCA, hold := true, config := true
    valid := fun p => p.length == 3 && within (pw p 0) 0x3FF03FF && within (pw p 2) 0xFFFF && decide (fld (pw p 0) 9 0 ≠ fld (pw p 0) 25 16)
    run := fun r p s =>
      let e := w64 (pw p 1) (pw p 2)
      let m : AxisMove := { src := fld (pw p 0) 9 0, dst := fld (pw p 0) 25 16, e := e, queued := r.queued }
      let st := s.moveStatus m
      if !s.memberOk (m.src / 256) || !s.memberOk (m.dst / 256) then refuse s stBadArg
      else if s.pend.move.isSome || s.pend.shift.isSome then refuse s stLocked
      else if s.md.mode = .configure then (if st ≠ 0 then refuse s st else ok (s.applyMove m) (words64 0))
      else if e < s.clk.cycle + 2 || s.clk.cycle + 32767 < e then refuse s stBadArg
      else if st ≠ 0 then refuse s st
      else
        let x := s.lateEffect r.lag e
        .done (if x.2 then stCommitLate else stOk) (words64 x.1) { s with pend := { s.pend with move := some { m with e := x.1 } } } }
def execClusterMoveAxis (h : Hdr) (p : List Word) (s : State) : Result' := .next (hostCommand clusterMoveAxisCmd h p s)

end Sys2Proof.Machine
end

