-- ==== Sys2Proof/Machine/CmdTrace.lean ====
section
/-!
DEFINITION. TRACE and FILTER commands (R382, R386 to R398, Table 15.17).
-/
namespace Sys2Proof.Machine

/-! ## TRACE -/

/-- An acquisition runs: it is armed, filling, or triggered and not yet done. -/
def Trace.busy (t : Trace) : Bool := t.st == 1 || t.st == 2 || t.st == 3

/-- TRACE.CFG_WRITE (R387, R388, R390). -/
def traceCfgWriteCmd : HostCmd :=
  { opcode := 0x1201
    valid := fun p => p.length == 3 && fld (pw p 0) 15 0 != 0 && fld (pw p 0) 31 16 != 0 && within (pw p 1) 0xFFFFFF &&
      within (pw p 2) 0x7F && decide (1 ≤ fld (pw p 2) 6 0) && decide (fld (pw p 2) 6 0 ≤ 64)
    run := fun _ p s =>
      if s.trace.busy then refuse s stBusy
      else ok { s with trace := { s.trace with c0 := pw p 0, c1 := pw p 1, c2 := pw p 2 } } }
def execTraceCfgWrite (h : Hdr) (p : List Word) (s : State) : Result' := .next (hostCommand traceCfgWriteCmd h p s)

/-- TRACE.SIG_WRITE (R386, Table 16.1). -/
def traceSigWriteCmd : HostCmd :=
  { opcode := 0x1202
    valid := fun p => selOk p (mItem ||| mCount) && rangeOk p 32 64 && rangedLen p 1 && (p.drop 1).all sigOk
    run := fun _ p s =>
      if s.trace.busy then refuse s stBusy
      else
        let k := selItem p
        ok { s with trace := { s.trace with
          sig := Tbl.putRange s.trace.sig k (p.drop 1)
          written := (List.range (selCount p)).foldl (fun w j => putBit w (k + j) true) s.trace.written } } }
def execTraceSigWrite (h : Hdr) (p : List Word) (s : State) : Result' := .next (hostCommand traceSigWriteCmd h p s)

/-- TRACE.TRIG_WRITE (R393, Table 16.4): the checks run on the sequencer as it would stand. -/
def traceTrigWriteCmd : HostCmd :=
  { opcode := 0x1203
    valid := fun p => selOk p (mItem ||| mCount) && rangeOk p 8 8 && rangedLen p 4
    run := fun _ p s =>
      let k := selItem p
      let t : Trace := { s.trace with trig := Tbl.putRange s.trace.trig (4 * k) (p.drop 1) }
      if !t.trigOk k (k + selCount p) then refuse s stBadArg
      else if s.trace.busy then refuse s stBusy
      else ok { s with trace := t } }
def execTraceTrigWrite (h : Hdr) (p : List Word) (s : State) : Result' := .next (hostCommand traceTrigWriteCmd h p s)

/-- Signal entries written since reset, from the first without a gap. -/
def Trace.entries (t : Trace) : Nat := ((List.range 64).takeWhile (fun k => t.written.testBit k)).length

/-- TRACE.ARM (R382, R390, R391). -/
def traceArmCmd : HostCmd :=
  { opcode := 0x1204
    valid := fun p => p.length == 0
    run := fun _ _ s =>
      let t := s.trace
      if decide (t.entries < fld t.c2 6 0) || decide (t.slotCount < t.preSlots + 1) then refuse s stBadArg
      else if t.busy then refuse s stBusy
      else ok { s with trace := t.arm } }
def execTraceArm (h : Hdr) (p : List Word) (s : State) : Result' := .next (hostCommand traceArmCmd h p s)

/-- The acquisition is stopped (R391). -/
def Trace.stop (t : Trace) : Trace :=
  if !t.busy then t
  else { t with st := if t.st = 3 then 4 else 0, armNew := false, stage := [], gap := none, seq := { t.seq with live := false } }

/-- TRACE.STOP (R391). -/
def traceStopCmd : HostCmd :=
  { opcode := 0x1205
    valid := fun p => p.length == 0
    run := fun _ _ s => ok { s with trace := s.trace.stop } }
def execTraceStop (h : Hdr) (p : List Word) (s : State) : Result' := .next (hostCommand traceStopCmd h p s)

/-- Words of TRACE.STATUS; an armed acquisition is idle until B(n_a) (R391). -/
def Trace.statusWords (t : Trace) : List Word :=
  [wd ((if t.armNew then 0 else t.st) + at_ 4 t.seq.st), wd (t.slots - t.gaps)] ++ words64 t.trigTime ++
  [wd (match t.trigSlot with | some k => k % t.slotCount * t.recLen | none => 0), wd t.gaps]

/-- TRACE.STATUS. -/
def traceStatusCmd : HostCmd :=
  { opcode := 0x1206
    valid := fun p => p.length == 0
    run := fun _ _ s => ok s s.trace.statusWords }
def execTraceStatus (h : Hdr) (p : List Word) (s : State) : Result' := .next (hostCommand traceStatusCmd h p s)

/-! ## FILTER -/

/-- Job numbers not in use. -/
def State.freeJob (s : State) : Option Nat := (List.range 60).find? (fun j => !s.jobs.any (fun q => q.1 == j))

/-- The mode check of a kind 2 job: RUN-ACTIVE, marked † (Table 15.17). -/
def chirpMode (m : Mode) : Nat := if m = .runActive then 0 else if m = .safeHold then stSafeHold else stWrongMode

/-- The axis takes a test signal (R397): an enabled axis of T1, T2 or T5 with output kind 0. -/
def Axis.takesChirp (x : Axis) : Bool :=
  x.enabled && (x.template == 1 || x.template == 2 || x.template == 5) && x.out == 0

/-- FILTER.JOB_START (R382, R395, R397 to R399, Table 16.6). -/
def filterJobStartCmd : HostCmd :=
  { opcode := 0x1301
    valid := fun p => p.length == 6
    run := fun _ p s =>
      let b : Job := { kind := fld (pw p 0) 3 0, axis := fld (pw p 0) 15 8, log2 := fld (pw p 1) 3 0, src := (pw p 2).toNat
                       dst := (pw p 3).toNat, p4 := pw p 4, p5 := pw p 5 }
      let x := s.ax b.axis
      let m := if b.kind = 2 then chirpMode s.md.mode else 0
      if m ≠ 0 then refuse s m
      else if !b.ok (pw p 0) (pw p 1) s.tc || (b.kind == 2 && !x.takesChirp) then refuse s stBadArg
      else if b.kind = 2 && !(x.gen.st == 0 || x.gen.st == 7) then refuse s stBusyMoving
      else
        match s.freeJob with
        | none => refuse s stNoResource
        | some j =>
          ok (({ s with jobs := Tbl.put s.jobs j { b with total := b.chunkTotal }
                        sched := { s.sched with heads := Tbl.put s.sched.heads (j + 4) 0 } } : State).arbRaise 0 (j + 2)) [wd j] }
def execFilterJobStart (h : Hdr) (p : List Word) (s : State) : Result' := .next (hostCommand filterJobStartCmd h p s)

/-- The payload names a job in use. -/
def State.jobKnown (s : State) (p : List Word) : Bool := s.jobs.any (fun q => q.1 == fld (pw p 0) 5 0)

/-- FILTER.JOB_STATUS (R398): a report of done or aborted frees the number. -/
def filterJobStatusCmd : HostCmd :=
  { opcode := 0x1302
    valid := fun p => p.length == 1 && within (pw p 0) 0x3F
    run := fun _ p s =>
      let j := fld (pw p 0) 5 0
      let b := s.job j
      if !s.jobKnown p then refuse s stBadArg
      else ok (if 2 ≤ b.st then { s with jobs := s.jobs.filter (fun q => q.1 != j) } else s)
        [wd (b.st + at_ 8 (ubits 8 b.exp)), wd b.chunks, wd b.len] }
def execFilterJobStatus (h : Hdr) (p : List Word) (s : State) : Result' := .next (hostCommand filterJobStatusCmd h p s)

/-- FILTER.JOB_ABORT (R398). -/
def filterJobAbortCmd : HostCmd :=
  { opcode := 0x1303
    valid := fun p => p.length == 1 && within (pw p 0) 0x3F
    run := fun _ p s => if !s.jobKnown p then refuse s stBadArg else ok (s.stopJob (fld (pw p 0) 5 0)) }
def execFilterJobAbort (h : Hdr) (p : List Word) (s : State) : Result' := .next (hostCommand filterJobAbortCmd h p s)

end Sys2Proof.Machine
end

