-- ==== Sys2Proof/Machine/FwOps.lean ====
section
/-!
DEFINITION. Firmware images: when an image verifies, the slots, and programming a slot (R362 to R365, R384).
-/
namespace Sys2Proof.Machine

/-- An image verifies (R363). -/
def imageOk (h : ImageHeader) : Bool :=
  h.magic == 0x414C594E && h.layout == 1 && decide (1 ≤ h.length.toNat) && decide (h.length.toNat ≤ 4194048) &&
  h.keyOk && h.sigOk && decide (Config.minSvn.toNat ≤ h.svn.toNat)

/-- The header alone is valid (FW.INFO). -/
def headerGood (h : ImageHeader) : Bool :=
  h.magic == 0x414C594E && h.layout == 1 && decide (1 ≤ h.length.toNat) && decide (h.length.toNat ≤ 4194048)

/-- A slot by its letter. -/
def Fw.slot (f : Fw) (b : Bool) : FwSlot := if b then f.b else f.a
def Fw.setSlot (f : Fw) (b : Bool) (x : FwSlot) : Fw := if b then { f with b := x } else { f with a := x }

/-- What a verification of a slot found. -/
def FwSlot.checked (x : FwSlot) (h : ImageHeader) : FwSlot :=
  { x with header := some h, headerValid := headerGood h, verified := imageOk h }

/-- The slot that runs, if the firmware runs (R365). -/
def State.runs (s : State) (b : Bool) : Bool := s.host.fwRunning && !s.host.loader && s.host.imageB == b

/-- Sectors a chunk of n words at an offset touches. -/
def chunkSectors (off n : Nat) : List Nat :=
  (List.range ((off + 4 * n - 1) / 4096 + 1 - off / 4096)).map (fun i => off / 4096 + i)

/-- The chunk starts at or above the end of what was written into its sectors since their erase (R384). -/
def FwSlot.ascends (x : FwSlot) (off n : Nat) : Bool :=
  (chunkSectors off n).all (fun k => decide (Tbl.get 0 x.ends k ≤ max off (4096 * k)))

/-- A sector's 4,096 bytes erased: every byte 0xFF. -/
def eraseSector (m : Memory) (base k : Nat) : Memory := m.writeBytes (base + 4096 * k) (List.replicate 4096 0xFF)

/-- The chunk is programmed, each sector erased before its first chunk (R365, R384). -/
def Fw.program (f : Fw) (b : Bool) (off : Nat) (data : List Word) : Fw :=
  let x := f.slot b
  let base := if b then 0x400000 else 0
  let n := data.length
  let fresh := (chunkSectors off n).filter (fun k => !x.ends.any (fun p => p.1 == k))
  let m := fresh.foldl (fun m k => eraseSector m base k) f.flash
  let ends := (chunkSectors off n).foldl (fun t k => Tbl.put t k (min (off + 4 * n) (4096 * (k + 1)))) x.ends
  { f.setSlot b { x with verified := false, ends := ends } with flash := m.writeBytes (base + off) (data.flatMap wordBytes) }

/-- The boot choice of BOOTSEL 0b00 (R364, Table 18.8): slot A false, slot B true. -/
def State.bootChoice (s : State) : Option Bool :=
  match fld s.settings 7 6 with
  | 1 => some false
  | 2 => some true
  | _ =>
    match s.fw.a.header, s.fw.b.header with
    | some a, some b =>
      if s.fw.a.headerValid && s.fw.b.headerValid then some (decide (a.seq.toNat < b.seq.toNat))
      else if s.fw.a.headerValid then some false else if s.fw.b.headerValid then some true else none
    | some _, none => if s.fw.a.headerValid then some false else none
    | none, some _ => if s.fw.b.headerValid then some true else none
    | none, none => none

end Sys2Proof.Machine
end

