-- ==== Sys2Proof/Machine/CmdEvent.lean ====
section
/-!
DEFINITION. EVENT, BBR and FW commands (R365, R383, R384, R408, R431 to R435, Tables 15.18 and 15.19).
-/
namespace Sys2Proof.Machine

/-! ## EVENT -/

/-- Reactions a class allows (Table 17.1). -/
def classAllows : Nat → List Nat
  | 1 | 2 | 7 | 9 | 11 | 12 | 14 => [0, 1, 2]
  | 3 | 4 | 16 | 20 => [0, 3, 4]
  | 5 | 6 | 15 => [0, 4]
  | 8 | 10 => [0, 1]
  | 13 => [0, 1, 3]
  | 17 => [0]
  | 18 | 19 => [3, 4]
  | _ => []

/-- The fixed classes, and the reaction code their log entries carry (R383, R411). -/
def fixedReaction (c : Nat) : Option Nat :=
  if c = 32 || c = 33 then some 2 else if c = 21 || c = 22 || c = 34 || c = 35 then some 5 else none

/-- A class setting goes to every axis (class 1) or to both chains (class 2) as well (R408). -/
def State.spreadClass (s : State) (c n w : Nat) : State :=
  if c = 1 then (List.range 256).foldl (fun t i => t.updAx i (fun x => { x with missN := n, missW := w })) s
  else if c = 2 then
    let g (x : Chain) : Chain := { x with guard0 := setFld x.guard0 20 16 n, guard1 := setFld x.guard1 15 0 w }
    (s.updCh 0 g).updCh 1 g
  else s

/-- EVENT.CLASS_WRITE (R408). -/
def eventClassWriteCmd : HostCmd :=
  { opcode := 0x1401, modes := mCAH, standby := true, config := true
    valid := fun p =>
      let n := fld (pw p 1) 4 0
      p.length == 3 && within (pw p 0) 0xFF && within (pw p 1) 0x71F && within (pw p 2) 0xFFFF && decide (1 ≤ n) && decide (n ≤ 16) &&
      (classAllows (fld (pw p 0) 7 0)).contains (fld (pw p 1) 10 8) && decide (n ≤ fld (pw p 2) 15 0)
    run := fun _ p s =>
      let c := fld (pw p 0) 7 0
      let n := fld (pw p 1) 4 0
      let w := fld (pw p 2) 15 0
      ok (({ s with faults := { s.faults with cfg := Tbl.put s.faults.cfg c { n := n, w := w, r := fld (pw p 1) 10 8 } } } : State).spreadClass c n w) }
def execEventClassWrite (h : Hdr) (p : List Word) (s : State) : Result' := .next (hostCommand eventClassWriteCmd h p s)

/-- Newest 16 stamps of a class, over its instances. -/
def Faults.newest (f : Faults) (c : Nat) : List Nat :=
  (sortBy (fun a b => decide (b ≤ a)) ((f.inst.filter (fun i => i.cls == c)).flatMap (·.stamps))).take 16

/-- `CLEAR` of EVENT.CLASS_READ (R383). -/
def Faults.clear (f : Faults) (c : Nat) : Faults :=
  { f with transient := Tbl.put f.transient c 0
           inst := f.inst.map (fun i => if i.cls == c && i.lasting.isNone then { i with stamps := [] } else i) }

/-- EVENT.CLASS_READ (R383). -/
def eventClassReadCmd : HostCmd :=
  { opcode := 0x1402
    valid := fun p => p.length == 1 && within (pw p 0) 0x800000FF &&
      (!(classAllows (fld (pw p 0) 7 0)).isEmpty || (fixedReaction (fld (pw p 0) 7 0)).isSome)
    run := fun _ p s =>
      let c := fld (pw p 0) 7 0
      let g : ClassCfg := match fixedReaction c with
        | some r => { n := 1, w := 0, r := r }
        | none => s.faults.written c
      let l := s.faults.newest c
      ok (if selClear p then { s with faults := s.faults.clear c } else s)
        ([wd (g.n + at_ 8 g.r), wd g.w, wd (Tbl.get 0 s.faults.transient c)] ++ (l ++ List.replicate (16 - l.length) 0).map wd) }
def execEventClassRead (h : Hdr) (p : List Word) (s : State) : Result' := .next (hostCommand eventClassReadCmd h p s)

/-! ## BBR -/

def bbrAddr (p : List Word) : Nat := fld (pw p 0) 9 0
def bbrCount (p : List Word) : Nat := fld (pw p 0) 21 16

/-- Address and count of a BBR command: 1 to 61 words that end at or below 0x3FF. -/
def bbrRangeOk (p : List Word) : Bool :=
  within (pw p 0) 0x3F03FF && decide (1 ≤ bbrCount p) && decide (bbrCount p ≤ 61) && decide (bbrAddr p + bbrCount p ≤ 0x400)

/-- Regions that a range touches. -/
def bbrTouches (a n : Nat) : List Nat :=
  (List.range 4).filter (fun r => decide (a < (bbrRegion r).1 + (bbrRegion r).2) && decide ((bbrRegion r).1 < a + n))

/-- BBR.READ: a read checks the seals of the regions it touches (R434). -/
def bbrReadCmd : HostCmd :=
  { opcode := 0x1501, loader := true
    valid := fun p => p.length == 1 && bbrRangeOk p
    run := fun _ p s =>
      ok ((bbrTouches (bbrAddr p) (bbrCount p)).foldl (fun t r => t.checkSeal r false) s)
        (Tbl.getRange 0 s.bbr.words (bbrAddr p) (bbrCount p)) }
def execBbrRead (h : Hdr) (p : List Word) (s : State) : Result' := .next (hostCommand bbrReadCmd h p s)

/-- A word the settings region takes at an address (R402, R432, Table 18.8). -/
def settingOk (a : Nat) (w : Word) : Bool :=
  if a = 0 then within w 0xFF && decide (fld w 2 0 ≤ 4) && fld w 5 4 != 3 && fld w 7 6 != 3
  else if 0x40 ≤ a && a ≤ 0x42 then true
  else w == 0

/-- The words of a BBR.WRITE lie in one writable region, and are such as it takes. -/
def bbrWriteOk (p : List Word) : Bool :=
  let a := bbrAddr p
  let n := bbrCount p
  if a + n ≤ 0x100 then (List.range n).all (fun j => settingOk (a + j) (pw p (1 + j)))
  else decide (0x380 ≤ a) && decide (a + n ≤ 0x3F0)

/-- BBR.WRITE (R383, R431, R432, R434). -/
def bbrWriteCmd : HostCmd :=
  { opcode := 0x1502
    valid := fun p => bbrRangeOk p && p.length == 1 + bbrCount p && bbrWriteOk p
    run := fun _ p s => ok (s.bbrWrite (if bbrAddr p < 0x100 then 0 else 3) (bbrAddr p) (p.drop 1)) }
def execBbrWrite (h : Hdr) (p : List Word) (s : State) : Result' := .next (hostCommand bbrWriteCmd h p s)

/-! ## FW -/

/-- FW.WRITE (R365, R384): the answer comes when the flash has taken the chunk. -/
def fwWriteCmd : HostCmd :=
  { opcode := 0x1601, loader := true
    valid := fun p =>
      let n := fld (pw p 1) 13 8
      within (pw p 1) 0x3F01 && decide (1 ≤ n) && decide (n ≤ 60) && p.length == 2 + n && (pw p 0).toNat % 4 == 0 &&
      decide ((pw p 0).toNat + 4 * n ≤ 0x400000)
    run := fun r p s =>
      let b := bit (pw p 1) 0
      let off := (pw p 0).toNat
      let n := fld (pw p 1) 13 8
      if s.runs b || !(s.fw.slot b).ascends off n then refuse s stBadArg
      else if s.fw.stage.isSome then refuse s stBusy
      else .wait { s with fw := { s.fw.setSlot b { s.fw.slot b with verified := false } with stage := some (.write b off (p.drop 2), r) } } }
def execFwWrite (h : Hdr) (p : List Word) (s : State) : Result' := .next (hostCommand fwWriteCmd h p s)

/-- FW.VERIFY (R363, R365). -/
def fwVerifyCmd : HostCmd :=
  { opcode := 0x1602, loader := true
    valid := fun p => p.length == 1 && within (pw p 0) 1
    run := fun r p s =>
      let b := bit (pw p 0) 0
      if s.fw.stage.isSome then refuse s stBusy
      else .wait { s with fw := { s.fw.setSlot b { s.fw.slot b with ends := [] } with stage := some (.verify b, r) } } }
def execFwVerify (h : Hdr) (p : List Word) (s : State) : Result' := .next (hostCommand fwVerifyCmd h p s)

/-- FW.ACTIVATE (R365, R433): the slot becomes the boot choice. -/
def fwActivateCmd : HostCmd :=
  { opcode := 0x1603, loader := true
    valid := fun p => p.length == 1 && within (pw p 0) 1
    run := fun _ p s =>
      let b := bit (pw p 0) 0
      if s.fw.stage.isSome then refuse s stBusy
      else if !(s.fw.slot b).verified then refuse s stAuthFail
      else ok (s.bbrWrite 0 0 [setFld (s.bbr.word 0) 7 6 (if b then 2 else 1)]) }
def execFwActivate (h : Hdr) (p : List Word) (s : State) : Result' := .next (hostCommand fwActivateCmd h p s)

/-- The four words of FW.INFO for a slot. -/
def State.slotInfo (s : State) (b : Bool) : List Word :=
  let x := s.fw.slot b
  wd (bitAt 0 x.headerValid + bitAt 1 x.verified + bitAt 2 (s.runs b) + bitAt 3 (s.bootChoice == some b)) ::
    (match x.header with
     | some h => [wd (h.version.toNat + at_ 16 h.svn.toNat), h.seq, h.length]
     | none => [0, 0, 0])

/-- FW.INFO. -/
def fwInfoCmd : HostCmd :=
  { opcode := 0x1604, loader := true
    valid := fun p => p.length == 0
    run := fun _ _ s => ok s (s.slotInfo false ++ s.slotInfo true) }
def execFwInfo (h : Hdr) (p : List Word) (s : State) : Result' := .next (hostCommand fwInfoCmd h p s)

end Sys2Proof.Machine
end

