-- ==== Sys2Proof/Machine/CmdSafe.lean ====
section
/-!
DEFINITION. The commands of the SAFE group (Table 15.14, R261, R380).
-/
namespace Sys2Proof.Machine

/-- SAFE.CFG_WRITE (R261). -/
def safeCfgWriteCmd : HostCmd :=
  { opcode := 0x0E01, modes := mC, standby := true, config := true
    valid := fun p => p.length == 2 && safeCfgOk (pw p 0) (pw p 1)
    run := fun _ p s => ok { s with safe := { s.safe with w0 := pw p 0, w1 := pw p 1 } } }
def execSafeCfgWrite (h : Hdr) (p : List Word) (s : State) : Result' := .next (hostCommand safeCfgWriteCmd h p s)

/-- SAFE.ZONE_WRITE (R261). -/
def safeZoneWriteCmd : HostCmd :=
  { opcode := 0x0E02, modes := mC, standby := true, config := true
    valid := fun p => selOk p (mItem ||| mCount) && rangeOk p 8 8 && p.length == 1 + selCount p && (p.drop 1).all zoneOk
    run := fun _ p s => ok { s with safe := { s.safe with zone := Tbl.putRange s.safe.zone (selItem p) (p.drop 1) } } }
def execSafeZoneWrite (h : Hdr) (p : List Word) (s : State) : Result' := .next (hostCommand safeZoneWriteCmd h p s)

/-- Safe-axis entries of a write are in range (Table 11.8). -/
def safeAxesOk : List Word → Bool
  | a :: b :: c :: l => safeAxisOk a b c && safeAxesOk l
  | _ => true

/-- SAFE.AXIS_WRITE (R261). -/
def safeAxisWriteCmd : HostCmd :=
  { opcode := 0x0E03, modes := mC, standby := true, config := true
    valid := fun p => selOk p (mItem ||| mCount) && rangeOk p 20 64 && p.length == 1 + 3 * selCount p && safeAxesOk (p.drop 1)
    run := fun _ p s => ok { s with safe := { s.safe with axis := Tbl.putRange s.safe.axis (3 * selItem p) (p.drop 1) } } }
def execSafeAxisWrite (h : Hdr) (p : List Word) (s : State) : Result' := .next (hostCommand safeAxisWriteCmd h p s)

/-- SAFE.SI_WRITE (R261). -/
def safeSiWriteCmd : HostCmd :=
  { opcode := 0x0E04, modes := mC, standby := true, config := true
    valid := fun p => selOk p (mItem ||| mCount) && rangeOk p 8 8 && p.length == 1 + selCount p && (p.drop 1).all siOk
    run := fun _ p s => ok { s with safe := { s.safe with si := Tbl.putRange s.safe.si (selItem p) (p.drop 1) } } }
def execSafeSiWrite (h : Hdr) (p : List Word) (s : State) : Result' := .next (hostCommand safeSiWriteCmd h p s)

/-- Words SAFE.READ returns. -/
def safeReadWords (f : Safe) (p : List Word) : List Word :=
  match selSub p with
  | 0 => [f.w0, f.w1, f.cfgId]
  | 1 => (List.range (selCount p)).map (fun i => f.zn (selItem p + i))
  | 2 => Tbl.getRange 0 f.axis (3 * selItem p) (3 * selCount p)
  | _ => (List.range (selCount p)).map (fun i => f.siw (selItem p + i))

/-- SAFE.READ (R261). -/
def safeReadCmd : HostCmd :=
  { opcode := 0x0E05
    valid := fun p => p.length == 1 && selOk p (mItem ||| mSub ||| mCount) &&
      (selSub p == 0 || (if selSub p = 2 then rangeOk p 20 64 else rangeOk p 8 8))
    run := fun _ p s => ok s (safeReadWords s.safe p) }
def execSafeRead (h : Hdr) (p : List Word) (s : State) : Result' := .next (hostCommand safeReadCmd h p s)

/-- SAFE.CONFIRM (R380). -/
def safeConfirmCmd : HostCmd :=
  { opcode := 0x0E06, modes := [.syncUp, .runActive, .runStandby, .safeHold]
    valid := fun p => p.length == 1
    run := fun _ p s =>
      if pw p 0 ≠ s.safe.cfgId then refuse s stBadArg else ok { s with safe := { s.safe with confirmed := true } } }
def execSafeConfirm (h : Hdr) (p : List Word) (s : State) : Result' := .next (hostCommand safeConfirmCmd h p s)

/-- Host demands after SAFE.DEMAND of kind `k` on the zones `z`. -/
def Safe.demand (f : Safe) (k z : Nat) : Safe :=
  if k = 1 then { f with hostSto := f.hostSto ||| z }
  else if k = 2 then { f with hostSs1 := f.hostSs1 ||| z }
  else { f with hostSto := f.hostSto - (f.hostSto &&& z), hostSs1 := f.hostSs1 - (f.hostSs1 &&& z) }

/-- SAFE.DEMAND (R380): recorded here, it reaches the channels at the next input sample. -/
def safeDemandCmd : HostCmd :=
  { opcode := 0x0E07, modes := [.runActive, .runStandby, .safeHold]
    valid := fun p => p.length == 1 && within (pw p 0) 0x3FF && fld (pw p 0) 9 8 != 0
    run := fun _ p s => ok { s with safe := s.safe.demand (fld (pw p 0) 9 8) (fld (pw p 0) 7 0) } }
def execSafeDemand (h : Hdr) (p : List Word) (s : State) : Result' := .next (hostCommand safeDemandCmd h p s)

/-- Words of SAFE.STATUS. -/
def Safe.statusWords (f : Safe) : List Word :=
  let ins (q : SafeIn → Bool) : Nat := ofBits ((List.range 8).filter (fun m => q (Tbl.get {} f.input m)))
  [wd (f.sto + at_ 8 f.ss1 + at_ 16 f.hostSto + at_ 24 f.hostSs1),
   wd ((f.sideA &&& f.sideB) + at_ 4 f.pairFault + at_ 8 (ins (fun x => x.a.closed && x.b.closed)) + at_ 16 (ins (·.disc))
     + bitAt 24 f.held + bitAt 25 f.confirmed),
   f.cfgId, wd f.lastSeq]

/-- SAFE.STATUS (R268). -/
def safeStatusCmd : HostCmd :=
  { opcode := 0x0E08
    valid := fun p => p.length == 0
    run := fun _ _ s => ok s s.safe.statusWords }
def execSafeStatus (h : Hdr) (p : List Word) (s : State) : Result' := .next (hostCommand safeStatusCmd h p s)

end Sys2Proof.Machine
end

