-- ==== Sys2Proof/Machine/CmdSys.lean ====
section
/-!
DEFINITION. The commands of the SYS, MODE and GEAR groups (Tables 15.2 to 15.4).
-/
namespace Sys2Proof.Machine

/-- `HP_IDENT` (Table 14.5): the values of R10, and the version once the firmware runs. -/
def State.hpIdent (s : State) : Word := if s.host.fwRunning then 0x020303B1 else 0x000000B1

/-- Strap levels as SYS.IDENT reports them. -/
def Straps.word (x : Straps) : Word :=
  wd (x.cid + bitAt 2 x.lead + bitAt 3 x.hsel + bitAt 4 x.side + at_ 5 x.bootsel)

/-- SYS.IDENT (R10). -/
def sysIdentCmd : HostCmd :=
  { opcode := 0x0101, loader := true
    valid := fun p => p.length == 0
    run := fun _ _ s => ok s ([s.hpIdent] ++ words64 Config.serial ++ [Config.serialHash, s.straps.word]) }
def execSysIdent (h : Hdr) (p : List Word) (s : State) : Result' := .next (hostCommand sysIdentCmd h p s)

/-- SYS.RESET (R422): the reset begins 100 µs after the response; the lead may order it for every member. -/
def sysResetCmd : HostCmd :=
  { opcode := 0x0102, loader := true
    valid := fun p => p.length == 1 && within (pw p 0) 3
    run := fun r p s =>
      if bit (pw p 0) 1 && (r.viaBridge || !s.straps.lead) then refuse s stBadArg
      else
        let t : State := { s with md := { s.md with sysReset := some (bit (pw p 0) 0, s.now + 100000) } }
        ok (if bit (pw p 0) 1 then { t with clu := { t.clu with lastOrder := [0x0102, setFld (pw p 0) 1 1 0] } } else t) }
def execSysReset (h : Hdr) (p : List Word) (s : State) : Result' := .next (hostCommand sysResetCmd h p s)

/-- SYS.NOP (R367). -/
def sysNopCmd : HostCmd :=
  { opcode := 0x0103, loader := true
    valid := fun _ => true
    run := fun _ p s => ok s p }
def execSysNop (h : Hdr) (p : List Word) (s : State) : Result' := .next (hostCommand sysNopCmd h p s)

/-- MODE.READ (R419). -/
def modeReadCmd : HostCmd :=
  { opcode := 0x0201, loader := true
    valid := fun p => p.length == 0
    run := fun _ _ s => ok s (wd (s.md.mode.code + bitAt 3 s.md.lapsed + at_ 4 s.md.cause) :: words64 s.md.atCycle) }
def execModeRead (h : Hdr) (p : List Word) (s : State) : Result' := .next (hostCommand modeReadCmd h p s)

/-- What the MDIO master programmes into the PHY of a parallel port: RGMII advertises 1000BASE-T full duplex alone, MII is forced to
100 Mbit/s full duplex (R58). -/
def phyProgram (w : Word) : Option (Nat × Bool) := if 2 ≤ fld w 1 0 then some (fld w 11 7, fld w 1 0 == 2) else none

/-- The PHYs of a chain on entering SYNC-UP. -/
def Chain.programPhys (x : Chain) : Chain := { x with phyL := phyProgram x.portL, phyR := phyProgram x.portR }

/-- The exit from CONFIGURE: both channels load the safety configuration and every zone is in STO (R261, R277, R380), the arbiter
reads its limits from the settings, whose seal this checks (R402, R434), the configuration's identity is fixed (Table 12.1), and SYNC-UP listens (R113). -/
def State.leaveConfigure (s : State) : State :=
  let f := s.safe
  let t : State := { s with
    safe := { f with cfgId := Config.safeCfgId f.words, loaded := true, confirmed := false, sto := 255, ss1 := 0, zss := [], found := 0
                     mon := [], nseq1 := [], nseq2 := [], rep1 := [], rep2 := [], headPdu := [], begun := false, evaluated := false }
    arb := s.arbLimits
    ch0 := s.ch0.programPhys, ch1 := s.ch1.programPhys
    startup := { phase := .listen, since := s.now }
    twin := { s.twin with onceValid := false, cfgCurrent := false, heard := false, count := 0, renewed := 0, token := false, takeover := false, ready := false
                          applied := false, stale := false, hold := false, checked := 0, cfgId := s.twinCfgId }
    link := { s.link with cfgGen := 0, changes := [], refresh := false, swapE := none, swap := none, incompleteNow := false }
    clu := { s.clu with won := 0, lostClaim := 0, reported := none, grant := 0, healthAt := [] }
    clk := { s.clk with fixed := false, begun := false } }
  (t.checkSeal 0 false).enter .syncUp 0

/-- MODE.SET in CONFIGURE, target SYNC-UP (R374). Channels that disagree on `SAFE.CFG_ID` are an internal fault in the first tick of
SYNC-UP, and the device returns to CONFIGURE (R261, R421). -/
def modeSetSyncUp (r : MsgRef) (s : State) : Answer :=
  if (setBits 4 (fld s.clu.cfg 3 0)).any (fun m => m != s.straps.cid && !s.clu.joined.testBit m) && s.straps.lead then refuse s stBusy
  else if s.standing then refuse s stBusy
  else if s.leaveFault ≠ 0 then .done stBadArg [wd s.leaveFault] s
  else ok (if r.cfgDiffer then s.leaveConfigure.internalFault 2 else s.leaveConfigure)

/-- MODE.SET (R374, Table 15.3). -/
def modeSetCmd : HostCmd :=
  { opcode := 0x0202, lead := true
    valid := fun p => p.length == 1 && within (pw p 0) 7 && (fld (pw p 0) 2 0 == 3 || fld (pw p 0) 2 0 == 4 || fld (pw p 0) 2 0 == 7)
    run := fun r p s =>
      let t := fld (pw p 0) 2 0
      match s.md.mode with
      | .configure =>
        if t = 3 then ok (if s.md.lapsed then { s with md := { s.md with lapsed := false, dark := false } }.canModes else s)
        else if t = 4 then modeSetSyncUp r s
        else refuse s stWrongMode
      | .syncUp =>
        if t = 4 then ok s
        else if t = 3 then ok (({ s with md := { s.md with dark := true } } : State).enter .configure 0)
        else refuse s stWrongMode
      | .runActive =>
        if t = 7 then ok (s.modeAtBoundary .safeHold 0)
        else if t = 3 then
          if s.twin.enable && s.twin.ready then refuse s stBusy
          else if !s.axisList.all (fun i => (s.ax i).stillOrHold) then refuse s stBusyMoving
          else ok (s.modeAtBoundary .configure 0)
        else refuse s stWrongMode
      | .runStandby =>
        if t = 3 then ok ({ s with twin := { s.twin with ready := false } }.modeAtBoundary .configure 0) else refuse s stWrongMode
      | .safeHold =>
        if t = 7 then ok s
        else if t = 3 then
          if s.safe.waitArm.isSome then refuse s stBusy
          else .wait { s with safe := { s.safe with waitArm := some (r, s.now) } }
        else refuse s stWrongMode
      | _ => refuse s stWrongMode }
def execModeSet (h : Hdr) (p : List Word) (s : State) : Result' := .next (hostCommand modeSetCmd h p s)

/-- GEAR.READ (R30). -/
def gearReadCmd : HostCmd :=
  { opcode := 0x0301
    valid := fun p => p.length == 0
    run := fun _ _ s =>
      let x := s.pend.shift
      ok s ([wd (s.clk.gear + at_ 3 ((x.map (·.gear)).getD 0))] ++ words64 ((x.map (·.e)).getD 0) ++ [wd s.tc]) }
def execGearRead (h : Hdr) (p : List Word) (s : State) : Result' := .next (hostCommand gearReadCmd h p s)

/-- Current-loop axes of the device within the gear's limit (Table 2.1). -/
def State.curAxesOk (s : State) (g : Nat) : Bool := decide (s.curAxes.length ≤ if g = 1 then 32 else 0)

/-- GEAR.SET (R30, R48, R50, R228). -/
def gearSetCmd : HostCmd :=
  { opcode := 0x0302, lead := true, modes := mC, standby := true
    valid := fun p => p.length == 1 && within (pw p 0) 7 && decide (1 ≤ fld (pw p 0) 2 0) && decide (fld (pw p 0) 2 0 ≤ 4)
    run := fun _ p s =>
      let g := fld (pw p 0) 2 0
      if !s.limitsOk g s.ch0.active s.ch1.active || !s.curAxesOk g then refuse s stNoResource
      else if !s.portsFit g then refuse s stBadArg
      else ok { s with clk := { s.clk with gear := g } } }
def execGearSet (h : Hdr) (p : List Word) (s : State) : Result' := .next (hostCommand gearSetCmd h p s)

/-- The shift is one between G2 and G3 (R49). -/
def movingShift (a b : Nat) : Bool := (a == 2 && b == 3) || (a == 3 && b == 2)

/-- Axes that still move in the sense of R49. -/
def State.moving (s : State) : List Nat := s.axisList.filter (fun i => !(s.ax i).stillOrHold)

/-- Coefficient sets for the target gear (R50, R151). -/
def State.setsFit (s : State) (g : Nat) : Bool :=
  s.templated.all (fun i => !(s.ax i).usesSet || ((s.ax i).sh.ready && (s.ax i).sh.gear == g) || ((s.ax i).act.ready && (s.ax i).act.gear == g))

/-- Moving axes have their set for the target gear ready in the shadow (R50). -/
def State.movingFit (s : State) (g : Nat) : Bool :=
  s.moving.all (fun i => !(s.ax i).usesSet || ((s.ax i).sh.ready && (s.ax i).sh.gear == g))

/-- Slot tables of a shift at its gear. -/
def State.shiftTables (s : State) (w0 w1 : List Word) : Tables × Tables :=
  ({ s.ch0.active with win := Tbl.putRange [] 0 w0 }, { s.ch1.active with win := Tbl.putRange [] 0 w1 })

/-- Effective cycle of a shift (R51): on time, or at the first whole millisecond after two boundaries' notice, which a cycle nearer
than two ahead always is (DEDUCED, log entry 108); never before a close order that is outstanding has taken effect (R103). -/
def State.shiftEffect (s : State) (lag e : Nat) : Nat × Bool :=
  let base := if s.now + lag ≤ s.clk.b (e - 1) && s.clk.cycle + 2 ≤ e then (e, false) else (s.shiftCycle lag, true)
  let k := max (s.ch0.ring.close.getD 0) (s.ch1.ring.close.getD 0)
  if k = 0 || k < base.1 then base
  else
    let per := 1000000 / s.tc
    let n := (s.clk.b (k + 1) % 1000000) / s.tc
    (if n = 0 then k + 1 else k + 1 + (per - n), true)

/-- GEAR.SHIFT (R48 to R52). -/
def gearShiftCmd : HostCmd :=
  { opcode := 0x0303, lead := true, modes := mA, standby := true, config := true
    valid := fun p => p.length == 43 && within (pw p 0) 7 && decide (1 ≤ fld (pw p 0) 2 0) && decide (fld (pw p 0) 2 0 ≤ 4) &&
      within (pw p 2) 0xFFFF && ((p.drop 3).take 8).all (fun w => within w 0xFFFFFF) &&
      (List.range 16).all (fun j => winEntryOk (pw p (11 + 2 * j)) (pw p (12 + 2 * j)))
    run := fun r p s =>
      let g := fld (pw p 0) 2 0
      let e := w64 (pw p 1) (pw p 2)
      let b := (p.drop 3).take 8
      let w0 := (p.drop 11).take 16
      let w1 := (p.drop 27).take 16
      let mv := movingShift s.clk.gear g
      let t := s.shiftTables w0 w1
      if s.pend.commit.isSome || s.pend.shift.isSome || s.pend.swap.isSome then refuse s stLocked
      else if !mv && !s.moving.isEmpty then refuse s stBusyMoving
      else if s.clk.b e % 1000000 ≠ 0 || s.clk.cycle + 32767 < e then refuse s stBadArg
      else if !s.limitsOk g t.1 t.2 || !s.curAxesOk g then refuse s stNoResource
      else if (mv && !s.movingFit g) || !s.setsFit g || !s.tablesOk 0 (tcOf g) t.1 || !s.tablesOk 1 (tcOf g) t.2 || !s.portsFit g ||
          (s.safe.configured && !s.canTwinOk s.can.s1 (tcOf g)) then refuse s stBadArg
      else
        let st := s.budgetStatus g (fun k => pw b k) s.budget.activeW5
        if st ≠ 0 then refuse s st
        else
          let x := s.shiftEffect r.lag e
          let y : Shift := { gear := g, e := x.1, budget := b, win0 := w0, win1 := w1, still := !mv }
          let u : State := { s with pend := { s.pend with shift := some y } }
          .done (if x.2 then stCommitLate else stOk) (words64 x.1) u }
def execGearShift (h : Hdr) (p : List Word) (s : State) : Result' := .next (hostCommand gearShiftCmd h p s)

end Sys2Proof.Machine
end

