-- ==== Sys2Proof/Machine/Serve.lean ====
section
/-!
DEFINITION. The catalogue of host commands by opcode, and the serving of the command queue (R353 to R356, R368, R371, Tables
14.6 to 14.8).
-/
namespace Sys2Proof.Machine

/-! ## The catalogue (chapter 15) -/

/-- Group 0x01. -/
def group01 : List HostCmd :=
  [sysIdentCmd, sysResetCmd, sysNopCmd]

/-- Group 0x02. -/
def group02 : List HostCmd :=
  [modeReadCmd, modeSetCmd]

/-- Group 0x03. -/
def group03 : List HostCmd :=
  [gearReadCmd, gearSetCmd, gearShiftCmd]

/-- Group 0x04. -/
def group04 : List HostCmd :=
  [chainCfgWriteCmd, chainCfgReadCmd, chainSupvWriteCmd, chainGuardWriteCmd, chainMissAtWriteCmd, chainSupvReadCmd,
   chainNodeReadCmd, chainNodeWriteCmd, chainDescReadCmd, chainCensusReadCmd, chainDelayReadCmd]

/-- Group 0x05. -/
def group05 : List HostCmd :=
  [tableWinWriteCmd, tableMapWriteCmd, tableNodeWriteCmd, tableBudgetWriteCmd, tableReadCmd, tableStageCmd, tableCommitCmd]

/-- Group 0x06. -/
def group06 : List HostCmd :=
  [timeReadCmd, timeStageCmd, timeRateCmd, timeCpWriteCmd, timeCapCfgCmd, timeCapReadCmd]

/-- Group 0x07. -/
def group07 : List HostCmd :=
  [axisEnableCmd, axisDisableCmd, axisStatusReadCmd, axisPrfCfgWriteCmd, axisPrfCfgReadCmd, axisMissWindowCmd,
   axisStreamInfoCmd, axisAuxWriteCmd]

/-- Group 0x08. -/
def group08 : List HostCmd :=
  [moveStartCmd, moveQuickStopCmd, moveHoldCmd, moveResumeCmd, moveAbortCmd, moveSetStopCmd]

/-- Group 0x09. -/
def group09 : List HostCmd :=
  [loopCfgWriteCmd, loopCfgReadCmd, loopCurWriteCmd, loopCoefWriteCmd, loopParamWriteCmd, loopReadyCmd, loopSwapCmd,
   loopCoefReadCmd]

/-- Group 0x0A. -/
def group0A : List HostCmd :=
  [pulsePinCfgCmd, pulseStpCfgCmd, pulseReadCmd]

/-- Group 0x0B. -/
def group0B : List HostCmd :=
  [feedbackCfgWriteCmd, feedbackCfgReadCmd, feedbackResultReadCmd, feedbackSingleReadCmd]

/-- Group 0x0C. -/
def group0C : List HostCmd :=
  [adcCfgWriteCmd, adcSeqWriteCmd, adcStartCmd, adcResultReadCmd, adcStatReadCmd]

/-- Group 0x0D. -/
def group0D : List HostCmd :=
  [envReadCmd, envClampReadCmd]

/-- Group 0x0E. -/
def group0E : List HostCmd :=
  [safeCfgWriteCmd, safeZoneWriteCmd, safeAxisWriteCmd, safeSiWriteCmd, safeReadCmd, safeConfirmCmd, safeDemandCmd,
   safeStatusCmd]

/-- Group 0x0F. -/
def group0F : List HostCmd :=
  [twinCfgWriteCmd, twinStatusCmd, twinSwapCmd]

/-- Group 0x10. -/
def group10 : List HostCmd :=
  [clusterCfgWriteCmd, clusterStatusCmd, clusterMoveAxisCmd]

/-- Group 0x11. -/
def group11 : List HostCmd :=
  [canCfgWriteCmd, canFilterWriteCmd, canSchedWriteCmd, canSafeWriteCmd, canAbortCmd, canRecoverCmd, canInfoCmd, canReadCmd]

/-- Group 0x12. -/
def group12 : List HostCmd :=
  [traceCfgWriteCmd, traceSigWriteCmd, traceTrigWriteCmd, traceArmCmd, traceStopCmd, traceStatusCmd]

/-- Group 0x13. -/
def group13 : List HostCmd :=
  [filterJobStartCmd, filterJobStatusCmd, filterJobAbortCmd]

/-- Group 0x14. -/
def group14 : List HostCmd :=
  [eventClassWriteCmd, eventClassReadCmd]

/-- Group 0x15. -/
def group15 : List HostCmd :=
  [bbrReadCmd, bbrWriteCmd]

/-- Group 0x16. -/
def group16 : List HostCmd :=
  [fwWriteCmd, fwVerifyCmd, fwActivateCmd, fwInfoCmd]

/-- Group 0x17. -/
def group17 : List HostCmd :=
  [diagActReadCmd, diagHeadroomReadCmd, diagChainCountersCmd, diagSchedReadCmd, diagQueueSnapshotCmd, diagLoopCountersCmd,
   diagCanCountersCmd, diagCoreTestCmd, diagMemStatusCmd]

/-- Every command of the catalogue. -/
def catalogue : List HostCmd :=
  group01 ++ group02 ++ group03 ++ group04 ++ group05 ++ group06 ++ group07 ++ group08 ++ group09 ++ group0A ++ group0B ++ group0C ++
  group0D ++ group0E ++ group0F ++ group10 ++ group11 ++ group12 ++ group13 ++ group14 ++ group15 ++ group16 ++ group17

/-- The command of an opcode. -/
def cmdOf (op : Nat) : Option HostCmd := catalogue.find? (fun c => c.opcode == op)

/-! ## Serving the queue -/

/-- Header of a command entry as the device reads it (Table 14.6). -/
def entryHdr (w0 w1 : Word) : Hdr :=
  { tag := BitVec.ofNat 8 (fld w0 23 16), len := BitVec.ofNat 8 (fld w0 31 24), target := ⟨fld w1 1 0 % 4, by omega⟩
    fence := bit w1 2, quiet := bit w1 3, rsv := BitVec.ofNat 28 (fld w1 31 4) }

/-- An unknown command (Table 14.8). -/
def State.unknown (s : State) (op : Nat) (h : Hdr) : State :=
  let r := refOf op h
  if !s.straps.lead then s.respond r stNotLead []
  else if h.len.toNat > 62 then s.respond r stLenTooLong []
  else s.respond r stBadOpcode []

/-- The entry at the head of the command queue: opcode, header and payload. -/
def State.headEntry (s : State) : Nat × Hdr × List Word :=
  let k := 64 * (s.host.cmdHead % 64)
  let w0 := Tbl.get (0 : Word) s.host.cmdMem k
  let h := entryHdr w0 (Tbl.get 0 s.host.cmdMem (k + 1))
  (fld w0 15 0, h, Tbl.getRange 0 s.host.cmdMem (k + 2) (min h.len.toNat 62))

/-- The device takes the entry at the head of the queue where it may (R354, R355). -/
def State.takeHead (s : State) : State :=
  let e := s.headEntry
  if !s.served || s.host.cmdCount = 0 || !s.canTake e.2.1.fence then s
  else
    match cmdOf e.1 with
    | some c => c.taken e.2.1 e.2.2 s.takeSlot
    | none => s.takeSlot.unknown e.1 e.2.1

/-- Commands are taken in order as far as they can be. -/
def State.serveN : Nat → State → State
  | 0, s => s
  | n + 1, s => State.serveN n s.takeHead

/-- The device serves its command queue. -/
def State.serve (s : State) : State := s.serveN s.host.cmdCount

end Sys2Proof.Machine
end

