-- ==== Sys2Proof/Machine/EvPins.lean ====
section
/-!
DEFINITION. Events of the motion pins: limits, pulse inputs, step outputs, feedback ports and captures (R148, R167, R211, R214,
R217, R219, R224 to R237, R455).
-/
namespace Sys2Proof.Machine

/-- Pins are sampled and counted: from the end of BOOT on (R237). -/
def State.pinsLive (s : State) : Bool := s.md.mode.timed && s.md.mode != .boot

/-! ## Limits, pulse inputs, step outputs, captures -/

/-- A limit of axis i is active: `STAT` bits 2 and 3 of the axis's last confirmed spoke, or the debounced local level (R211,
Tables 3.12 and 9.6). -/
def State.limActive (s : State) (i : Nat) (neg : Bool) : Bool :=
  let x := s.ax i
  let w := x.prf2
  match (if neg then fld w 3 2 else fld w 1 0) with
  | 1 => x.fb.status.testBit (if neg then 10 else 11)
  | 2 => let l := s.limp (fld w 11 8)
         if neg then l.n.testBit (fld w 23 16) != bit w 5 else l.p.testBit (fld w 23 16) != bit w 4
  | _ => false

/-- Levels of one side, bit by bit of `LIM.FILT`: a level that has held for `held` µs counts wherever the filter asks for no more. -/
def levelHeld (m : Nat) (level : Bool) (held : Nat) : Nat :=
  let low := 2 ^ (held + 1)
  if level then m / low * low + (low - 1) else m / low * low

/-- LIMIT_DEBOUNCED (R211): a level has held for so many µs, and counts for the axes whose `LIM.FILT` asks for no more. -/
def execLimitDebounced (n : Fin 16) (positive : Bool) (x : LimitLevel) (s : State) : Result' :=
  let l := s.limp n.val
  let k := if positive then { l with p := levelHeld l.p x.level x.held.toNat } else { l with n := levelHeld l.n x.level x.held.toNat }
  .next (if !s.pinsLive then s else { s with pins := { s.pins with lim := Tbl.put s.pins.lim n.val k } })

/-- PULSE_INPUT_STEP (R217): both lines can change together only in A/B mode. -/
def execPulseInputStep (n : Fin 16) (e : PulseStep) (t : Nat) (s : State) : Result' :=
  let s1 := s.by t
  .next (if !s.pinsLive then s1
    else if e = .both then
      (if bit (s1.pin n.val).cfg 0 then
        (s1.setPin n.val ((s1.pin n.val).step e s1.now)).occur 9 n.val (fun st => some (68, n.val, st))
      else s1)
    else s1.setPin n.val ((s1.pin n.val).step e s1.now))

/-- Pulses of step output n toward an active local limit are suppressed (R214). -/
def State.gated (s : State) (n : Nat) (neg : Bool) : Bool :=
  bit (s.stp n).cfg 17 && s.axisList.any (fun i =>
    let x := s.ax i
    x.isStep && x.stpPort == n && (if neg then fld x.prf2 3 2 else fld x.prf2 1 0) == 2 && s.limActive i neg)

/-- STEP_PULSE (R214, R219): the accumulator passes a whole number. -/
def execStepPulse (n : Fin 16) (s : State) : Result' :=
  let p := s.stp n.val
  .next (match p.due s.tc with
    | some t =>
      let s1 := s.to t
      s1.setStp n.val (p.pulse s1.now s.tc (s.gated n.val p.dirNeg))
    | none => s)

/-- STEP_RATE_EXPIRY (R219). -/
def execStepRateExpiry (n : Fin 16) (s : State) : Result' :=
  let p := s.stp n.val
  .next (if p.rate = 0 then s else (s.to p.expiry).setStp n.val p.expire)

/-- CAPTURE_EDGE (R455, Table 15.7): the edge selected is stamped and counted. -/
def execCaptureEdge (n : Fin 4) (level : Bool) (t : Nat) (s : State) : Result' :=
  let s1 := s.by t
  let c : Capture := Tbl.get {} s.pins.cap n.val
  .next (if s.pinsLive && c.edgeNow.testBit (if level then 0 else 1) then
    let d : Capture := { c with time := s1.now, count := cadd c.count 1, level := level, more := c.more || c.seen, seen := true }
    { s1 with pins := { s1.pins with cap := Tbl.put s1.pins.cap n.val d } }
  else s1)

/-! ## Feedback ports -/

/-- Instant of port n in the cycle: B(n) + `OFFSET`. -/
def State.fbInstant (s : State) (n : Nat) : Nat := s.bNow + (s.fbp n).offset

/-- Cycles run, so ports latch and request once in each (R229, R237). -/
def State.portCycle (s : State) : Bool := s.clk.begun && s.md.mode.cycles

/-- The position and velocity of port n reach the axes that use it (R148, R234). -/
def State.portFeeds (s : State) (n : Nat) : State :=
  let r := (s.fbp n).res
  s.axisList.foldl (fun t i => t.updAx i (fun x =>
    let a := if x.fbLocal && !x.isCur && x.template != 0 && x.fbPort == n then
        { x with fb := { x.fb with posPrev := x.fb.pos, pos := extendPos x.fb.known x.fb.pos r.pos, known := true, seen := true
                                   vel := r.vel.toInt, proc := r.pos.toInt, confirmed := true } }
      else x
    if x.loopTemplate = 5 && !bit x.cfg1 15 && fld x.cfg1 11 8 = n then
      { a with load := { a.load with pos := extendPos a.load.known a.load.pos r.pos, known := true } }
    else a)) s

/-- The result of port n is complete: it feeds its axes, and items that waited for it are posted (R167, R235). A fault is counted
where `counted`. -/
def State.portDone (s : State) (n : Nat) (counted : Bool) : State :=
  let f := s.fbp n
  let s1 := if f.res.valid then s.portFeeds n else s
  let s2 := if f.faulty && counted then s1.occur 11 n (fun st => some (70, n, st)) else s1
  let s3 := (s2.axisList.filter (fun i => (s2.ax i).readsPorts.contains n)).foldl State.tryWant s2
  match f.single with
  | some r => ((s3.setFb n { s3.fbp n with single := none }).respond r stOk f.res.words).serve
  | none => s3

/-- ENCODER_REQUEST (R224, R237): once per cycle in RUN-ACTIVE and SAFE-HOLD. -/
def execEncoderRequest (n : Fin 16) (s : State) : Result' :=
  let f := s.fbp n.val
  .next (if s.clk.begun && s.md.mode.heads && f.mode == 1 && !f.complete && f.request.isNone && s.due (s.fbInstant n.val) then
    let s1 := s.to (s.fbInstant n.val)
    s1.setFb n.val (f.requestAt s1.now)
  else s)

/-- ENCODER_REQUEST_EDGE (R237): a standby takes the active's request as its own. -/
def execEncoderRequestEdge (n : Fin 16) (t : Nat) (s : State) : Result' :=
  let s1 := s.by t
  let f := s1.fbp n.val
  let at_ := s1.bNow + f.offset
  .next (if s1.clk.begun && s1.md.mode == .runStandby && f.mode == 1 && !f.complete && f.request.isNone && decide (at_ ≤ s1.now) &&
      s1.due (at_ + f.timeoutNs) then s1.setFb n.val (f.requestAt s1.now) else s1)

/-- ENCODER_START_EDGE (R224, R227): in the tick of the timeout it is on time. -/
def execEncoderStartEdge (n : Fin 16) (t : Nat) (s : State) : Result' :=
  let s1 := s.by t
  let f := s1.fbp n.val
  .next (match f.request with
    | some r => if f.start.isNone && decide (r ≤ s1.now) && s1.due (r + f.timeoutNs) then s1.setFb n.val { f with start := some s1.now } else s1
    | none => s1)

/-- ENCODER_TIMEOUT (R227, R237): no start edge; on a standby, no request edge, which is not counted. -/
def execEncoderTimeout (n : Fin 16) (s : State) : Result' :=
  let f := s.fbp n.val
  .next (match f.request with
    | some r =>
      if f.start.isSome then s
      else ((s.to (r + f.timeoutNs)).setFb n.val f.timedOut).portDone n.val f.single.isNone
    | none =>
      if s.clk.begun && s.md.mode == .runStandby && f.mode == 1 && !f.complete then
        ((s.to (s.bNow + f.offset + f.timeoutNs)).setFb n.val f.timedOut).portDone n.val false
      else s)

/-- ENCODER_WORD_DONE (R224 to R227): the word is complete at t_done. -/
def execEncoderWordDone (n : Fin 16) (bits : List Bool) (s : State) : Result' :=
  let f := s.fbp n.val
  .next (match f.start with
    | some a => if f.request.isSome then ((s.to (a + f.wordNs)).setFb n.val (f.wordDone bits)).portDone n.val f.single.isNone else s
    | none => s)

/-- QUADRATURE_EDGE (R229, R230, R232). -/
def execQuadratureEdge (n : Fin 16) (e : QuadEdge) (t : Nat) (s : State) : Result' :=
  let s1 := s.by t
  let f := s1.fbp n.val
  .next (if !s.pinsLive || f.mode < 2 then s1
    else
      let o := f.quadEdge n.val e s1.now
      let s2 := (s1.setFb n.val o.1).raiseAll o.2
      if e = .double then s2.occur 12 n.val (fun st => some (71, n.val, st)) else s2)

/-- INCREMENTAL_LATCH (R229, R231, R235): complete 10 ns after the latch. -/
def execIncrementalLatch (n : Fin 16) (s : State) : Result' :=
  let f := s.fbp n.val
  let at_ := s.fbInstant n.val
  .next (if s.portCycle && decide (2 ≤ f.mode) && !f.complete && s.due at_ then
    let t := (s.to at_).now
    ((s.to (t + 10)).setFb n.val (f.latch t s.tc)).portDone n.val true
  else s)

/-- INDEX_EDGE (R233). -/
def execIndexEdge (n : Fin 16) (t : Nat) (s : State) : Result' :=
  let s1 := s.by t
  let f := s1.fbp n.val
  .next (if !s.pinsLive || f.mode < 2 then s1
    else
      let o := f.indexEdge n.val s1.now
      (s1.setFb n.val o.1).raiseAll o.2)

end Sys2Proof.Machine
end

