-- ==== Sys2Proof/Machine/EvAdc.lean ====
section
/-!
DEFINITION. Events of the integrating converters (R238 to R248).
-/
namespace Sys2Proof.Machine

/-- ADC_TIME_TRIGGER (R243): a start, or one skipped while a sequence runs. -/
def execAdcTimeTrigger (x : Fin 2) (s : State) : Result' :=
  let c := s.conv x.val
  .next (if !s.pinsLive || c.off || !c.armed || c.trig ≠ 2 then s else
    match c.next with
    | none => s
    | some t0 =>
      let step := c.w4.toNat * 1000
      let d : Conv := { c with next := if step = 0 then none else some (t0 + step) }
      let s1 := s.to t0
      s1.setConv x.val (d.startAt s.mainsNominal s1.now (fun k => { k with skip := cadd k.skip 1 })))

/-- An entry read as open (R245, class 13). -/
def State.openWire (s : State) (x entry tag : Nat) : State :=
  s.occur 13 (x + 2 * entry) (fun st => some (76, x + at_ 1 entry + at_ 8 tag, st))

/-- CONVERSION_DONE (R238, R243 to R246). -/
def execConversionDone (x : Fin 2) (v : Conversion) (s : State) : Result' :=
  .next (match (s.conv x.val).run with
    | none => s
    | some r =>
      if !s.pinsLive then s
      else
        let s1 := s.to r.until_
        let o := (s1.conv x.val).done x.val r v s1.mainsNominal s1.now
        let s2 := s1.setConv x.val o.c
        let s3 := match o.openWire with
          | some e => s2.openWire x.val e (entryTag (Tbl.get 0 r.seq e))
          | none => s2
        s3.raiseAll o.ev)

/-- MAINS_CROSSING (R240). -/
def execMainsCrossing (x : Fin 2) (t : Nat) (s : State) : Result' :=
  let s1 := s.by t
  .next (if !s.pinsLive then s1
    else
      let o := (s1.conv x.val).crossing x.val s1.mainsNominal s1.now
      (s1.setConv x.val o.1).raiseAll o.2)

/-- MAINS_LOCK_TIMEOUT (R240). -/
def execMainsLockTimeout (x : Fin 2) (s : State) : Result' :=
  let c := s.conv x.val
  .next (match c.cross with
    | none => s
    | some t0 =>
      if !s.pinsLive then s
      else
        let s1 := s.to (t0 + 2 * s.mainsNominal)
        let o := c.lockLost x.val
        (s1.setConv x.val o.1).raiseAll o.2)

/-- REF_SETTLED (R246). -/
def execRefSettled (x : Fin 2) (s : State) : Result' :=
  let c := s.conv x.val
  .next (if !s.md.mode.timed || c.off || c.refOk then s else (s.setConv x.val (c.settle s.now)).raise 77 (x.val + 2) 0)

end Sys2Proof.Machine
end

