-- ==== Sys2Proof/Machine/HostOps.lean ====
section
/-!
DEFINITION. The host port: queue indices, interrupt registers, the register map, the images of BAR0 and BAR2, and accesses charged
to A6 (R345 to R354, R358 to R361, Tables 14.2 to 14.5).
-/
namespace Sys2Proof.Machine

/-- Accesses other than identity and status are served (R361, R427). -/
def State.portOpen (s : State) : Bool := s.md.mode.timed && s.md.bootDone

/-- All of the port is served: the port of a member that is no lead serves identity, status, the envelope path and the queues in which
its mailbox refuses every command (R312). -/
def State.fullPort (s : State) : Bool := s.portOpen && s.straps.lead

/-! ## Queue indices (R352 to R354) -/

/-- An index write that is ignored (R353). -/
def State.dbErr (s : State) : State := { s with host := { s.host with dbErr := true } }

/-- `CMDQ_TAIL`. -/
def State.cmdTailWrite (s : State) (v : Word) : State :=
  if !s.host.mbxReady then s
  else if !within v 0x7F || decide (64 < (v.toNat + 128 - s.host.cmdHead) % 128) then s.dbErr
  else { s with host := { s.host with cmdTail := v.toNat } }

/-- `RSPQ_HEAD`. -/
def State.rspHeadWrite (s : State) (v : Word) : State :=
  if !s.host.mbxReady then s
  else if !within v 0x7F || decide ((s.host.rspTail + 128 - s.host.rspHead) % 128 < (v.toNat + 128 - s.host.rspHead) % 128) then s.dbErr
  else { s with host := { s.host with rspHead := v.toNat } }

/-- `EVTQ_HEAD`. -/
def State.evtHeadWrite (s : State) (v : Word) : State :=
  if !s.host.mbxReady then s
  else if !within v 0x1FF || decide ((s.host.evtTail + 512 - s.host.evtHead) % 512 < (v.toNat + 512 - s.host.evtHead) % 512) then s.dbErr
  else { s with host := { s.host with evtHead := v.toNat } }

/-! ## Interrupt registers (R360) -/

/-- Word k of a 128-bit register, and the register with word k replaced. -/
def wordOf (n k : Nat) : Word := wd (n >>> (32 * k))
def putWord (n k : Nat) (w : Word) : Nat := n - at_ (32 * k) (wordOf n k).toNat + at_ (32 * k) w.toNat

/-- `IRQ_PENDk`: write 1 to clear; an event raised in this tick stays pending and signals again. -/
def State.irqPend (s : State) (k : Nat) (v : Word) : State :=
  let q := s.irq
  let p := putWord q.pend k (wordOf q.pend k &&& ~~~v)
  let again := if q.risenAt = s.now then (setBits 128 q.risen).filter (fun e => q.pend.testBit e && !p.testBit e) else []
  { s with irq := again.foldl (fun r e => r.set (!s.straps.hsel) (decide (s.host.gen ≠ 0)) e) { q with pend := p } }

/-- Pending, unmasked events that vector v sees. -/
def Irq.seen (q : Irq) (v : Nat) : List Nat := (setBits 128 q.pend).filter (fun e => !q.mask.testBit e && q.vector e == v)

/-- One message for each vector that sees a pending event it did not see before. -/
def State.irqFreed (s : State) (old : Irq) : State :=
  if s.straps.hsel then s
  else
    let vs := (List.range 32).filter (fun v => (s.irq.seen v).any (fun e => !(old.seen v).contains e))
    { s with irq := vs.foldl (fun q v => q.message (decide (s.host.gen ≠ 0)) v) s.irq }

/-- `IRQ_MASKk`. -/
def State.irqMask (s : State) (k : Nat) (v : Word) : State :=
  ({ s with irq := { s.irq with mask := putWord s.irq.mask k v } } : State).irqFreed s.irq

/-- `IRQ_ROUTE` word w; bits 7:5 of each byte are reserved. -/
def State.irqRoute (s : State) (w : Nat) (v : Word) : State :=
  ({ s with irq := { s.irq with route := Tbl.put s.irq.route w (v &&& 0x1F1F1F1F) } } : State).irqFreed s.irq

/-! ## Registers (Tables 11.4, 13.7, 14.3 to 14.5) -/

/-- `HP_STATUS`. -/
def State.hpStatus (s : State) : Word :=
  let h := s.host
  wd (s.md.mode.code + bitAt 3 h.mbxReady + bitAt 4 h.imageB + bitAt 5 h.fallback + bitAt 6 h.loader + bitAt 7 s.straps.lead +
      at_ 8 s.straps.cid + bitAt 10 s.straps.hsel + at_ 11 h.gen + bitAt 13 h.x2 + bitAt 14 h.dbErr + bitAt 15 h.qspiDrop + bitAt 16 h.evtLost)

/-- `ENV_KEY` as read. -/
def State.envStatus (s : State) : Word :=
  wd (bitAt 16 s.env.unlocked + bitAt 17 s.env.we + bitAt 18 s.bbr.ok1 + bitAt 19 s.env.busy + bitAt 20 s.lockedOut)

/-- `WIN_CTRL`. -/
def PortData.winCtrl (p : PortData) : Word := wd (p.winBase + bitAt 24 p.winRotate)

/-- Address in the BAR2 image at which the aperture begins. -/
def PortData.apBase (p : PortData) : Nat := if p.winRotate then p.winBase else p.winBase / 4 * 4

/-- A CAN register: port and offset in its block. -/
def State.canReg (s : State) (n o : Nat) : Word :=
  let p := s.canPort n
  if o = 0 then s.canStatus n
  else if o = 4 then wd (p.tec % 512 + at_ 16 (p.rec_ % 256))
  else if o = 8 then wd p.rxHead
  else if o = 0xC then wd p.rxTail
  else 0

/-- Queue areas of BAR0 hold words at an offset (Table 14.3): the table and the index in it. -/
def queueArea (off : Nat) : Option (Nat × Nat) :=
  if 0x1000 ≤ off ∧ off < 0x2000 then some (0, (off - 0x1000) / 4)
  else if 0x2000 ≤ off ∧ off < 0x6000 then some (1, (off - 0x2000) / 4)
  else if 0x6000 ≤ off ∧ off < 0xA000 then some (2, (off - 0x6000) / 4)
  else none

/-- A word of a queue area. -/
def HostPort.queueWord (h : HostPort) (q i : Nat) : Word :=
  Tbl.get 0 (if q = 0 then h.evtMem else if q = 1 then h.cmdMem else h.rspMem) i

/-- A word of a queue area written by the host: entries of the response and event queues are read only (R7, Tables 14.7, 14.10). -/
def HostPort.setQueueWord (h : HostPort) (q i : Nat) (w : Word) : HostPort :=
  if q = 1 then { h with cmdMem := Tbl.put h.cmdMem i w } else h

/-- A register at an aligned offset below 0x1000 or from 0xA000 to 0xBFFF, as a read without side effects returns it. -/
def State.regWord (s : State) (off : Nat) : Word :=
  if off = 0 then s.hpIdent
  else if off = 4 then s.hpStatus
  else if !s.portOpen then 0
  else if off = 0x10 then wd s.host.cmdTail
  else if off = 0x14 then wd s.host.cmdHead
  else if off = 0x18 then wd s.host.rspHead
  else if off = 0x1C then wd s.host.rspTail
  else if off = 0x20 then wd s.host.evtHead
  else if off = 0x24 then wd s.host.evtTail
  else if off = 0x100 then s.envStatus
  else if off = 0x104 then wd s.env.addr
  else if off = 0x108 then s.bbr.word (0x100 + s.env.addr)
  else if !s.fullPort then 0
  else if 0x40 ≤ off ∧ off < 0x50 then wordOf s.irq.pend ((off - 0x40) / 4)
  else if 0x50 ≤ off ∧ off < 0x60 then wordOf s.irq.mask ((off - 0x50) / 4)
  else if 0x60 ≤ off ∧ off < 0xE0 then Tbl.get 0 s.irq.route ((off - 0x60) / 4)
  else if off = 0x200 then s.port.winCtrl
  else if 0x400 ≤ off ∧ off < 0x480 then s.canReg ((off - 0x400) / 0x40) (off % 0x40)
  else if 0xA000 ≤ off ∧ off < 0xA200 ∧ !s.straps.hsel then
    Tbl.get (if off % 16 = 12 then 1 else 0) s.irq.msixTable ((off - 0xA000) / 4)
  else if off = 0xA800 ∧ !s.straps.hsel then wd s.irq.pba
  else 0

/-- A write of a register (R349): reserved offsets and read-only registers ignore it. Every write but one of `ENV_KEY` comes between
the keys (R254). -/
def State.regWrite (s : State) (off : Nat) (v : Word) : State :=
  if !s.portOpen then s
  else if off = 0x100 then s.envKey v s.env.we
  else if off = 0x108 then s.envData v s.env.we
  else
    let t := s.bar0Write
    if off = 4 then
      { t with host := { t.host with dbErr := t.host.dbErr && !bit v 14, qspiDrop := t.host.qspiDrop && !bit v 15
                                     evtLost := t.host.evtLost && !bit v 16 } }
    else if off = 0x10 then t.cmdTailWrite v
    else if off = 0x18 then t.rspHeadWrite v
    else if off = 0x20 then t.evtHeadWrite v
    else if off = 0x104 then { t with env := { t.env with addr := fld v 8 0 } }
    else if !s.fullPort then t
    else if 0x40 ≤ off ∧ off < 0x50 then t.irqPend ((off - 0x40) / 4) v
    else if 0x50 ≤ off ∧ off < 0x60 then t.irqMask ((off - 0x50) / 4) v
    else if 0x60 ≤ off ∧ off < 0xE0 then t.irqRoute ((off - 0x60) / 4) v
    else if off = 0x200 then { t with port := { t.port with winBase := fld v 22 0, winRotate := bit v 24 } }
    else if off = 0x40C ∨ off = 0x44C then
      let n := (off - 0x400) / 0x40
      t.setCan n ((t.canPort n).returnTo (fld v 5 0) 64)
    else if 0xA000 ≤ off ∧ off < 0xA200 ∧ !t.straps.hsel then
      { t with irq := { t.irq with msixTable := Tbl.put t.irq.msixTable ((off - 0xA000) / 4) v } }
    else t

/-! ## The BAR2 image (R350) -/

/-- CAN queue that holds an offset of the BAR2 image: port, receive ring, offset in the queue (R321, R326). -/
def canArea (a : Nat) : Option (Nat × Bool × Nat) :=
  let hit (base len : Nat) : Bool := decide (base ≤ a) && decide (a < base + len)
  if hit (Config.canTxOffset 0) 66048 then some (0, false, a - Config.canTxOffset 0)
  else if hit (Config.canTxOffset 1) 66048 then some (1, false, a - Config.canTxOffset 1)
  else if hit (Config.canRxOffset 0) 132608 then some (0, true, a - Config.canRxOffset 0)
  else if hit (Config.canRxOffset 1) 132608 then some (1, true, a - Config.canRxOffset 1)
  else none

/-- A byte of the BAR2 image. -/
def State.read2 (s : State) (a : Nat) : Byte :=
  if !s.fullPort || decide (0x500000 ≤ a) then 0
  else if a < 0x400000 then s.mem.trace.read a
  else
    match canArea a with
    | some (n, rx, o) => if rx then (s.canPort n).rxMem.read o else (s.canPort n).txMem.read o
    | none => s.mem.exch.read (a - 0x400000)

/-- A byte of a transmit entry written; `TXE.RES` is the port's (Table 13.4), and with `OWN` the entry is (R321, R323). -/
def CanPort.writeTx (p : CanPort) (o : Nat) (b : Byte) : CanPort :=
  let w : Byte := if o % 2064 = 7 then (p.txMem.read o &&& 0xF0) ||| (b &&& 0x0F) else b
  let q := { p with txMem := p.txMem.write o w }
  let i := o / 2064
  if o % 2064 = 3 && b.toNat.testBit 7 && !q.owned.contains i then
    let r := { q with owned := q.owned ++ [i] }
    if r.active && !r.busOff then r.sweep else r
  else q

/-- Bytes of a stream slot that the host does not write: `TAKE`, `MISS` and the reserved words (Table 9.7). -/
def streamReadOnly (a : Nat) : Bool :=
  decide (0x4FC000 ≤ a) && decide (a < 0x500000) && [1, 2, 3, 12, 13, 14, 15].contains (a % 64 / 4)

/-- A byte of the BAR2 image written: trace memory is the engines' alone (R385). -/
def State.write2 (s : State) (a : Nat) (b : Byte) : State :=
  if !s.fullPort || decide (a < 0x400000) || decide (0x500000 ≤ a) || streamReadOnly a then s
  else
    match canArea a with
    | some (n, rx, o) => if rx then s else s.setCan n ((s.canPort n).writeTx o b)
    | none => { s with mem := { s.mem with exch := s.mem.exch.write (a - 0x400000) b } }

/-- Bytes written to the BAR2 image from `a` upward, wrapping at its end. -/
def State.write2s (s : State) (wrap a : Nat) : List Byte → State
  | [] => s
  | b :: bs => (s.write2 a b).write2s wrap ((a + 1) % wrap) bs

/-! ## The BAR0 image (R349) -/

/-- A word of the BAR0 image read, with what the read does: the CAN word window moves (R327), a read of the envelope checks its
seal (R434). -/
def State.readWord0 (s : State) (off : Nat) : State × Word :=
  if !s.portOpen then (s, s.regWord off)
  else if off = 0x108 then (s.checkSeal 1 false, s.regWord off)
  else if !s.fullPort && (queueArea off).isNone then (s, s.regWord off)
  else if off = 0x410 ∨ off = 0x450 then
    let n := (off - 0x400) / 0x40
    let r := (s.canPort n).readWindow
    (s.setCan n r.1, r.2)
  else if 0xC000 ≤ off then
    (s, wd (leNat ((List.range 4).map (fun j => s.read2 (s.port.apBase + (off - 0xC000) + j)))))
  else
    match queueArea off with
    | some (q, i) => (s, s.host.queueWord q i)
    | none => (s, s.regWord off)

/-- `n` bytes of the BAR0 image from `off`, wrapping at its end; word by word. -/
def State.read0 : Nat → State → Nat → Nat → State × List Byte
  | 0, s, _, _ => (s, [])
  | f + 1, s, off, n =>
    if n = 0 then (s, [])
    else
      let k := min n (4 - off % 4)
      let r := s.readWord0 (off / 4 * 4)
      let t := State.read0 f r.1 ((off + k) % 65536) (n - k)
      (t.1, ((wordBytes r.2).drop (off % 4)).take k ++ t.2)

/-- A word with some of its bytes replaced from byte `j`. -/
def mergeBytes (w : Word) (j : Nat) (bs : List Byte) : Word :=
  wd (leNat ((wordBytes w).take j ++ bs ++ (wordBytes w).drop (j + bs.length)))

/-- Bytes within one word of the BAR0 image written. A partial write of a register leaves the other bytes of a writable field as
they stand, and clears nothing with them. -/
def State.writePart (s : State) (off : Nat) (bs : List Byte) : State :=
  let w := off / 4 * 4
  if !s.portOpen then s
  else if 0xC000 ≤ off then s.bar0Write.write2s (2 ^ 24) (s.port.apBase + (off - 0xC000)) bs
  else
    match queueArea w with
    | some (q, i) =>
      { s.bar0Write with host := s.bar0Write.host.setQueueWord q i (mergeBytes (s.host.queueWord q i) (off % 4) bs) }
    | none =>
      let base := if w = 4 ∨ w = 0x100 ∨ (0x40 ≤ w ∧ w < 0x50) then 0 else s.regWord w
      s.regWrite w (mergeBytes base (off % 4) bs)

/-- Bytes written to the BAR0 image from `off`, wrapping at its end; word by word. -/
def State.write0 : Nat → State → Nat → List Byte → State
  | 0, s, _, _ => s
  | f + 1, s, off, bs =>
    if bs.isEmpty then s
    else
      let k := min bs.length (4 - off % 4)
      State.write0 f (s.writePart off (bs.take k)) ((off + k) % 65536) (bs.drop k)

/-! ## Accesses and their charge (R351) -/

/-- Bytes of an access charged to A6. -/
def chargedBytes (bar2 : Bool) (off n : Nat) : Nat :=
  if bar2 || decide (0xC000 ≤ off) || (queueArea off).isSome then n else 0

/-- A PCI Express access is carried out: a read's data follow those of its part before a pause. -/
def State.doAccess (s : State) (a : MemAccess) : State :=
  match a.write with
  | some bs => if a.bar2 then s.write2s (2 ^ 24) a.addr.toNat bs else s.write0 bs.length (a.addr.toNat % 65536) bs
  | none =>
    if a.bar2 then
      { s with port := { s.port with readData := s.port.partData ++ (List.range a.len).map (fun j => s.read2 (a.addr.toNat + j)), partData := [] } }
    else
      let r := s.read0 a.len (a.addr.toNat % 65536) a.len
      { r.1 with port := { r.1.port with readData := r.1.port.partData ++ r.2, partData := [] } }

/-- Bytes a PCI Express access moves. -/
def accessLen (a : MemAccess) : Nat :=
  match a.write with
  | some bs => bs.length
  | none => a.len

/-- The first `k` bytes of an access, and the rest of it. -/
def accessPart (a : MemAccess) (k : Nat) : MemAccess := { a with write := a.write.map (List.take k), len := k }
def accessRest (a : MemAccess) (k : Nat) : MemAccess :=
  { a with addr := a.addr + BitVec.ofNat 24 k, write := a.write.map (List.drop k), len := a.len - k }

/-- An access that does not fit A6 pauses at a word boundary before the accesses `l` behind it, and the deferral is counted (R37,
R351). -/
def State.pausePcie (s : State) (a : MemAccess) (l : List MemAccess) : State :=
  let k := s.hostPart (a.addr.toNat % 65536) (accessLen a)
  let hold (t : State) (x : MemAccess) : State := { t with port := { t.port with pcieHeld := x :: l } }
  if k = 0 then hold (s.countDefer 6) a
  else
    let t := ({ s.countDefer 6 with budget := (s.countDefer 6).hostSpend k } : State).doAccess (accessPart a k)
    if a.write.isSome then hold t (accessRest a k)
    else hold { t with port := { t.port with partData := t.port.readData, readData := s.port.readData } } (accessRest a k)

/-- A PCI Express access, paused where A6 is exhausted; accesses keep their order. -/
def State.access (s : State) (a : MemAccess) : State :=
  if !s.port.pcieHeld.isEmpty then { s with port := { s.port with pcieHeld := s.port.pcieHeld ++ [a] } }
  else
    match s.chargeHost (chargedBytes a.bar2 (a.addr.toNat % 65536) (accessLen a)) with
    | some t => t.doAccess a
    | none => s.pausePcie a []

/-- Held PCI Express accesses go on after the boundary, in order, as far as the budget takes them. -/
def State.releasePcie : Nat → State → State
  | 0, s => s
  | f + 1, s =>
    match s.port.pcieHeld with
    | [] => s
    | a :: l =>
      match s.chargeHost (chargedBytes a.bar2 (a.addr.toNat % 65536) (accessLen a)) with
      | some t => State.releasePcie f ((({ t with port := { t.port with pcieHeld := l } } : State).doAccess a).serve)
      | none => s.pausePcie a l

/-- Bytes of a QSPI transaction charged to A6: an address outside both images moves none (R348). -/
def qspiCharged (addr n : Nat) : Nat :=
  if addr / 0x800000 = 1 then n else if addr / 65536 % 128 = 0 then chargedBytes false (addr % 65536) n else 0

/-- A QSPI address `k` bytes on: it wraps at the end of its image (R348). -/
def qspiNext (addr k : Nat) : Nat :=
  if addr / 0x800000 = 1 then 0x800000 + (addr + k) % 0x800000 else addr / 65536 * 65536 + (addr + k) % 65536

/-- Bytes of a QSPI write land in their image (R348). -/
def State.qspiLand (s : State) (addr : Nat) (bs : List Byte) : State :=
  if addr / 0x800000 = 1 then s.write2s (2 ^ 23) (addr % 0x800000) bs
  else if addr / 65536 % 128 = 0 then s.write0 bs.length (addr % 65536) bs
  else s

/-- Bytes of a QSPI write that go before it pauses, and the deferral (R37, R351). -/
def State.qspiPart (s : State) (addr : Nat) (bs : List Byte) : State :=
  let k := s.hostPart addr bs.length
  if k = 0 then s.countDefer 6
  else ({ s.countDefer 6 with budget := (s.countDefer 6).hostSpend k } : State).qspiLand addr (bs.take k)

/-- A QSPI write, paused and buffered where A6 is exhausted (R351). -/
def State.qspiPut (s : State) (addr : Nat) (bs : List Byte) : State :=
  if !s.port.qspiHeld.isEmpty then s.qspiHold addr bs
  else
    match s.chargeHost (qspiCharged addr bs.length) with
    | some t => t.qspiLand addr bs
    | none =>
      let k := s.hostPart addr bs.length
      (s.qspiPart addr bs).qspiHold (qspiNext addr k) (bs.drop k)

/-- Held QSPI writes land after the boundary, in order. -/
def State.releaseQspi : Nat → State → State
  | 0, s => s
  | f + 1, s =>
    match s.port.qspiHeld with
    | [] => s
    | (a, bs) :: l =>
      match s.chargeHost (qspiCharged a bs.length) with
      | some t => State.releaseQspi f ((({ t with port := { t.port with qspiHeld := l } } : State).qspiLand a bs).serve)
      | none =>
        let k := s.hostPart a bs.length
        let t := s.qspiPart a bs
        { t with port := { t.port with qspiHeld := (qspiNext a k, bs.drop k) :: l } }

/-- Bytes that the host writes to the BAR2 image through the port it has. -/
def State.portWrite (s : State) (addr : Nat) (bs : List Byte) : State :=
  if s.straps.hsel then s.qspiPut (0x800000 + addr) bs else s.access { bar2 := true, addr := BitVec.ofNat 24 addr, write := some bs }

/-- Accesses held at the boundary go on (R351). -/
def State.releaseHeld (s : State) : State :=
  let t := s.releasePcie s.port.pcieHeld.length
  t.releaseQspi t.port.qspiHeld.length

/-- A QSPI read: the ready byte, and the data unless it is paused (R347, R351). -/
def State.qspiGet (s : State) (addr n : Nat) : State :=
  match s.chargeHost (qspiCharged addr n) with
  | none => { s.countDefer 6 with port := { s.port with readyByte := 0x5A, readData := [] } }
  | some t =>
    let r : State × List Byte :=
      if addr / 0x800000 = 1 then (t, (List.range n).map (fun j => t.read2 ((addr % 0x800000 + j) % 0x800000)))
      else if addr / 65536 % 128 = 0 then t.read0 n (addr % 65536) n
      else (t, List.replicate n 0)
    { r.1 with port := { r.1.port with readyByte := 0xA5, readData := r.2 } }

end Sys2Proof.Machine
end

