-- ==== Sys2Proof/Machine/EvCan.lean ====
section
/-!
DEFINITION. CAN traffic, errors and time-triggered operation (chapter 13).
-/
namespace Sys2Proof.Machine

/-- RXQ_TAIL_WRITE (R326). -/
def execRxqTailWrite (n : Fin 2) (v : Word) (s : State) : Result' := .next (s.regWrite (0x40C + 0x40 * n.val) v)

/-- RXW_READ (R327): the word read is the host's. -/
def execRxwRead (n : Fin 2) (s : State) : Result' :=
  let r := s.readWord0 (0x410 + 0x40 * n.val)
  .next { r.1 with port := { r.1.port with readData := wordBytes r.2 } }

/-- CAN_TX_ENTRY_OWN (R321, R323): data, then w1 to w3, then w0, charged to A6 (R351). The `RES` bits are the port's own. Where A6 is
exhausted the writes wait as accesses of the port. -/
def execCanTxEntryOwn (n : Fin 2) (i : Fin 32) (w0 w1 w2 w3 : Word) (data : List Byte) (s : State) : Result' :=
  let a := Config.canTxOffset n.val + 2064 * i.val
  let p := s.canPort n.val
  let m1 := p.txMem.writeBytes (2064 * i.val + 16) data
  let m2 := m1.writeBytes (2064 * i.val + 4)
    ([setFld w1 31 28 (fld (p.txW i.val 1) 31 28), w2, w3].flatMap wordBytes)
  let q := { p with txMem := m2.writeWord (2064 * i.val) w0
                    owned := if bit w0 31 && !p.owned.contains i.val then p.owned ++ [i.val] else p.owned }
  .next (if !s.fullPort then s
    else if s.port.pcieHeld.isEmpty && s.port.qspiHeld.isEmpty && s.hostFits (16 + data.length) then
      ({ s with budget := s.hostSpend (16 + data.length) } : State).setCan n.val (if q.active && !q.busOff then q.sweep else q)
    else ((s.portWrite (a + 16) data).portWrite (a + 4) ([w1, w2, w3].flatMap wordBytes)).portWrite a (wordBytes w0))

/-- CAN_FRAME_RECEIVED (R326, R336, R339). -/
def execCanFrameReceived (n : Fin 2) (f : CanFrame) (t : Nat) (s : State) : Result' :=
  let s := (s.by t).losesBus n.val
  if !(s.canPort n.val).listening then .next s
  else if s.isSafeFrame n.val f then .next (s.safeCanReply f)
  else
    let s1 := s.watchStart n.val f.ext (baseIdOf f) t
    let p := s1.canPort n.val
    match p.filter f with
    | some (k, 1) => .next { (s1.setCan n.val (p.store f k t s1.free)) with free := s1.free + 1 }
    | _ => .next (s1.setCan n.val { p with cnt := { p.cnt with noMatch := cadd p.cnt.noMatch 1 } })

/-- A reference message that is not as expected: no Classical frame of 8 bytes, or an identifier other than `TT.REF_ID` with the
priority of another master (R333, R337). -/
def foreignRef (c : CanCfg) (f : RefMessage) : Bool :=
  f.fd || f.data.length != 8 || f.id.toNat / 8 != fld c.w3 10 3 || (c.canMaster && f.id.toNat % 8 == c.prio)

/-- REFERENCE_MESSAGE (R332, R337, R338). -/
def execReferenceMessage (n : Fin 2) (f : RefMessage) (t : Nat) (s : State) : Result' :=
  let s := s.by t
  let c := s.canCfg n.val
  let p := s.canPort n.val
  if !p.listening || !c.tt then .next s
  else if foreignRef c f then .next (s.canState n.val 7)
  else if p.master && decide (c.prio < f.id.toNat % 8) then .next s
  else
    let tt := s.canTt n.val
    let mark : Int := (beNat ((f.data.drop 2).take 2) : Nat) * 1000
    let s1 := s.setTt n.val { tt with mark := t, count := (f.data.headD 0).toNat % 64, begun := true, offset := mark - t, refAt := t
                                      late := false, lostRaised := false }
    let s2 := s1.setCan n.val { p with refOk := true, master := false, onBus := none }
    let s3 := if p.master then s2.canState n.val 4 else s2
    .next (if tt.lostRaised then s3.canState n.val 6 else s3)

/-- CAN_TX_OFFER (R322, R335). -/
def execCanTxOffer (n : Fin 2) (s : State) : Result' :=
  let p0 := s.canPort n.val
  let c := s.canCfg n.val
  if !p0.ready then .next s
  else
    let p := p0.sweep
    let s1 := s.setCan n.val p
    let fits (i : Nat) : Bool := !c.tt || (s.canTt n.val).begun && (match p.arbWindow (s.canTt n.val) s.now with
      | some e => decide (s.now + p.txBound c i < e)
      | none => false)
    match p.best (p.owned.filter (fun i => !p.bound c i)) with
    | some i => .next (if fits i then s1.startEntry n.val i none else s1)
    | none => .next s1

/-- CAN_TX_DONE (R324, R331). -/
def execCanTxDone (n : Fin 2) (t : Nat) (s : State) : Result' :=
  let s := s.by t
  let p := s.canPort n.val
  match p.onBus with
  | none => .next s
  | some b =>
    let q := { p with onBus := none, tec := p.tec - 1, ackRun := 0, noAck := false }
    let q := match b with
      | .entry i _ => { q.giveBack i 0 with cnt := { q.cnt with txOk := cadd q.cnt.txOk 1 } }
      | _ => q
    .next ((s.setCan n.val q).canErrState n.val)

/-- CAN_ERROR (R328, R329, R331). -/
def execCanError (n : Fin 2) (e : CanErr) (s : State) : Result' :=
  let p := s.canPort n.val
  if p.busOff || !p.listening then .next s
  else match e with
  | .transmit =>
    .next (((s.setCan n.val { p with tec := p.tec + 8, ackRun := 0 }).canTxFailed n.val).canBusOff n.val p.txEntry)
  | .ack =>
    let q := { p with tec := if p.passive then p.tec else p.tec + 8, ackRun := p.ackRun + 1 }
    let s1 := (s.setCan n.val q).canTxFailed n.val
    let s2 := if q.ackRun = 16 && !q.noAck then (s1.setCan n.val { s1.canPort n.val with noAck := true }).raise (113 + 4 * n.val) 0 0 else s1
    .next (s2.canBusOff n.val p.txEntry)
  | .receive => .next ((s.setCan n.val { p with rec_ := min 255 (p.rec_ + 1) }).canErrState n.val)
  | .receive8 => .next ((s.setCan n.val { p with rec_ := min 255 (p.rec_ + 8) }).canErrState n.val)
  | .okReceive =>
    if p.rec_ > 127 then
      .next (({ (s.setCan n.val { p with rec_ := 119 + Config.fresh s.free % 9 }) with free := s.free + 1 } : State).canErrState n.val)
    else .next ((s.setCan n.val { p with rec_ := p.rec_ - 1 }).canErrState n.val)

/-- CAN_RECOVERY_DONE (R330). -/
def execCanRecoveryDone (n : Fin 2) (s : State) : Result' :=
  let p := s.canPort n.val
  if !p.busOff || !p.recovering then .next s
  else .next ((s.setCan n.val { p with busOff := false, recovering := false, tec := 0, rec_ := 0, passive := false
                                       waitIdx := none }).canModes)

/-- TT_BASIC_CYCLE (R334): the master begins the basic cycle at the next multiple of its length. -/
def execTtBasicCycle (n : Fin 2) (s : State) : Result' :=
  let c := s.canCfg n.val
  let p := s.canPort n.val
  let tt := s.canTt n.val
  if !(c.tt && p.active && p.master) then .next s
  else
    let k := (s.now + c.cycleNs - 1) / max c.cycleNs 1
    let at_ := if tt.begun && k * c.cycleNs ≤ tt.base then tt.base + c.cycleNs else k * c.cycleNs
    let s1 := s.to at_
    let s2 := s1.setTt n.val { tt with mark := at_, base := at_, begun := true, late := false
                                       count := if tt.begun then (tt.count + 1) % c.matrix else tt.count }
    .next (if p.onBus.isNone then s2.setCan n.val { p with onBus := some (.reference (refData (s2.canTt n.val).count at_)) } else s2)

/-- TT_WINDOW_START (R335, R339). -/
def execTtWindowStart (n : Fin 2) (w : Nat) (free_ : Bool) (s : State) : Result' :=
  let c := s.canCfg n.val
  let tt := s.canTt n.val
  match s.ttWindow n.val w with
  | none => .next s
  | some x =>
    if !(c.tt && (s.canPort n.val).active && tt.begun) || (w < 64 && !winApplies x tt.count) then .next s
    else
      let s := s.to (tt.mark + winOff x * 1000)
      let p := s.canPort n.val
      if !free_ || !p.ready then .next s
      else if w ≥ 64 then
        if s.safe.headPdu.isEmpty then .next s
        else
          let t := s.setCan n.val { p with onBus := some (.headPdu (w == 65)) }
          .next { t with safe := { t.safe with sent := t.safe.sent + 1 } }
      else
        let p := p.sweep
        let s1 := s.setCan n.val p
        if winKind x = 1 then
          .next (if p.owned.contains (winEntry x) then s1.startEntry n.val (winEntry x) (some w) else s1)
        else if winKind x = 3 then
          match p.best (p.owned.filter (fun i => !p.bound c i)) with
          | some i => .next (if p.txBound c i < winLen x * 1000 then s1.startEntry n.val i none else s1)
          | none => .next s1
        else .next s1

/-- Basic cycles run on in bus-off without their messages (R329): mark and count of the cycle whose Tx-enable interval of a window
at `off` ends next. -/
def CanTt.runOn (t : CanTt) (c : CanCfg) (off now : Nat) : CanTt :=
  let e := (now - (t.mark + off) + c.cycleNs - 1) / max c.cycleNs 1
  { t with mark := t.mark + e * c.cycleNs, count := if e = 0 then t.count else (t.count + e) % c.matrix }

/-- TT_WINDOW_MISS (R329, R335): the Tx-enable interval of an own exclusive window ends without a start. -/
def execTtWindowMiss (n : Fin 2) (w : Nat) (s : State) : Result' :=
  let c := s.canCfg n.val
  let tt := if (s.canPort n.val).busOff then
      (s.canTt n.val).runOn c (winOff ((s.canPort n.val).winW w) * 1000 + 16 * c.nBit) s.now
    else s.canTt n.val
  match s.ttWindow n.val w with
  | none => .next s
  | some x =>
    let p := s.canPort n.val
    if !(c.tt && (p.active || p.busOff) && tt.begun) || winKind x ≠ 1 || w ≥ 64 || !winApplies x tt.count
        || p.onBus == some (.entry (winEntry x) (some w)) then .next s
    else
      let s := s.to (tt.mark + winOff x * 1000 + 16 * c.nBit)
      if p.busOff || p.owned.contains (winEntry x) then
        .next (s.setCan n.val { p with cnt := { p.cnt with winMiss := cadd p.cnt.winMiss 1 } })
      else .next s

/-- REFERENCE_TIMEOUT (R337): a potential master that has seen no reference message sends its own. -/
def execReferenceTimeout (n : Fin 2) (s : State) : Result' :=
  let c := s.canCfg n.val
  let p := s.canPort n.val
  let tt := s.canTt n.val
  if !(c.tt && c.canMaster && p.active && !p.master && s.md.mode.heads) then .next s
  else
    let start := if tt.begun then tt.mark + c.cycleNs else (s.now + c.cycleNs - 1) / max c.cycleNs 1 * c.cycleNs
    let s1 := s.to (start + (16 + 16 * c.prio) * c.nBit)
    let s2 := s1.setTt n.val { tt with mark := s1.now, base := start, begun := true, late := false
                                       count := if tt.begun then (tt.count + 1) % c.matrix else tt.count }
    .next ((s2.setCan n.val { p with master := true, onBus := if p.onBus.isNone then some (.reference (refData (s2.canTt n.val).count s1.now)) else p.onBus }).canState n.val 3)

/-- REFERENCES_LOST (R337, R338). -/
def execReferencesLost (n : Fin 2) (s : State) : Result' :=
  let c := s.canCfg n.val
  let p := s.canPort n.val
  let tt := s.canTt n.val
  if !(c.tt && p.listening && !p.master) || tt.lostRaised then .next s
  else
    let s1 := if tt.begun then s.to (tt.mark + 2 * c.cycleNs) else s
    .next (((s1.setTt n.val { tt with lostRaised := true }).setCan n.val { p with refOk := false }).canState n.val 5)

end Sys2Proof.Machine
end

