-- ==== Sys2Proof/Machine/EvChain.lean ====
section
/-!
DEFINITION. Events of the chain ports: returning copies, links, and the forwarding of a pass-through member (R17 to R19, R58,
R59, R63 to R68, R80 to R83, R102, R106, R118, R120, R123, R165, R278, R292).
-/
namespace Sys2Proof.Machine

/-- CANDIDATE_SPOKE (R17): spoke k of a returning copy is complete at `t`. In a swap cycle the standby reads the
sequence sent from the passing frame itself (R308). -/
def execCandidateSpoke (c : Fin 2) (b : Bool) (k : Fin 128) (fb : Feedback) (t : Nat) (s : State) : Result' :=
  let s1 := (s.by t).expireBefore
  let x := s1.ch c
  .next (if s1.merges && x.out && (x.copy b).state == .outstanding && s1.due s1.bNext && fb.status.toNat.testBit 15
      && (x.echoOk fb || s1.swapNow) && (s1.live c).contains k.val && ((x.sp k).on b).isNone then
    s1.candidate c b k fb
  else s1)

/-- COPY_CONFIRM (R19). -/
def execCopyConfirm (c : Fin 2) (b : Bool) (i : CopyInfo) (t : Nat) (s : State) : Result' :=
  let s1 := (s.by t).expireBefore
  .next (if s1.merges && s1.due s1.bNext then s1.copyReturns c b i else s1)

/-- MISS_INSTANT (R165): at B(n) + `MISS.AT` held items are posted for spokes without a candidate on either copy. -/
def execMissInstant (c : Fin 2) (s : State) : Result' :=
  let at_ := s.bNow + s.missOffset c
  .next (if s.merges && (s.ch c).out && s.due at_ then
    let s1 := (s.to at_).expireBefore
    ((s1.spokesOf c).filter (fun k => ((s1.ch c).sp k).a.isNone && ((s1.ch c).sp k).b.isNone)).foldl (fun u k => u.postHeld c k) s1
  else s)

/-- SERVICE_COPY_RETURN (R102): replies of nodes and of safe nodes. -/
def execServiceCopyReturn (c : Fin 2) (b : Bool) (i : CopyInfo) (replies : List Reply) (safe : List Byte) (t : Nat) (s : State) : Result' :=
  let s1 := s.by t
  .next (if !s1.isHead then s1 else
    match s1.discards c b i 2 with
    | some u => u
    | none => ((s1.takeReplies c replies).safeRegionIn c safe).serve)

/-- DISCOVERY_COPY_RETURN (R118). -/
def execDiscoveryCopyReturn (c : Fin 2) (b : Bool) (i : CopyInfo) (hops : Nat) (recs : List CensusRec) (t : Nat) (s : State) : Result' :=
  let s1 := s.by t
  .next (if !s1.isHead then s1 else
    match s1.discards c b i 4 with
    | some u => u
    | none => s1.censusBack c b i hops recs)

/-- DELAY_COPY_RETURN (R106): a copy of another round is foreign. -/
def execDelayCopyReturn (c : Fin 2) (b : Bool) (i : CopyInfo) (round : Fin 16) (hops : Nat) (recs : List DelayRec) (t : Nat) (s : State) :
    Result' :=
  let s1 := s.by t
  .next (if !s1.isHead then s1 else
    match s1.discards c b i 5 with
    | some u => u
    | none => s1.updCh c (fun x => if x.ring.round = round.val then x.delayBack b i hops recs else x.foreign))

/-- FOREIGN_FRAME (R65). -/
def execForeignFrame (c : Fin 2) (s : State) : Result' := .next (if s.isHead then s.updCh c Chain.foreign else s)

/-! ## Forwarding -/

/-- The chain forwards as a pass-through member (Table 3.2, R66). -/
def State.forwards (s : State) (c : Nat) : Bool :=
  (s.ch c).enabled && (s.md.mode == .runStandby || (s.md.mode == .configure && bit (s.ch c).cfg 17 && !s.md.lapsed && !s.md.dark)
    || (s.md.mode == .syncUp && s.startup.phase == .forward))

/-- A port of the chain by side: it is used, and its link is up. -/
def Chain.portW (x : Chain) (right : Bool) : Word := if right then x.portR else x.portL
def Chain.link (x : Chain) (right : Bool) : Bool := if right then x.linkR else x.linkL
def Chain.setLink (x : Chain) (right up : Bool) : Chain := if right then { x with linkR := up } else { x with linkL := up }

/-- A member whose other port has no link wraps on the port that has (R63). -/
def Chain.mayWrap (x : Chain) : Chain :=
  if x.linkL && !x.linkR then { x with pass := { x.pass with wrap := some false } }
  else if !x.linkL && x.linkR then { x with pass := { x.pass with wrap := some true } }
  else x

/-- x and r of a channel whose servo copy passes unwrapped (R292). -/
def PassMember.stamp (p : PassMember) (f : PassFrame) : PassMember :=
  let x : Int := (f.tIn : Int) - f.launch
  if f.chanB then { p with xB := x, rB := f.residence } else { p with xA := x, rA := f.residence }

/-- What a member reads of a good frame of cycle `n` as it passes: address, close order, `DSC.HOPS`, stamps (R103, R120, R123, R292,
R298). -/
def Chain.readPass (x : Chain) (f : PassFrame) (n : Nat) (wrapping : Bool) : Chain :=
  let p := x.pass
  let addr := match f.assigns.find? (fun q => q.1 == Config.serialHash.setWidth 24) with
    | some q => q.2.toNat
    | none => p.addr
  let p1 := if f.kind = 2 then { p with addr := addr, closeAt := match f.close with
      | some e => if wrapping then some (firstCycle n e.toNat) else p.closeAt
      | none => p.closeAt } else p
  let p2 := if f.kind = 4 && !f.chanB then { p1 with hS := f.hops } else p1
  let p3 := if f.kind = 1 && !f.wrapped && !wrapping then p2.stamp f else p2
  { x with pass := p3 }

/-- A member at its close order, by a frame of cycle `n`: it stops wrapping where its other port is up, otherwise it keeps wrapping
(R123). -/
def Chain.atClose (x : Chain) (n : Nat) : Chain :=
  match x.pass.closeAt with
  | some e => if e ≤ n then
      (if x.linkL && x.linkR then { x with pass := { x.pass with wrap := none, closeAt := none } }
       else { x with pass := { x.pass with closeAt := none } })
    else x
  | none => x

/-- A member forwards a frame, and wraps it where it wraps; one that is damaged or no chain frame leaves with its FCS inverted (R63,
R64, R67, R70, R78, R80; of the two ways of R67 the model takes this one: DESIGN CHOICE, log entry 109). -/
def Chain.passOn (x : Chain) (f : PassFrame) (wrapping : Bool) : Chain :=
  let wrapAddr := if wrapping && !f.wrapped && f.wrapAddr = 0xFF then x.pass.addr else f.wrapAddr.toNat
  { x with pass := { x.pass with
      outRight := if wrapping then f.right else !f.right, outWrapped := f.wrapped || wrapping, outInverted := f.fcs ≠ .good || f.etype.toNat ≠ fld x.cfg 15 0
      outWrapAddr := wrapAddr, forwarded := x.pass.forwarded + 1 } }

/-- A frame that a member may act on: undamaged, a chain frame, of a known version and kind (R67, R70, R80). -/
def Chain.knows (x : Chain) (f : PassFrame) : Bool :=
  f.fcs == .good && f.etype.toNat == fld x.cfg 15 0 && f.version == 2 && decide (1 ≤ f.kind.toNat) && decide (f.kind.toNat ≤ 6)

/-- A frame of cycle `n` at a pass-through member: on a port whose wrap points the other way it is discarded; a bad or unknown frame
is forwarded and not acted on (R66, R67, R70, R80, R123). -/
def Chain.passFrame (x : Chain) (f : PassFrame) (n : Nat) : Chain :=
  let y := (if x.knows f then x.atClose n else x).mayWrap
  match y.pass.wrap with
  | some live => if live ≠ f.right then y else (if x.knows f then y.readPass f n true else y).passOn f true
  | none => (if x.knows f then y.readPass f n false else y).passOn f false

/-- PASS_THROUGH_FORWARD (R66). A standby also reads the head PDU and the node replies of a service frame (R278). -/
def execPassThroughForward (c : Fin 2) (f : PassFrame) (t : Nat) (s : State) : Result' :=
  let s1 := s.by t
  .next (if s1.forwards c && (s1.ch c).link f.right then
    let s2 := s1.updCh c (fun x => x.passFrame f (s1.clk.extend f.cycle.toNat f.launch))
    if s2.md.mode = .runStandby && f.kind = 2 && (s1.ch c).knows f && !f.safe.isEmpty then s2.safeRegionIn c f.safe else s2
  else s1)

/-! ## Links -/

/-- The link of a port changes (R59): event 16 or 24, and a member's wrap. -/
def State.linkChange (s : State) (c : Nat) (right up : Bool) : State :=
  let x := s.ch c
  if !x.enabled || fld (x.portW right) 1 0 = 0 || x.link right = up || !s.md.mode.timed then s
  else
    let y := x.setLink right up
    let z := if s.forwards c then y.mayWrap else y
    (s.setCh c z).raiseCh c 16 (b2n right + bitAt 1 up) 0

/-- LINK_UP (R59). -/
def execLinkUp (c : Fin 2) (right : Bool) (t : Nat) (s : State) : Result' := .next ((s.by t).linkChange c right true)

/-- LINK_DOWN (R59). -/
def execLinkDown (c : Fin 2) (right : Bool) (t : Nat) (s : State) : Result' := .next ((s.by t).linkChange c right false)

/-- PHY_STATUS_POLL (R58): parallel ports PP0 to PP3 take their link state from their PHY. -/
def execPhyStatusPoll (up : BitVec 4) (t : Nat) (s : State) : Result' :=
  .next ((List.range 4).foldl (fun u n =>
    if 2 ≤ fld ((u.ch (n / 2)).portW (n % 2 == 1)) 1 0 then u.linkChange (n / 2) (n % 2 == 1) (up.toNat.testBit n) else u) (s.by t))

end Sys2Proof.Machine
end

