-- ==== Sys2Proof/Machine/GearOps.lean ====
section
/-!
DEFINITION. A gear shift takes effect: origin, tables and budgets, coefficient sets and the rescaling of the quantities per
cycle (R53, R54, R151, Table 2.10).
-/
namespace Sys2Proof.Machine

/-- The same for an unsigned 32-bit field. -/
def scaleU (up : Bool) (k v : Nat) : Nat × Bool :=
  if up then (min (v * 2 ^ k) 0xFFFFFFFF, decide (0xFFFFFFFF < v * 2 ^ k)) else ((shrRne v k).toNat, false)

/-- A word that holds an unsigned quantity. -/
def scaleW (up : Bool) (k : Nat) (w : Word) : Word × Bool := (wd (scaleU up k w.toNat).1, (scaleU up k w.toNat).2)

/-- A move record in the new units (Table 2.10). -/
def Move.rescale (up : Bool) (m : Move) : Move × Bool :=
  ({ m with v := (scaleS up 1 32 m.v).1, acc := (scaleU up 2 m.acc).1, dec := (scaleU up 2 m.dec).1, jerk := (scaleU up 3 m.jerk).1 },
   (scaleS up 1 32 m.v).2 || (scaleU up 2 m.acc).2 || (scaleU up 2 m.dec).2 || (scaleU up 3 m.jerk).2)

/-- A waiting move. -/
def rescaleWait (up : Bool) : Option (Move × Nat) → Option (Move × Nat) × Bool
  | some (m, n) => (some ((m.rescale up).1, n), (m.rescale up).2)
  | none => (none, false)

/-- The activity of the generator. -/
def Activity.rescale (up : Bool) : Activity → Activity × Bool
  | .move m => (.move (m.rescale up).1, (m.rescale up).2)
  | x => (x, false)

/-- The generator in the new units; a plan is held in time (R202) and keeps its own. `vel`: the set-point is a velocity. -/
def Gen.rescale (up vel : Bool) (g : Gen) : Gen × Bool :=
  let v := scaleS up 1 48 g.v
  let a := scaleS up 2 48 g.a
  let vr := scaleS up 1 32 g.vRef
  let ar := scaleS up 2 32 g.aRef
  let act := g.act.rescale up
  let q := rescaleWait up g.queued
  let p := rescaleWait up g.pend
  let rd := scaleU up 2 g.rampDec
  let rj := scaleU up 3 g.rampJerk
  let soft := match g.soft with
    | some x => if vel then (some (scaleS up 1 32 x).1, (scaleS up 1 32 x).2) else (some x, false)
    | none => (none, false)
  ({ g with v := v.1, a := a.1, vRef := vr.1, aRef := ar.1, act := act.1, queued := q.1, pend := p.1, rampDec := rd.1, rampJerk := rj.1
            soft := soft.1 },
   v.2 || a.2 || vr.2 || ar.2 || act.2 || q.2 || p.2 || rd.2 || rj.2 || soft.2)

/-- A released command of an axis. -/
def Released.rescale (up : Bool) (r : Released) : Released × Bool :=
  let q := ({ mode := r.mode, target := r.target, ff1 := r.ff1, ff2 := r.ff2 } : Result).rescale up
  ({ r with target := q.1.target, ff1 := q.1.ff1, ff2 := q.1.ff2 }, q.2)

/-- A spoke of the transmit buffer. -/
def TxSlot.rescale (up : Bool) (t : TxSlot) : TxSlot × Bool :=
  let q := ({ mode := t.mode, target := t.target.toInt, ff1 := t.ff1.toInt, ff2 := t.ff2.toInt } : Result).rescale up
  ({ t with target := wdi q.1.target, ff1 := wdi q.1.ff1, ff2 := wdi q.1.ff2 }, q.2)

/-- An axis in the new units, and whether a multiplication saturated. -/
def Axis.rescale (up : Bool) (x : Axis) : Axis × Bool :=
  let g := x.gen.rescale up x.velSource
  let p0 := scaleW up 2 x.prf0
  let p1 := scaleW up 2 x.prf1
  let sr := scaleW up 1 x.cfg2
  let sv := scaleS up 1 32 x.src.v
  let sa := scaleS up 2 32 x.src.a
  let fv := scaleS up 1 32 x.fb.vel
  let r := x.rel.rescale up
  ({ x with gen := g.1, prf0 := p0.1, prf1 := p1.1, cfg2 := sr.1, src := { x.src with v := sv.1, a := sa.1 }
            fb := { x.fb with vel := fv.1 }, rel := r.1 },
   g.2 || p0.2 || p1.2 || sr.2 || sv.2 || sa.2 || fv.2 || r.2)

/-- An item of the ended cycle in the new units (R54): a completed one's result; what a waiting one is to read; a running one's
result when it completes. -/
def Item.rescale (up : Bool) (x : Item) : Item × Bool :=
  match x.stage with
  | .done => ({ x with result := (x.result.rescale up).1 }, (x.result.rescale up).2)
  | .running _ _ => ({ x with units := some up }, false)
  | _ =>
    let v := scaleS up 1 32 x.view.vel
    match x.sp with
    | none => ({ x with view := { x.view with vel := v.1 } }, v.2)
    | some p =>
      let pv := scaleS up 1 32 p.v
      let pa := scaleS up 2 32 p.a
      ({ x with view := { x.view with vel := v.1 }, sp := some { p with v := pv.1, a := pa.1 } }, v.2 || pv.2 || pa.2)

/-- Every axis, every item of the ended cycle and every spoke of the transmit buffers in the new units; a saturation counts as
an envelope clamp (R54). -/
def State.rescale (s : State) (up : Bool) : State :=
  let mine (x : Item) : Bool := decide (x.level ≤ 1) && x.cycle != s.clk.cycle
  let clamps (i : Nat) : Bool := ((s.ax i).rescale up).2
    || s.sched.items.any (fun x => x.axis == i && mine x && (x.rescale up).2)
    || (Tbl.get ({} : TxSlot) s.ch0.slots i |>.rescale up).2 || (Tbl.get ({} : TxSlot) s.ch1.slots i |>.rescale up).2
  let s1 : State := { s with
    axes := s.axes.map (fun p => (p.1, (p.2.rescale up).1))
    sched := { s.sched with items := s.sched.items.map (fun x => if mine x then (x.rescale up).1 else x) }
    ch0 := { s.ch0 with slots := s.ch0.slots.map (fun p => (p.1, (p.2.rescale up).1)) }
    ch1 := { s.ch1 with slots := s.ch1.slots.map (fun p => (p.1, (p.2.rescale up).1)) } }
  ((s.axisList.filter clamps)).foldl State.countClamp s1

/-- A step output at B(e): the phase gathered so far and the rate in the units of the new cycle length (R54, R219). -/
def StepPort.shift (p : StepPort) (b old new : Nat) : StepPort :=
  { p with acc := (divRne ((p.phase b * new : Nat) : Int) old).toNat, since := max p.since (min b p.expiry)
           rate := divRne (p.rate * new) old }

/-- The slot tables a shift carries: none given leaves the table. The shadow is neither read nor changed (Table 15.4). -/
def Chain.shiftWin (x : Chain) (w : List Word) : Chain :=
  if w.isEmpty then x else { x with active := { x.active with win := Tbl.putRange [] 0 w } }

/-- Axes whose shadow set is ready for a gear (R151). -/
def State.shiftSwaps (s : State) (g : Nat) : List Nat := s.axisList.filter (fun i => (s.ax i).sh.ready && (s.ax i).sh.gear == g)

/-- The origin of the new gear, its tables and its budget; meters restart (R53). -/
def State.newGear (s : State) (h : Shift) : State :=
  let new := tcOf h.gear
  { s with
    clk := { s.clk with origin := s.bNow, originCycle := s.clk.cycle, gear := h.gear }
    ch0 := s.ch0.shiftWin h.win0
    ch1 := s.ch1.shiftWin h.win1
    budget := if h.budget.isEmpty then { s.budget with run := [] } else { s.budget with active := Tbl.putRange [] 0 h.budget, run := [] }
    room := { s.room with slackMin := new, projMin := new, count := 0, runS := none, runP := none }
    pins := { s.pins with stp := s.pins.stp.map (fun p => (p.1, p.2.shift s.bNow s.tc new)) }
    pend := { s.pend with shift := none } }

/-- B(e) of a shift (R53, R54, R151, R397, R413). -/
def State.applyShift (s : State) (h : Shift) : State :=
  let old := s.clk.gear
  let l := s.shiftSwaps h.gear
  let s1 := s.newGear h
  let s2 := l.foldl (fun t i => t.updAx i Axis.swapSets) s1
  let s3 := if movingShift old h.gear then s2.rescale (decide (old < h.gear)) else s2
  let s4 := s3.stopChirps.raise 40 (h.gear + at_ 3 old) (h.e % 2 ^ 32)
  if l.isEmpty then s4 else s4.raise 44 l.length (h.e % 2 ^ 32)

end Sys2Proof.Machine
end

