-- ==== Sys2Proof/Machine/SourceOps.lean ====
section
/-!
DEFINITION. What an axis takes at the boundary: source changes, host streams, converter and pulse sources, limits, axis words
(R27, R160 to R163, R211, R212, R215 to R218, R268, R377, R408).
-/
namespace Sys2Proof.Machine

/-- Offset of the stream slot of axis i in exchange memory (R215). -/
def streamSlot (i : Nat) : Nat := 0xFC000 + 64 * i

/-- A source change takes effect (R162, R163): a move in progress ends as an ABORT with cause 4, a new source is engaged by the next
profile step, and a change to the profile source leaves the generator idle where it stands. A stop ramp ends where a source is
engaged, and runs on where the profile is chosen (DESIGN CHOICE, log entry 106). -/
def Axis.changeSource (x : Axis) (w : Word) : Axis × List PEvent :=
  let y : Axis := { x with cfg0 := w, srcNext := none }
  if !x.enabled || y.srcSel = x.srcSel then (y, [])
  else
    let e := y.endActivity 4
    let ramping := x.gen.st == 4 || x.gen.st == 5 || x.gen.st == 8 || x.gen.st == 10
    let g := { e.1.gen with plan := none, planNew := false, pend := none, queued := none }
    let src : SrcState := { e.1.src with p := x.gen.p, v := if y.velSource then x.gen.vRef else 0, a := 0, engaged := false }
    if y.srcSel = 0 then
      ({ e.1 with gen := { g with st := if ramping then x.gen.st else 0, discard := ramping, engageNew := false, softNew := y.softOn
                                  plan := if ramping then x.gen.plan else none
                                  v := if ramping then x.gen.v else 0, a := if ramping then x.gen.a else 0 }
                  src := src }, e.2)
    else ({ e.1 with gen := { g with engageNew := true }, src := src }, e.2)

/-- The source change of axis i that waits for the boundary. -/
def State.sourceChange (s : State) (i : Nat) : State :=
  match (s.ax i).srcNext with
  | some w =>
    let e := (s.ax i).changeSource w
    let t := (s.setAx i e.1).profEvents i e.2
    if e.1.pgen = (s.ax i).pgen then t else t.markChanged i
  | none => s

/-- No new set-point for axis i (R27, R161, R216): counted, in state SOURCE only, as a stream miss. -/
def State.missSource (s : State) (i : Nat) : State :=
  let x := s.ax i
  if x.gen.st ≠ 3 then s
  else
    let m := streamSlot i + 8
    let s1 : State := if x.srcSel = 3 then { s with mem := { s.mem with exch := s.mem.exch.writeWord m (wd (cadd (s.mem.exch.readWord m).toNat 1)) } } else s
    s1.occur 8 i (fun st => some (67, i, st))

/-- The host stream of axis i at the boundary (R215, R216). -/
def State.takeStream (s : State) (i : Nat) : State :=
  let a := streamSlot i
  let mark := fld (s.mem.exch.readWord a) 30 0
  let take := s.mem.exch.readWord (a + 4)
  if mark = fld take 31 1 then
    (s.updAx i (fun x => { x with src := { x.src with v := 0, a := 0 } })).missSource i
  else
    let b := a + 16 + 16 * fld take 0 0
    let src (y : SrcState) : SrcState :=
      { y with p := sgn 64 (w64 (s.mem.exch.readWord b) (s.mem.exch.readWord (b + 4))), v := (s.mem.exch.readWord (b + 8)).toInt
               a := (s.mem.exch.readWord (b + 12)).toInt }
    let s1 := s.updAx i (fun x => { x with src := src x.src })
    { s1 with mem := { s1.mem with exch := s1.mem.exch.writeWord (a + 4) (wd (at_ 1 mark + (1 - fld take 0 0))) } }

/-- The converter source of axis i (R161): `SRC_OFFSET` + KSRC × code, in Q24.8 counts for a position, in the axis's own units for
T2 and T3. -/
def State.takeConverter (s : State) (i : Nat) : State :=
  let x := s.ax i
  let w := Tbl.get (0 : Word) s.pins.convP.res (2 * x.srcTag)
  if bit w 31 && !bit w 24 && !bit w 25 then
    let k := (sat32 [term x.act 23 (sgn 24 (fld w 23 0))]).1
    let off := sgn 64 (w64 (Tbl.get 0 x.act.p 2) (Tbl.get 0 x.act.p 3))
    let src : SrcState :=
      if x.velSource then { x.src with v := satS 32 (off + k), a := 0 }
      else if x.loopTemplate = 3 then { x.src with p := (off + k) * 4294967296, v := 0, a := 0 }
      else { x.src with p := off + k * 16777216, v := 0, a := 0 }
    s.setAx i { x with src := src }
  else s.missSource i

/-- The set-point of axis i for the new cycle, by its source (Table 6.10); each streamed axis is served, enabled or not (R27, R215). -/
def State.takeSetPoint (s : State) (i : Nat) : State :=
  let x := s.ax i
  if x.srcSel = 3 then s.takeStream i
  else if x.srcSel = 2 && x.enabled && x.template != 0 then s.takeConverter i
  else s

/-- The limits as the generator uses them at B(n) (R211, R212). -/
def State.readLimits (s : State) (i : Nat) : State :=
  let p := s.limActive i false
  let n := s.limActive i true
  s.updAx i (fun x => { x with gen := { x.gen with limP := p, limN := n, hitP := x.gen.hitP && p, hitN := x.gen.hitN && n } })

/-- Words of axis i that come into force at a boundary, and the flags of the cycle (R252, R253, R377, R408). The first cycle of a
current-loop axis is over once its CURRENT_UPDATE has run (R174). -/
def Axis.boundary (x : Axis) : Axis :=
  { x with auxNow := x.aux, brakeNow := x.brake, ackLeft := if x.ackNew then 16 else x.ackLeft - 1, ackNew := false
           missNowN := x.missN, missNowW := x.missW, undo := none, curst := x.curst.advance
           loop := { x.loop with first := x.loop.first && !(x.isCur && !x.curst.fresh) }
           fb := { x.fb with prevOk := x.fb.confirmed, confirmed := false, vel := if x.isCur && !x.fb.confirmed then 0 else x.fb.vel }, rel := { x.rel with clamped := false } }

/-- An axis whose zone stays in STO: its generator stands at the measured position, its integrators are 0 (R268). -/
def State.stoReload (s : State) (i : Nat) : State :=
  if s.inSto i && !(s.ax i).enabled then
    s.updAx i (fun x => { x with gen := { x.gen with p := x.fb.pos, pRef := x.fb.pos, v := 0, a := 0 }, loop := { x.loop with i := 0 }
                                 curst := { x.curst with xd := 0, xq := 0 } })
  else s

/-- An item of a local axis that still waits for a posting condition at its deadline, the boundary, is never posted; that of a chain
axis waits until its own deadline (R189). -/
def State.dropWant (s : State) (i : Nat) : State :=
  match (s.ax i).want with
  | some it => if it.flow.isSome then s else (s.updAx i (fun x => { x with want := none })).accountOf it
  | none => s

/-- The PROFILE_STEP of axis i is posted; one that still waits, deferred, takes its place (R20, R197). -/
def State.postProfile (s : State) (i : Nat) : State :=
  match s.sched.items.find? (fun x => x.kind == .profile && x.axis == i && !x.dead && !x.running) with
  | some x => (if x.passed then s else s.countDefer 2).putItem x { x with passed := false, cycle := s.clk.cycle }
  | none => s.addItem (s.profileItem i)

/-- The work of axis i that the boundary posts: its profile step, and a local axis's item once that has completed (R20, R197). -/
def State.postAxis (s : State) (i : Nat) : State :=
  let s1 := s.postProfile i
  if (s.ax i).isStep then s1.post_ (s1.localItem i) else s1

/-- Axes that the boundary serves: enabled, with a template. -/
def State.running (s : State) : List Nat := s.axisList.filter (fun i => (s.ax i).enabled && (s.ax i).template != 0)

/-- Set-points, limits and work of the new cycle. -/
def State.startAxes (s : State) : State :=
  let s1 := s.axisList.foldl State.readLimits s
  let s2 := s1.axisList.foldl State.takeSetPoint s1
  s2.running.foldl State.postAxis s2

end Sys2Proof.Machine
end

