-- ==== Sys2Proof/Machine/TakeOps.lean ====
section
/-!
DEFINITION. Standby, takeover and planned swap at a boundary: offset from the active, the copy applied, the first frame of a new
head (R25, R289, R291, R292, R298, R303 to R308).
-/
namespace Sys2Proof.Machine

/-! ## Offset and takeover offsets (R292) -/

/-- Mean of the values kept; its rounding is open. -/
def meanOf (l : List Int) : Int := divOpen l.sum l.length

/-- Ring time that the active reports of chain c; 0 while it is wrapped. -/
def State.ringOf (s : State) (c : Nat) : Nat := if c = 0 then s.link.ring0 else s.link.ring1

/-- One cycle's ε, K_A and K_B of a chain enter its last 64 values. -/
def Chain.measureEps (x : Chain) (ring : Nat) : Chain :=
  if ring = 0 then x
  else
    let p := x.pass
    let eps := divOpen (10 * (p.xA + p.xB - ring + p.rA) + (cTx x.portL : Int)) 20
    { x with pass := { p with epsHist := (eps :: p.epsHist).take 64, kaHist := ((p.xA + p.rA - eps) :: p.kaHist).take 64
                              kbHist := ((p.xB + p.rB - eps) :: p.kbHist).take 64 } }

/-- The time base is corrected by rate only, within ±200 ppm; RATE_STEP moves it 50 ppm a millisecond (R105, R291). -/
def Clk.steer (k : Clk) (off : Int) : Clk := { k with rateReq := clampI (-858993) 858993 (Config.steer off) }

/-- ε of a standby at the boundary: the mean on the lowest enabled chain whose ring is closed (R292); above 100 ns for 64 cycles it
raises event 106 and the standby is not time-locked. The rate steers back (R291). -/
def State.measureTime (s : State) : State :=
  let s1 := s.chains.foldl (fun t c => t.updCh c (fun x => x.measureEps (t.ringOf c))) s
  match s1.chains.find? (fun c => s1.ringOf c != 0) with
  | none => s1
  | some c =>
    let e := meanOf (s1.ch c).pass.epsHist
    let high := if e.natAbs > 100 then s1.link.epsHigh + 1 else 0
    let t : State := { s1 with clk := s1.clk.steer e, link := { s1.link with eps := e, epsHigh := min high 64, epsRaised := s1.link.epsRaised && decide (high ≠ 0) } }
    if high = 0 then { t with twin := { t.twin with timeLock := t.twin.valid } }
    else if 64 ≤ high && !t.link.epsRaised then
      (({ t with link := { t.link with epsRaised := true }, twin := { t.twin with timeLock := false } } : State).raise 106 0 (ubits 32 e)).readiness
    else t

/-! ## The copy at a standby (R25, R289, R304, R305) -/

/-- Axes that the copy shows enabled and the copy before it did not. -/
def StateCopy.newlyEnabled (c old : StateCopy) : List Nat :=
  (c.recs.filter (fun r => r.enabled && !old.recs.any (fun o => o.axis == r.axis && o.enabled))).map (fun r => r.axis.toNat)

/-- A closed copy is applied; the ports of an axis that it enables start afresh, as on the active (R226, R237). -/
def State.applyCopy (s : State) (c : StateCopy) : State :=
  let fresh := decide (s.clk.cycle ≤ c.cb.cycle + s.twin.ageMax)
  let s1 : State := { s with
    twin := { s.twin with rx := none, copy := c, applied := true, stateSeq := c.cb.stateSeq.toNat, acked := c.cb.stateSeq.toNat
                          precs := keepRecs s.twin.precs c.precs, stale := s.twin.stale && !fresh }
    link := { s.link with incompleteNow := false, ring0 := c.cb.ring0.toNat, ring1 := c.cb.ring1.toNat } }
  (c.newlyEnabled s.twin.copy).foldl State.freshPorts s1

/-- The device forwards in SYNC-UP as one that may become the standby. -/
def State.awaits (s : State) : Bool := s.twin.enable && s.md.mode == .syncUp && s.startup.phase == .forward

/-- A device in SYNC-UP that forwards may become the standby with its first complete copy (R289). -/
def State.joins (s : State) : Bool := s.awaits && s.twin.valid && s.twin.timeLock && s.twin.cfgCurrent

/-- The conversion in hand lasts as long as before over a step of the time base (R238, R243). -/
def Conv.stepTime (c : Conv) (old new : Nat) : Conv :=
  { c with run := c.run.map (fun r => { r with begun := r.begun + new - old, until_ := r.until_ + new - old }) }

/-- The time base takes a value; conversions in hand last as long as before. -/
def State.setTime (s : State) (t : Nat) : State :=
  let u := (s.setConv 0 ((s.conv 0).stepTime s.now t)).setConv 1 ((s.conv 1).stepTime s.now t)
  { u with clk := { u.clk with tb := t, frac := 0 } }

/-- The time base follows the twin (R291): one step in SYNC-UP; in RUN-STANDBY it locks once |ε| is at most 100 ns. -/
def State.lockTime (s : State) : State :=
  if s.awaits then
    let t := if s.twin.onceValid then s else s.setTime ((s.now : Int) + s.twin.peerOff).toNat
    { t with twin := { t.twin with onceValid := true, timeLock := true } }
  else if s.md.mode = .runStandby then { s with twin := { s.twin with timeLock := decide (s.link.eps.natAbs ≤ 100) } }
  else s

/-- A valid pair on a device that does not head (R289, R291, R305): its time base follows, and it asks for the configuration. -/
def State.followPair (s : State) : State :=
  let t := s.lockTime
  if t.md.mode.heads then t
  else ({ t with link := { t.link with refresh := t.link.refresh || (t.awaits && !t.twin.cfgCurrent) } } : State).readiness

/-- The copy at a boundary of a standby, or of a device that becomes one. -/
def State.copyBoundary (s : State) : State :=
  match s.twin.rx with
  | some c =>
    if s.md.mode = .runStandby then (s.applyCopy c).readiness
    else if s.joins then ((s.applyCopy c).enter .runStandby 2).readiness
    else { s with twin := { s.twin with rx := none } }
  | none =>
    if s.md.mode ≠ .runStandby then s
    else if s.link.incompleteNow then { s with link := { s.link with incompleteNow := false } }
    else { s.copyIncomplete with link := { s.copyIncomplete.link with incompleteNow := false } }

/-! ## A new head (R298, R308) -/

/-- `NODE.POS` rebased to (`NODE.POS` - h_S) mod E. -/
def rebaseNodes (t : Tbl Word) (h : Nat) : Tbl Word :=
  let e := (usedNodes t).length
  t.map (fun p => if p.1 % 4 = 1 && bit p.2 31 && e != 0 then (p.1, setFld p.2 5 0 ((fld p.2 5 0 + (e - h % e)) % e)) else p)

/-- Node states of a new head: the nodes of its table hold their addresses and delays, which it has not measured itself. -/
def headNodes (t : Tbl Word) : Tbl Node := (usedNodes t).map (fun a => (a, { assigned := true, hop := nodePos t a }))

/-- Chain c of a new head: node table rebased, takeover offsets, no ring data yet. -/
def Chain.newHead (x : Chain) : Chain :=
  let node := rebaseNodes x.active.node x.pass.hS
  { x with active := { x.active with node := node }, shadow := { x.shadow with node := rebaseNodes x.shadow.node x.pass.hS }
           nodes := headNodes node, ring := {}, staging := none, kA := meanOf x.pass.kaHist, kB := meanOf x.pass.kbHist }

/-- Zone states of a new active: its own verdicts, among them every zone that the last head PDU showed in STO. After a takeover it
sends its own head PDU of the safe cycle in progress (R279); after a swap its first is that of the next safe cycle (R308). -/
def State.newSafe (s : State) (swap : Bool) : State :=
  let f := { s.safe with sto := s.safe.sto ||| s.safe.seenSto }
  ({ s with safe := { f with headPdu := if !swap && f.begun && f.configured then f.pdu f.cycle else [] } } : State).drivePairs

/-- A swap or takeover is counted and its hours begin (Table 12.10). -/
def State.countSwap (s : State) : State :=
  { s with link := { s.link with swaps := cadd s.link.swaps 1, hoursFrom := s.now, reminders := 0, swapE := none, swap := none } }

/-- The command of the first frame of axis i: `TARGET` = `SR.CMD` without feed-forward, for every chain axis, enabled or not, but a
current-loop one; a local axis that is enabled runs at it for one cycle. It passes the envelope (R28, R250, R298). -/
def State.firstCommand (s : State) (i : Nat) : State :=
  let x := s.ax i
  if x.template == 0 || x.isCur || (x.isStep && !x.enabled) then s
  else
    match s.envelope i x.out { mode := if x.isStep then 0xFF else outMode x.out, target := x.rel.target } with
    | none => s
    | some (r, clamped) =>
      let s1 := if clamped then s.countClamp i else s
      if x.isStep then s1.releaseLocal i r
      else
        match s1.spokeOfAxis i with
        | some (c, _) => s1.updCh c (fun q => { q with slots := Tbl.put q.slots i (x.slot r) })
        | none => s1

/-- The device heads its chains from this boundary: after a takeover (R298, R397) or a swap (R308). -/
def State.becomeHead (s : State) (m : Mode) (swap : Bool) : State :=
  let s1 := s.chains.foldl (fun t c => t.updCh c Chain.newHead) s
  let s2 := (((if swap then s1 else s1.loadCopy).newSafe swap).enter m 3).countSwap
  let s3 : State := { s2 with twin := { s2.twin with takeover := false, ready := swap, token := false, renewed := 0, healthNow := 1, count := 0, rx := none } }
  if swap then (s3.chains.foldl (fun t c => t.updCh c Chain.startMeasure) s3)
  else
    let s4 := s3.templated.foldl State.firstCommand s3.stopChirps
    s4.raise 97 (b2n (m == .safeHold)) (s4.clk.cycle % 2 ^ 32)

/-- A takeover decided for this boundary (R297, R298, R304, R424). -/
def State.takeoverBoundary (s : State) : State :=
  if !s.twin.takeover || s.md.mode ≠ .runStandby then s
  else s.becomeHead (if s.twin.stale || s.twin.hold then .safeHold else .runActive) false

/-! ## Planned swap (R307, R308) -/

/-- The standby at B(e): the copied state, the head's sides of the pairs, and receive windows for frame e at its ingress ports. -/
def State.beginSwapCycle (s : State) : State :=
  let s1 := s.loadCopy
  let s2 := s1.chains.foldl (fun t c => t.updCh c (fun x =>
    let f : TxFrame := { kind := 1, cycle := t.clk.cycle, count := (usedMap x.active.map).length, fmt := x.compact }
    { x with launchMap := x.active.map, seq := (x.seq + 1) % 256, out := true, copyA := { state := .outstanding }
             copyB := { state := .outstanding }, passDone := false, wrapNow := false, spokes := [], emptyNow := 0, slots := [], due := []
             tx := Tbl.put x.tx 1 f })) s1
  let m := s2.passedOver 0
  let k := s2.passedOver 1
  let s3 : State := { s2 with sched := { s2.sched with flow0 := m, flow1 := k, prev0 := 0, prev1 := 0 } }
  let head : State := { s3 with md := { s3.md with mode := .runActive }, safe := { s3.safe with sto := s3.safe.seenSto } }
  { s3 with safe := head.drivePairs.safe }

/-- The boundary after the swap cycle: event 104 on both devices; the standby heads, the former active forwards as the new standby. -/
def State.endSwapCycle (s : State) (e : Nat) : State :=
  if s.md.mode = .runStandby then ((s.becomeHead .runActive true)).raise 104 0 (e % 2 ^ 32)
  else
    let r := s.link.swap.map (·.ref)
    let s1 := ((s.countSwap).enter .runStandby 2).raise 104 0 (e % 2 ^ 32)
    let s2 : State := { s1 with
      twin := { s1.twin with token := false, applied := true, cfgCurrent := true, timeLock := true, ready := true, stale := false, count := 0, heard := false }
      ch0 := { s1.ch0 with out := false, slots := [], due := [] }
      ch1 := { s1.ch1 with out := false, slots := [], due := [] }
      sched := { s1.sched with items := s1.sched.items.filter (fun x => x.kind == .filter) } }
    match r with
    | some m => if m.viaBridge then s2 else s2.respond m stOk (words64 e)
    | none => s2

end Sys2Proof.Machine
end

