-- ==== Sys2Proof/Machine/CycleOps.lean ====
section
/-!
DEFINITION. The boundary B(n): the end of the cycle before, what takes effect, and the start of the new cycle (R15, R16, R27 to
R29, R36 to R38, R42 to R45, R53, R76, R85 to R87, R95, R98, R117, R151, R191, R197, R293, R295, R387, R406 to R409, R420).
-/
namespace Sys2Proof.Machine

/-! ## The end of a cycle -/

/-- H1 to H5 of Table 12.4 that fail for the cycle that ends, as bits 0 to 4. H2 cannot fail: the release unit releases every
item, or fails it, by its deadline (R191). -/
def State.healthFails (s : State) : Nat :=
  bitAt 0 (!s.swapNow && !s.chains.all (fun c => (s.ch c).out)) + bitAt 2 (!s.faults.hbNow && !s.faults.hbPrev) + bitAt 3 s.faults.oscBad +
    bitAt 4 s.faults.stopLease

/-- The heartbeat of the cycle that ends (R293, R409): a miss is counted; the first raises event 2 and is logged, and without a
ready twin it demands SAFE-HOLD. -/
def State.heartbeatEnd (s : State) : State :=
  let missed := !s.faults.hbNow && !s.faults.hbPrev
  let f := s.faults
  let s1 : State := { s with faults := { f with
    hbPrev := f.hbNow, hbNow := false, hbMissed := if missed then min 65535 (f.hbMissed + 1) else f.hbMissed } }
  if missed && f.hbMissed = 0 then
    let s2 := (s1.raise 2 1 (f.hbCycle % 2 ^ 32)).fixedFault 21 0 5
    if s.md.mode = .runStandby || s.twinReady then s2 else s2.demandHold
  else s1

/-- Health of the cycle that ends, of a device that heads (R293). -/
def State.healthEnd (s : State) : State :=
  let h := s.healthFails
  let s1 := s.heartbeatEnd
  if s.isHead then { s1 with twin := { s1.twin with healthNow := h } } else s1

/-- Drops and timeouts of the cycle that ends: events 41 and 51, classes 3 and 4, stamped with it (R38, R191). -/
def State.reportEnd (s : State) : State :=
  let n := s.clk.cycle
  let c := s.sched
  let s1 := if c.dropsNow = 0 then s else (s.raise 41 (min c.dropsNow 65535) (n % 2 ^ 32)).occurAt 3 0 n (ev10 3)
  if c.timeoutsNow = 0 then s1 else (s1.raise 51 (min c.timeoutsNow 65535) c.firstTimeout).occurAt 4 0 n (ev10 4)

/-- The ratio k of the ring reference (R43), Q4.12, from its present period in the unit of the fused one. -/
def State.cornerK (s : State) (ringPeriod : Nat) : State :=
  let far := decide (Config.fusedRing < ringPeriod) || ringPeriod == 0
  { s with room := { s.room with beyond := far, k := if far then 0x1000 else (divOpen (Config.fusedRing * 4096 : Nat) ringPeriod).toNat } }

/-- Usage of the cycle that ends, with its largest values in the headroom window so far (Table 2.6a); nothing stays passed over
(R185). -/
def State.usageEnd (s : State) : State :=
  let b := s.budget
  { s with
    budget := { b with used := b.now, now := [], run := (List.range 8).map (fun k => (k, max (Tbl.get 0 b.run k) (Tbl.get 0 b.now k))) }
    sched := { s.sched with dropsNow := 0, timeoutsNow := 0, firstTimeout := 0, spillNow := false
                            items := s.sched.items.map (fun x => if x.kind == .profile then x else { x with passed := false }) } }

/-- The usage and the meter of the cycle that ends (R40, R42): the meter stays open while an A0 or A1 item of the cycle has still
to end; one still open from the cycle before closes first. -/
def State.meterEnd (s : State) (ringPeriod : Nat) : State :=
  let s0 := s.cornerK ringPeriod
  let s1 := if s0.sched.open0 then
      ({ s0 with sched := { s0.sched with open0 := false } } : State).closeMeter s0.bNow s0.sched.tEnd0 s0.sched.busyRun0 else s0
  let waits := s1.sched.items.any (fun x => decide (x.level ≤ 1) && !x.dead && x.cycle == s1.clk.cycle && x.stage != .done)
  let u := s1.usageEnd
  let c := u.sched
  let s2 := if waits then { u with sched := { c with open0 := true, tEnd0 := c.tEnd, busyRun0 := c.busyRun } }
    else u.closeMeter u.bNext c.tEnd c.busyRun
  { s2 with sched := { s2.sched with tEnd := none, busyRun := 0 } }

/-- Budgets are full at the start of a cycle (R36). -/
def State.fillBudgets (s : State) : State :=
  { s with budget := { s.budget with left := (List.range 8).map (fun k => (k, (fld (Tbl.get 0 s.budget.active k) 23 0 : Nat))) } }

/-- The cycle in hand ends: deadlines, receive windows, reports, meter and health. -/
def State.endCycle (s : State) (ringPeriod : Nat) : State :=
  let s1 := s.expire s.bNext
  let s2 := s1.axisList.foldl State.dropWant s1
  let s3 := s2.healthEnd
  let s4 := [0, 1].foldl State.closeWindow s3
  let s5 := s4.reportEnd
  s5.meterEnd ringPeriod

/-! ## The token (R294, R295) -/

/-- Boundary at which the token lapses. -/
def Twin.lapseAt (t : Twin) : Nat := t.renewed - 1 + t.l

/-- The token lapses at boundary m. -/
def State.lapses (s : State) (m : Nat) : Bool := s.twin.token && s.isHead && decide (s.twin.lapseAt ≤ m)

/-- The lapse of the token: event 96 and CONFIGURE with everything dark, the sync link too, whose lanes fall (R295). -/
def State.lapse (s : State) : State :=
  let t := s.twin
  let s1 : State := { s with
    twin := { t with token := false, lanes := 0, valid := false, timeLock := false, ready := false, rx := none }
    md := { s.md with lapsed := true, dark := true } }
  let s2 := (s1.raise 96 t.failed t.leaseSeq).enter .configure 5
  if t.lanes = 0 then s2 else s2.raise 102 0 0

/-! ## What takes effect -/

/-- Faults, settings and pins at boundary m (R26, R86, R111, R165, R407, R408, R455). -/
def Chain.boundary (x : Chain) : Chain := { x with guardNow0 := x.guard0, guardNow1 := x.guard1, missAtNow := x.missAt }
def State.settingsBoundary (s : State) : State :=
  { s with
    faults := { s.faults with now := s.faults.cfg }
    ch0 := s.ch0.boundary, ch1 := s.ch1.boundary
    axes := s.axes.map (fun p => (p.1, p.2.boundary))
    pins := { s.pins with
      cp := s.pins.cp.map (fun p => (p.1, { p.2 with now := p.2.cfg }))
      cap := s.pins.cap.map (fun p => (p.1, { p.2 with edgeNow := p.2.edge }))
      pin := s.pins.pin.map (fun p => (p.1, p.2.sample))
      fb := s.pins.fb.map (fun p => (p.1, { p.2 with complete := false, faulty := false })) } }

/-- Results of the ended cycle follow the new maps: a completed one goes to the chain of its axis's new spoke, one still to come is due
there, and that of an axis without a spoke is dropped (R98). -/
def State.remap (s : State) : State :=
  let put (t : State) (i : Nat) : State :=
    match t.spokeOfAxis i with
    | some (c, _) =>
      let q := Tbl.get ({} : TxSlot) (t.ch (1 - c)).slots i
      if q.ready then (t.updCh c (fun x => { x with slots := Tbl.put x.slots i q })).updCh (1 - c) (fun x => { x with slots := x.slots.filter (fun p => p.1 != i) })
      else t
    | none => t
  let s1 := s.mappedAxes.foldl put s
  let s2 : State := { s1 with sched := { s1.sched with items := s1.sched.items.map (fun x =>
    match x.flow, s1.spokeOfAxis x.axis with
    | some f, some (c, k) => if f < 2 && !x.dead then { x with deadline := s1.firstByte c s1.clk.cycle k } else x
    | _, _ => x) } }
  (s2.sched.items.filter (fun x => !x.dead && (s2.spokeOfAxis x.axis).isNone && (match x.flow with
    | some f => decide (f < 2)
    | none => false))).foldl (fun t x => t.failItem x false) s2

/-- Pending changes that take effect at the boundary of the cycle in hand (R53, R95, R98, R151, R315). -/
def State.takeEffect (s : State) : State :=
  let m := s.clk.cycle
  let s1 := match s.pend.commit with
    | some k => if k.e ≤ m then (s.applyCommit k).remap else s
    | none => s
  let s2 := match s1.pend.swap with
    | some w => if w.e ≤ m then s1.applySwap w.axes w.e else s1
    | none => s1
  let s3 := match s2.pend.move with
    | some v => if v.e ≤ m then s2.applyMove v else s2
    | none => s2
  match s3.pend.shift with
  | some h =>
    if m < h.e then s3
    else if (s3.ch0.ring.close.isSome || s3.ch1.ring.close.isSome) then
      { s3 with pend := { s3.pend with shift := some { h with e := h.e + 1000000 / s3.tc } } }
    else s3.applyShift h
  | none => s3

/-- The pending mode change of a boundary (R420). -/
def State.modeBoundary (s : State) : State :=
  match s.md.next with
  | some (m, c) => s.enter m c
  | none => s

/-- The planned swap at the active's boundary m: without its acknowledgement by B(e - 1) it fails (R307). -/
def State.swapBoundary (s : State) : State :=
  match s.link.swap with
  | some w =>
    match w.e with
    | some e => if !w.acked && decide (e ≤ s.clk.cycle + 1) then s.swapFails else s
    | none => s
  | none => s

/-! ## The start of a cycle -/

/-- The servo frames of the cycle: in RUN-ACTIVE, SAFE-HOLD and the rolling start; none when the time base has failed (R28, R29). -/
def State.launchFrames (s : State) : State :=
  let rolling := s.md.mode == .syncUp && s.startup.phase == .rolling
  if s.faults.oscBad || !(s.md.mode.heads || rolling) then
    (if s.swapNow && s.md.mode == .runStandby then s else [0, 1].foldl State.noLaunch s)
  else
    let s1 := s.chains.foldl (fun t c => t.launchServo c rolling) s
    if s.swapNow then [0, 1].foldl (fun t c => t.updCh c (fun x => { x with out := false })) s1 else s1

/-- The cycle begins: ring and start-up, which may enter RUN-ACTIVE, then axes, jobs, frames, copy. -/
def State.beginCycle (s : State) : State :=
  let m := s.clk.cycle
  let s1 := s.axisList.foldl State.stoReload s
  let s2 := if s1.swapNow && s1.md.mode == .runStandby then s1.beginSwapCycle else s1
  let s3 := (if s2.isHead then s2.chains.foldl (fun t c => (t.ringBoundary c).stagingBoundary c) s2 else s2).startupBoundary
  let s4 := if s3.computes then (s3.axisList.foldl State.sourceChange s3).startAxes else s3
  let s6 := (s4.chirpBoundary m).launchFrames
  if s6.md.mode.heads && !s6.swapNow then s6.beginCopy else s6

/-- The events and changes sent in the cycle before are no longer on their way (R305, R310, R312); those of a refresh are until it
is done. -/
def State.eventsSent (s : State) : State :=
  { s with link := { s.link with mirrored := [], changes := if s.link.refresh then s.link.changes else [] }, clu := { s.clu with sentEvents := [] } }

/-- The boundary that begins cycle m: `ev` the events raised since the last trace sample. -/
def State.crossBoundary (s : State) (ringPeriod : Nat) : State :=
  let first := !s.clk.begun
  let m := if first then s.clk.originCycle else s.clk.cycle + 1
  let b := s.clk.b m
  let s0 := (s.to b).eventsSent
  let ev := s0.trace.events
  let s1 : State := if s0.trace.sampling m then { s0 with trace := { s0.trace with events := 0 } } else s0
  let s2 := if first then s1 else s1.endCycle ringPeriod
  let s3 : State := { s2 with clk := { s2.clk with cycle := m, begun := true }, faults := s2.faults.ends m }
  let s4 := s3.traceBoundary m b ev
  if s4.lapses m then s4.lapse.serve
  else
    let s5 := s4.modeBoundary
    if !s5.md.mode.cycles then s5.serve
    else
      let s6 := if s5.link.swapE == some (m - 1) && !first then s5.endSwapCycle (m - 1) else s5
      let s7 := if s6.isHead then s6 else s6.measureTime.copyBoundary
      let s8 := (s7.takeEffect.takeoverBoundary).swapBoundary
      (s8.settingsBoundary.envBoundary.fillBudgets.beginCycle.releaseHeld).serve

end Sys2Proof.Machine
end

