-- ==== Sys2Proof/Machine/EvClaim.lean ====
section
/-!
DEFINITION. The claim, the time step and the rate (R104, R105, R113 to R116, R120, R288, Table 3.19).
-/
namespace Sys2Proof.Machine

/-- Rank of a claimant (Table 3.19). -/
def rankOf (side : Bool) (hash : Nat) : Nat := at_ 32 (b2n side) + hash

/-- The device's own rank. -/
def State.rank (s : State) : Nat := rankOf s.straps.side Config.serialHash.toNat

/-- The device makes or hears claims: SYNC-UP, listening or claiming. -/
def State.claiming (s : State) : Bool := s.md.mode == .syncUp && (s.startup.phase == .listen || s.startup.phase == .claim)

/-- Payload of a claim (Table 3.19). -/
def State.claimBytes (s : State) : List Byte :=
  [BitVec.ofNat 8 (b2n s.straps.side)] ++ beBytes 4 Config.serialHash.toNat ++ [BitVec.ofNat 8 s.startup.round, BitVec.ofNat 8 s.startup.roll, 0]

/-- A claim frame leaves on both ports of every enabled chain (R113); its stamp is kept (R115). -/
def State.launchClaim (s : State) : State :=
  let f : TxFrame := { kind := 3, launchA := s.now, launchB := s.now, count := 8, payload := s.claimBytes }
  let s1 := s.chains.foldl (fun t c => t.launch c f) s
  { s1 with startup := { s1.startup with stamps := s1.now :: s1.startup.stamps, launched := s1.startup.launched + 1 } }

/-- The device stops claiming and forwards (R114); with a valid pair it follows its twin from then on (R289). -/
def State.forwardOnly (s : State) : State :=
  let t : State := { s with startup := { s.startup with phase := .forward, since := s.now }, clk := { s.clk with waitPps := false } }
  if t.twin.valid && t.twin.enable then t.followPair else t

/-! ## The step (R104, R288) -/

/-- The first whole millisecond at least 1 ms after a time. -/
def originAfter (t : Nat) : Nat := (t + 1999999) / 1000000 * 1000000

/-- The time base takes a value, or runs on, the origin is fixed and the start-up begins (R104, R117). -/
def State.stepTime (s0 : State) (v : Option Nat) : State :=
  let t := v.getD s0.now
  let s := s0.setTime t
  ({ s with clk := { s.clk with tb := t, frac := if v.isSome then 0 else s0.clk.frac, staged := none, waitPps := false, stepped := true
                                origin := originAfter t, originCycle := 0, fixed := true, begun := false, cycle := 0 } } : State).beginCensus

/-- The lead's step, with the order to its members, as words: 0, 1 and the value where there is one. -/
def State.stepCluster (s : State) : State :=
  let v := s.clk.staged
  let s1 : State := if s.others = 0 then s else
    { s with clu := { s.clu with lastOrder := [0, 1] ++ (match v with
      | some t => words64 t
      | none => []) } }
  s1.stepTime v

/-- Every device of the cluster has won: the step, at once or at the next PPS edge (R104). -/
def State.orderStep (s : State) : State :=
  if s.clk.ppsStep && s.clk.staged.isSome then
    { s with startup := { s.startup with phase := .won }, clk := { s.clk with waitPps := true } }
  else s.stepCluster

/-- The lead's decision on the claim results of its cluster (R288): every member has won, some have lost, or both. Once
one has lost, every member is ordered to forward. -/
def State.decideClaim (s : State) (m : Nat) (won : Bool) : State :=
  let all := fld s.clu.cfg 3 0
  let w := putBit s.clu.won m (won || s.clu.won.testBit m)
  let l := putBit s.clu.lostClaim m (!won || s.clu.lostClaim.testBit m)
  let s1 : State := { s with clu := { s.clu with won := w, lostClaim := l } }
  if l = 0 then (if w &&& all = all then s1.orderStep else s1)
  else
    let s2 := s1.forwardOnly
    let s3 : State := { s2 with clu := { s2.clu with lastOrder := [0, 0] } }
    if w ≠ 0 && (s.clu.won = 0 || s.clu.lostClaim = 0) then s3.raise 107 (w % 16) 0 else s3

/-- A member reports its claim result to its lead (R288). -/
def State.reportClaim (s : State) (won : Bool) : State := { s with clu := { s.clu with reported := some won } }

/-- The device has won the claim on its own chains (R114, R288). -/
def State.claimWon (s : State) : State :=
  let s1 : State := { s with startup := { s.startup with phase := .won } }
  if s1.straps.lead then s1.decideClaim s1.straps.cid true else s1.reportClaim true

/-- The device has lost or yielded, or has heard a beacon. -/
def State.claimLost (s : State) : State :=
  let s1 := s.forwardOnly
  if !s1.straps.lead then s1.reportClaim false
  else if s1.others ≠ 0 then s1.decideClaim s1.straps.cid false
  else s1

/-! ## Events -/

/-- LISTEN_END (R113): 3 ms after entry into SYNC-UP the first claim leaves. -/
def execListenEnd (s : State) : Result' :=
  .next (if s.md.mode = .syncUp ∧ s.startup.phase = .listen then
    let s1 := s.to (3000000 + s.startup.since)
    ({ s1 with startup := { s1.startup with phase := .claim, since := s.startup.since + 3000000 } } : State).launchClaim
  else s)

/-- CLAIM_PERIOD (R113, R114, R116): the end of a claim period of 1 ms. Periods of silence after a roll count toward no win. -/
def execClaimPeriod (s : State) : Result' :=
  .next (if s.md.mode = .syncUp ∧ s.startup.phase = .claim then
    let q := s.startup
    let s1 := s.to (1000000 + q.since)
    let q1 : Startup := { q with since := q.since + 1000000, heard := false }
    if q.silent > 1 then { s1 with startup := { q1 with silent := q.silent - 1, quiet := 0 } }
    else if q.silent = 1 then ({ s1 with startup := { q1 with silent := 0, quiet := 0, round := q.round + 1, launched := 0 } } : State).launchClaim
    else
      let quiet := if q.heard then 0 else q.quiet + 1
      let s2 : State := { s1 with startup := { q1 with quiet := quiet } }
      if 3 ≤ quiet then s2.claimWon else s2.launchClaim
  else s)

/-- An equal-rank claim that is not the device's own (R115, R116): a clash for a claimant; during the listen nothing is claimed. -/
def State.clash (s : State) (round : Nat) : State :=
  let q := s.startup
  if q.phase ≠ .claim then s
  else if decide (q.silent ≠ 0) then (if q.round < round then s.claimLost else s)
  else if q.since = s.now ∧ q.round ≠ 0 ∧ q.launched = 1 ∧ q.round ≤ round then s.claimLost
  else if 3 ≤ q.round then s.claimLost.raise 98 0 0
  else
    let roll := Config.fresh s.free % 6 + 1
    { s with free := s.free + 1, startup := { q with roll := roll, silent := roll + 1, quiet := 0, heard := true } }

/-- A claim from another device puts it among the pass-through members, in the order of the claims (R120). -/
def Chain.noteMember (x : Chain) (src : BitVec 24) : Chain :=
  if x.members.contains src then x else { x with members := x.members ++ [src] }

/-- CLAIM_FRAME_RECEIVED (R114). -/
def execClaimFrameReceived (c : Fin 2) (f : ClaimFrame) (t : Nat) (s : State) : Result' :=
  let s1 := s.by t
  let r := rankOf f.side f.hash.toNat
  .next (if !(s1.ch c).enabled then s1
  else if s1.claiming then
    if r = s1.rank && s1.startup.stamps.contains f.launch then s1
    else
      let s2 := s1.updCh c (fun x => x.noteMember f.src)
      if r < s2.rank then s2.claimLost
      else if r = s2.rank then s2.clash f.round.toNat
      else s2
  else if s1.isHead && r != s1.rank then s1.updCh c (fun x => x.noteMember f.src)
  else s1)

/-- PPS_EDGE (R104). -/
def execPpsEdge (t : Nat) (s : State) : Result' :=
  let s1 := s.by t
  .next (if !s1.md.mode.timed then s1
  else
    let s2 : State := { s1 with clk := { s1.clk with ppsLast := some s1.now } }
    if s2.clk.waitPps && s2.md.mode == .syncUp then s2.stepCluster else s2)

/-- RATE_STEP (R105). -/
def execRateStep (s : State) : Result' := .next (if s.md.mode.timed then { s with clk := s.clk.rateMove } else s)

/-- CLAIM_REPORT (R288). -/
def execClaimReport (m : Fin 4) (won : Bool) (s : State) : Result' :=
  .next (if s.straps.lead && s.md.mode == .syncUp && s.others.testBit m &&
      (s.claiming || s.startup.phase == .won || s.startup.phase == .forward) then s.decideClaim m won else s)

/-- CLAIM_ORDER (R288): a member that holds its win steps with the lead, or every member stops claiming and forwards. -/
def execClaimOrder (step : Bool) (value : Option Nat) (s : State) : Result' :=
  .next (if s.straps.lead || s.md.mode != .syncUp then s
  else if step then (if s.startup.phase = .won then s.stepTime value else s)
  else if s.claiming || s.startup.phase == .won then s.forwardOnly
  else s)

end Sys2Proof.Machine
end

