-- ==== Sys2Proof/Machine/RefreshOps.lean ====
section
/-!
DEFINITION. A configuration refresh: every forwarded word and the active tables, spelled as the commands that write them (R305).
-/
namespace Sys2Proof.Machine

/-- A word of a refresh. -/
def fwd (op : Nat) (p : List Word) : Forwarded := { opcode := BitVec.ofNat 16 op, payload := p }

/-- The selector of an entry (Table 15.1). -/
def selOf (item : Nat) (chain sub count : Nat := 0) : Word := wd (item + at_ 8 chain + at_ 9 sub + at_ 16 count)

/-- Ranged writes of `size` entries of `width` words, at most `step` each. -/
def ranged (op chain sub width size step : Nat) (t : Tbl Word) : List Forwarded :=
  (List.range ((size + step - 1) / step)).map (fun k =>
    let n := min step (size - k * step)
    fwd op (selOf (k * step) chain sub n :: Tbl.getRange 0 t (width * (k * step)) (width * n)))

/-- The shadow coefficient set of axis i becomes `c`. -/
def CoefSet.writes (c : CoefSet) (i : Nat) : List Forwarded :=
  let part (k n : Nat) : Forwarded := fwd 0x0904 (selOf i 0 0 n :: wd (k + at_ 8 c.gear) ::
    (List.range n).flatMap (fun j => [Tbl.get 0 c.m (k + j), Tbl.get 0 c.s (k + j)]))
  [part 0 30, part 30 2, fwd 0x0905 (selOf i :: wd c.gear :: Tbl.getRange 0 c.p 0 8)] ++ (if c.ready then [fwd 0x0906 [selOf i]] else [])

/-- The swap of axis i alone. -/
def swapOf (i : Nat) : Forwarded := fwd 0x0907 ((List.range 8).map (fun k => if k = i / 32 then wd (2 ^ (i % 32)) else 0) ++ [0, 0])

/-- LOOP and AXIS words of axis i, and its coefficient sets. -/
def Axis.writes (x : Axis) (i : Nat) : List Forwarded :=
  [fwd 0x0901 [selOf i, x.srcNext.getD x.cfg0, x.cfg1, x.cfg2], fwd 0x0903 [selOf i, x.cur], fwd 0x0704 [selOf i, x.prf0, x.prf1, x.prf2],
   fwd 0x0706 [selOf i, wd (x.missN + at_ 16 x.missW)], fwd 0x0708 [selOf i, wd (x.aux + bitAt 8 x.brake)]] ++
  x.act.writes i ++ [swapOf i] ++ x.sh.writes i

/-- CHAIN words of chain c. -/
def Chain.writes (x : Chain) (c : Nat) : List Forwarded :=
  let sel := selOf 0 c
  [fwd 0x0401 [sel, x.cfg, x.portL, x.portR], fwd 0x0403 [sel, wd x.emptyTh], fwd 0x0404 [sel, x.guard0, x.guard1], fwd 0x0405 [sel, x.missAt]]

/-- The shadow tables of chain c become `t`. -/
def Tables.writes (t : Tables) (c : Nat) : List Forwarded :=
  ranged 0x0501 c 0 2 8 8 t.win ++ ranged 0x0502 c 0 1 128 61 t.map ++ ranged 0x0503 c 0 4 64 15 t.node

/-- The active tables, by a commit of the shadow copies, and the shadow copies themselves. -/
def State.tableWrites (s : State) : List Forwarded :=
  let set (t : Tbl Word) (w5 : Word) : Forwarded := fwd 0x0504 (Tbl.getRange 0 t 0 8 ++ [w5])
  s.ch0.active.writes 0 ++ s.ch1.active.writes 1 ++ [set s.budget.active s.budget.activeW5, fwd 0x0507 [7, 0, 0]] ++
  s.ch0.shadow.writes 0 ++ s.ch1.shadow.writes 1 ++ [set s.budget.shadow s.budget.shadowW5]

/-- PULSE and FEEDBACK words of port n. -/
def State.portWrites (s : State) (n : Nat) : List Forwarded :=
  let f := s.fbp n
  [fwd 0x0A01 [selOf n, (s.pin n).cfg], fwd 0x0A02 [selOf n, (s.stp n).cfg], fwd 0x0B01 [selOf n, f.w0, f.w1, f.w2, f.w3, f.w4]]

/-- ADC words of converter x. -/
def Conv.writes (c : Conv) (x : Nat) : List Forwarded :=
  ranged 0x0C02 0 x 1 16 16 c.seq ++ [fwd 0x0C01 [selOf 0 0 x, c.w0, c.w1, c.w2, c.w3, c.w4]]

/-- SAFE words. -/
def Safe.writes (f : Safe) : List Forwarded :=
  fwd 0x0E01 [f.w0, f.w1] :: (ranged 0x0E02 0 0 1 8 8 f.zone ++ ranged 0x0E03 0 0 3 64 20 f.axis ++ ranged 0x0E04 0 0 1 8 8 f.si)

/-- CAN words of port n. -/
def CanPort.writes (q : CanPort) (n : Nat) : List Forwarded :=
  fwd 0x1101 [selOf 0 0 n, q.cfg.w0, q.cfg.w1, q.cfg.w2, q.cfg.w3, q.cfg.w4] :: (ranged 0x1102 0 n 2 128 30 q.filt ++ ranged 0x1103 0 n 2 64 30 q.win)

/-- The settings of a fault class that EVENT.CLASS_WRITE takes. -/
def State.classWrite (s : State) (c : Nat) : Forwarded :=
  let g := s.faults.written c
  fwd 0x1401 [wd c, wd (g.n + at_ 8 g.r), wd g.w]

/-- Every forwarded word and the active tables, in an order in which a later write undoes no earlier one (R305). -/
def State.refreshed (s : State) : List Forwarded :=
  (((List.range 36).filter (fun c => !(classAllows c).isEmpty)).map s.classWrite) ++
  s.ch0.writes 0 ++ s.ch1.writes 1 ++ s.tableWrites ++ (List.range 256).flatMap (fun i => (s.ax i).writes i) ++
  (List.range 16).flatMap s.portWrites ++ (s.conv 0).writes 0 ++ (s.conv 1).writes 1 ++ s.safe.writes ++
  (List.range 8).map (fun k => fwd 0x0604 [selOf k, (Tbl.get {} s.pins.cp k).cfg]) ++
  (List.range 4).map (fun k => fwd 0x0605 [selOf k, wd (Tbl.get {} s.pins.cap k).edge]) ++
  s.can.p0.writes 0 ++ s.can.p1.writes 1 ++ [fwd 0x1104 [s.can.s0, s.can.s1, s.can.s2]]

end Sys2Proof.Machine
end

