-- ==== Sys2Proof/Machine/EvTwin.lean ====
section
/-!
DEFINITION. Events of a twin: token, silence, takeover, sync link, state copy, forwarded changes and planned swap (R287, R291,
R293 to R298, R301 to R310, R316).
-/
namespace Sys2Proof.Machine

/-! ## The token (R293 to R295) -/

/-- H6 of the cycle before (Table 12.4): a lead has the reports of every other member, a member has the lead's grant. -/
def State.clusterHealthy (s : State) : Bool :=
  if s.straps.lead then
    ((setBits 4 (fld s.clu.cfg 3 0)).filter (fun m => m != s.straps.cid)).all
      (fun m => Tbl.get 0 s.clu.healthAt m == s.clk.cycle && Tbl.get 0 s.clu.health m == 0)
  else s.clu.grant == s.clk.cycle

/-- H1 to H6 that fail for the cycle before the one in hand, as bits 0 to 5. -/
def State.unhealthy (s : State) : Nat := s.twin.healthNow + bitAt 5 (!s.clusterHealthy)

/-- LEASE_RENEWAL (R294): the renewal instant of the cycle before, 3,000 ns after the boundary of the cycle in hand; one renewal a
cycle. -/
def execLeaseRenewal (s : State) : Result' :=
  .next (if !s.md.mode.heads || !s.clk.begun || s.twin.renewed = s.clk.cycle + 1 then s
  else
    let s1 := s.to (3000 + s.bNow)
    let bad := s1.unhealthy
    let t := s1.twin
    if bad = 0 then
      { s1 with twin := { t with leaseSeq := (t.leaseSeq + 1) % 2 ^ 32, renewed := s1.clk.cycle + 1, token := true, count := 0, failed := 0 } }
    else { s1 with twin := { t with failed := bad, count := cadd t.count 1 } })

/-- LEASE_LAPSE (R295): the token lapses at the next boundary when that is its B(k + L). -/
def execLeaseLapse (s : State) : Result' :=
  .next (if s.clk.begun && s.lapses (s.clk.cycle + 1) then
    let s1 := s.to s.bNext
    ({ s1 with clk := { s1.clk with cycle := s1.clk.cycle + 1 } } : State).lapse
  else s)

/-! ## Silence and takeover (R296, R297) -/

/-- D(n) of the cycle in hand. -/
def State.dNow (s : State) : Nat := s.bNow + (s.tc + 1) / 2

/-- A renewal may still be counted for the cycle in hand. -/
def State.hears (s : State) : Bool := s.clk.begun && s.twin.checked != s.clk.cycle + 1 && s.due s.dNow

/-- The renewal with a sequence has arrived on one of the paths. -/
def State.hear (s : State) (seq : Nat) (counts : Bool) : State :=
  { s with twin := { s.twin with leaseSeq := seq, heard := s.twin.heard || (counts && s.hears) } }

/-- HEARTBEAT_RECEIVED (R296). -/
def execHeartbeatReceived (seq : Word) (t : Nat) (s : State) : Result' :=
  let s1 := s.by t
  .next (if s1.md.mode = .runStandby then s1.hear seq.toNat (decide (seq.toNat = (s1.twin.leaseSeq + 1) % 2 ^ 32)) else s1)

/-- BEACON_RECEIVED (R113, R296): it ends the claim of a device that listens; on a standby it is a heartbeat path. -/
def execBeaconReceived (c : Fin 2) (f : BeaconFrame) (t : Nat) (s : State) : Result' :=
  let s1 := s.by t
  let newer := decide (0 < sgn 32 (f.leaseSeq.toNat + 2 ^ 32 - s1.twin.leaseSeq))
  .next (if !(s1.ch c).enabled then s1
  else if f.fcs != .good then s1.updCh c (fun x => x.badFcs f.fcs)
  else if s1.md.mode = .syncUp ∧ s1.startup.phase = .listen then s1.claimLost
  else if s1.md.mode = .runStandby && f.twin && f.lease && newer then s1.hear f.leaseSeq.toNat true
  else s1)

/-- A standby that is ready and has counted L + 2 silent cycles reports its lead lost (R297). -/
def State.reportsSilence (s : State) : Bool :=
  s.md.mode == .runStandby && s.twin.enable && s.twin.ready && s.standbyReady && decide (s.twin.l + 2 ≤ s.twin.count)

/-- SILENCE_CHECK (R296, R297, R304): at D(n) the cycle is counted silent, or the copy is judged at its renewal. A device that is
its whole cluster decides the takeover by its own report. -/
def execSilenceCheck (s : State) : Result' :=
  .next (if s.md.mode ≠ .runStandby || !s.clk.begun || s.twin.checked = s.clk.cycle + 1 then s
  else
    let s1 := s.to s.dNow
    let t : Twin := { s1.twin with checked := s1.clk.cycle + 1, heard := false }
    if s1.twin.heard then ({ s1 with twin := { t with count := 0 } } : State).judgeCopy
    else
      let s2 : State := { s1 with twin := { t with count := cadd t.count 1 } }
      if s2.reportsSilence && s2.straps.lead && s2.others = 0 then { s2 with twin := { s2.twin with takeover := true } } else s2)

/-- TAKEOVER (R297, R298): every member of the standby cluster has reported by D(n) + 2 µs; the device takes over at B(n + 1). -/
def execTakeover (s : State) : Result' :=
  .next (if s.reportsSilence then
    let s1 := s.to (2000 + s.bNow + (s.tc + 1) / 2)
    { s1 with twin := { s1.twin with takeover := true } }
  else s)

/-! ## The sync link (R287, R289, R291, R305, R315) -/

/-- What the device tells its twin of itself; stepping, firmware and protocol are those of R10. -/
def State.pairId (s : State) : PairId :=
  { side := s.straps.side, member := ⟨s.straps.cid % 4, by omega⟩, cfgId := s.twinCfgId, time := s.now
    src := Config.serialHash.setWidth 24 }

/-- Where two identities fail to make a pair, as `ARG16` of event 103 (R287). -/
def pairDiffers (a b : PairId) : Nat :=
  bitAt 0 (a.side == b.side) + bitAt 1 (a.member != b.member) + bitAt 2 (a.stepping != b.stepping) +
    bitAt 3 (a.fwMajor != b.fwMajor || a.fwMinor != b.fwMinor) + bitAt 4 (a.protocol != b.protocol) + bitAt 5 (a.cfgId != b.cfgId)

/-- Event 102 when the lanes locked change. -/
def State.setLanes (s : State) (n : Nat) : State :=
  if s.twin.lanes = n then s else ({ s with twin := { s.twin with lanes := n } } : State).raise 102 n 0

/-- The readiness of the twin as the active knows it: event 99 when it changes (R289). -/
def State.twinIsReady (s : State) (r : Bool) : State :=
  if s.twin.ready = r then s else ({ s with twin := { s.twin with ready := r } } : State).raise 99 (b2n r) 0

/-- The pair no longer carries copies and changes. -/
def State.pairDown (s : State) : State :=
  let s1 : State := { s with twin := { s.twin with valid := false, timeLock := false, rx := none } }
  if s1.md.mode.heads then s1.twinIsReady false else s1.readiness

/-- A head learns over the sync link of a twin that never claimed: it is a pass-through member of every enabled chain (R289). -/
def State.notePeer (s : State) (src : BitVec 24) : State :=
  if s.isHead then s.chains.foldl (fun t c => t.updCh c (fun x => x.noteMember src)) s else s

/-- SYNC_LINK_LOCK (R287); after a lapse the link stays dark (R295). -/
def execSyncLinkLock (peer : PairId) (s : State) : Result' :=
  if s.md.lapsed then .next s
  else
  let s1 := s.setLanes 3
  let d := pairDiffers s1.pairId peer
  let s2 : State := { s1 with twin := { s1.twin with peer := some peer, peerOff := (peer.time : Int) - s1.now } }
  .next (if d ≠ 0 then (s2.pairDown).raise 103 d 0
  else (({ s2 with twin := { s2.twin with valid := true } } : State).notePeer peer.src).followPair)

/-- SYNC_LINK_CHANGE (R315). -/
def execSyncLinkChange (lanes : BitVec 2) (s : State) : Result' :=
  let s1 := s.setLanes (if s.md.lapsed then 0 else lanes.toNat)
  .next (if lanes = 3 then s1 else s1.pairDown)

/-! ## The state copy (R25, R291, R301 to R303) -/

/-- The device receives the twin's copies and changes. -/
def State.receives (s : State) : Bool := s.twin.valid && (s.md.mode == .runStandby || s.awaits)

/-- B(0) and the cycle counter from the first control block (R291). -/
def State.firstBlock (s : State) (cb : ControlBlock) : State :=
  if s.clk.fixed then s
  else
    let k : Clk := { s.clk with origin := cb.origin, originCycle := cb.originCycle, gear := cb.gear.toNat, fixed := true }
    { s with clk := { k with begun := decide (cb.origin ≤ s.now), cycle := cb.originCycle + (s.now - cb.origin) / k.tc } }

/-- The shift a complete copy names is applied with the active (R303). -/
def State.shiftRecord (s : State) (cb : ControlBlock) : State :=
  let g := cb.shiftGear.toNat
  if g ≠ 0 && s.pend.shift.isNone && decide (s.clk.cycle < cb.shiftE) then
    { s with pend := { s.pend with shift := some { gear := g, e := cb.shiftE } } }
  else s

/-- A complete copy shows a gear or a shift that the standby has not followed, or a gap in the configuration (R303, R305). -/
def State.behind (s : State) (cb : ControlBlock) : Bool :=
  cb.gear.toNat != s.clk.gear || (cb.shiftGear != 0 && decide (cb.shiftE ≤ s.clk.cycle) && cb.shiftGear.toNat != s.clk.gear) ||
    cb.cfgGen.toNat != s.link.cfgGen

/-- COPY_CONTROL_BLOCK (R302): the copy of the cycle in hand closes, or is incomplete; a late copy is discarded in full (R25). -/
def execCopyControlBlock (cb : ControlBlock) (recs : List AxisRec) (precs : List ProfileRec) (t : Nat) (s : State) : Result' :=
  let s1 := s.by t
  .next (if !s1.receives then s1
  else if !cb.crcOk then s1.copyIncomplete
  else
    let s2 := s1.firstBlock cb
    if cb.cycle ≠ s2.clk.cycle then s2
    else
      let s3 : State := { s2 with twin := { s2.twin with rx := some { cb := cb, recs := recs, precs := precs } } }
      let s4 := s3.shiftRecord cb
      if s4.behind cb then s4.notCurrent else s4)

/-- COPY_ACKNOWLEDGE (R301): what later copies must carry; a copy acknowledged while no refresh runs shows the twin ready. -/
def execCopyAcknowledge (seq : Word) (s : State) : Result' :=
  .next (if s.copies && s.twin.valid then
    let s1 := s.ackCopy seq.toNat
    if s1.link.refresh then s1 else s1.twinIsReady true
  else s)

/-! ## Forwarded changes (R305) -/

/-- A change that takes effect at B(e) on the standby as on the active. -/
def State.pendChange (s : State) (x : Forwarded) : State :=
  let p := x.payload
  match x.opcode.toNat with
  | 0x0507 => { s with pend := { s.pend with commit := some { ch0 := bit (pw p 0) 0, ch1 := bit (pw p 0) 1, budget := bit (pw p 0) 2, e := x.effect } } }
  | 0x0907 => { s with pend := { s.pend with swap := some { axes := ofBits (maskAxes (p.take 8)), e := x.effect } } }
  | 0x0303 =>
    let g := fld (pw p 0) 2 0
    { s with pend := { s.pend with shift := some { gear := g, e := x.effect, budget := (p.drop 3).take 8, win0 := (p.drop 11).take 16
                                                   win1 := (p.drop 27).take 16, still := !movingShift s.clk.gear g } } }
  | 0x1003 => { s with pend := { s.pend with move := some { src := fld (pw p 0) 9 0, dst := fld (pw p 0) 25 16, e := x.effect } } }
  | _ => s

/-- A change that takes effect at once: SAFE-HOLD of the active, a commit or swap without a boundary, or a word as its command
writes it. -/
def State.changeNow (s : State) (x : Forwarded) : State :=
  let p := x.payload
  match x.opcode.toNat with
  | 0x0202 => { s with twin := { s.twin with hold := decide (fld (pw p 0) 2 0 = 7) } }
  | 0x0507 => s.applyCommit { ch0 := bit (pw p 0) 0, ch1 := bit (pw p 0) 1, budget := bit (pw p 0) 2 }
  | 0x0907 => s.applySwap (ofBits (maskAxes (p.take 8))) 0
  | 0x1003 => s.applyMove { src := fld (pw p 0) 9 0, dst := fld (pw p 0) 25 16, e := 0 }
  | op =>
    match cmdOf op with
    | some c =>
      match c.run {} p s with
      | .done _ _ u => u
      | .wait u => u
    | none => s

/-- FORWARDED_CHANGE (R305): one generation above the last, or a word of a refresh; after its boundary, or with a gap, the standby
is not configuration-current. -/
def execForwardedChange (gen : Word) (x : Forwarded) (t : Nat) (s : State) : Result' :=
  let s1 := s.by t
  .next (if !s1.receives then s1
  else if !s1.link.refresh && gen.toNat ≠ (s1.link.cfgGen + 1) % 2 ^ 32 then s1.notCurrent
  else
    let s2 : State := { s1 with link := { s1.link with cfgGen := gen.toNat } }
    if x.effect = 0 then s2.changeNow x
    else if s2.clk.begun && decide (x.effect ≤ s2.clk.cycle) then s2.notCurrent
    else s2.pendChange x)

/-- CONFIG_REFRESH_DONE (R305): the standby is configuration-current at the generation of the refresh; the active has sent it. -/
def execConfigRefreshDone (gen : Word) (s : State) : Result' :=
  .next (if s.md.mode.heads then { s with link := { s.link with refresh := false, changes := [] } }
  else if s.receives then
    ({ s with twin := { s.twin with cfgCurrent := true }, link := { s.link with cfgGen := gen.toNat, refresh := false } } : State).readiness
  else s)

/-- REFRESH_REQUEST (R305): the active puts out every forwarded word and the active tables; its twin is not ready meanwhile. -/
def execRefreshRequest (s : State) : Result' :=
  .next (if s.md.mode.heads && s.twin.valid then
    ({ s with link := { s.link with refresh := true, changes := s.refreshed } } : State).twinIsReady false
  else s)

/-! ## Planned swap (R307, R309) -/

/-- SWAP_NOTICE (R307): the standby notes e and acknowledges it. -/
def execSwapNotice (e : Nat) (s : State) : Result' :=
  .next (if s.md.mode = .runStandby && s.standbyReady && decide (s.clk.cycle < e) then
    { s with link := { s.link with swapE := some e, ackSent := some e } }
  else s)

/-- SWAP_ACK (R307). -/
def execSwapAck (e : Nat) (s : State) : Result' :=
  .next (match s.link.swap with
  | some w => if w.e = some e && s.md.mode == .runActive then
      { s with link := { s.link with swap := some { w with acked := true }, swapE := some e } } else s
  | none => s)

/-- SWAP_DUE (R309): the next whole interval since the last swap or takeover has passed with a ready standby. -/
def execSwapDue (s : State) : Result' :=
  let h := fld s.twin.cfg 23 16
  let due := s.link.hoursFrom + (s.link.reminders + 1) * h * 3600000000000
  .next (if h = 0 || !s.md.mode.heads || !s.twinReady then s
  else
    let s1 := s.to due
    ({ s1 with link := { s1.link with reminders := s1.link.reminders + 1 } } : State).raise 105 0
      (min ((s1.now - s1.link.hoursFrom) / 3600000000000) 0xFFFFFFFF))

/-- MIRRORED_EVENT (R310): an event of the active cluster enters the standby lead's queue, marked as mirrored. -/
def execMirroredEvent (m : Fin 4) (n : Fin 128) (a16 : BitVec 16) (a32 : Word) (time : Nat) (s : State) : Result' :=
  .next (if s.straps.lead && s.md.bootDone && s.md.mode == .runStandby then
    s.post n.val (eventWords n.val true m.val a16.toNat a32.toNat time) else s)

end Sys2Proof.Machine
end

