-- ==== Sys2Proof/Machine/EvCluster.lean ====
section
/-!
DEFINITION. Events of a cluster: health, grants, members that join or are lost, the bridge, commands and events that pass over it
(R52, R294, R311 to R314, R371).
-/
namespace Sys2Proof.Machine

/-! ## Health and grants (R294) -/

/-- The lead's grant for the cycle before, once H1 to H6 hold on it. -/
def State.grantDue (s : State) : State :=
  if s.md.mode.heads && s.clk.begun && s.unhealthy = 0 then { s with clu := { s.clu with grant := s.clk.cycle } } else s

/-- MEMBER_HEALTH (R294): a member's H1 to H5, kept with their cycle. -/
def execMemberHealth (m : Fin 4) (ok : BitVec 5) (cycle t : Nat) (s : State) : Result' :=
  let s1 := s.by t
  .next (if s1.straps.lead && s1.others.testBit m then
    ({ s1 with clu := { s1.clu with healthAt := Tbl.put s1.clu.healthAt m (cycle + 1), health := Tbl.put s1.clu.health m (31 - ok.toNat) } } : State).grantDue
  else s1)

/-- A member follows its lead's time base, from which it is off by `off` ns (R291): by stepping before the lead's step, by rate
after it. -/
def State.followLead (s : State) (off : Int) : State :=
  if (s.md.mode == .configure || s.md.mode == .syncUp) && !s.clk.fixed then s.setTime ((s.now : Int) - off).toNat
  else { s with clk := s.clk.steer off }

/-- LEASE_GRANT (R294), with the member's offset from the lead as the bridge transfer measures it (R291). -/
def execLeaseGrant (g : Grant) (t : Nat) (s : State) : Result' :=
  let s1 := s.by t
  .next (if s1.straps.lead then s1 else ({ s1 with clu := { s1.clu with grant := g.cycle + 1 } } : State).followLead g.off)

/-! ## Commands over the bridge (R52, R312, R371) -/

/-- The bridge falls free when nothing is out any more. -/
def State.bridgeDone (s : State) : State :=
  if s.needsBridge 0 then s
  else
    let x := s.arb.get 3
    let y : ArbRes := { x with holder := if x.holder = some 0 then none else x.holder, raised := x.raised.filter (fun q => q.who != 0) }
    ({ s with arb := s.arb.put 3 y } : State).agentRaise 0

/-- The lead takes back a shift, an axis move or a swap that its members have accepted: none of them carries it out (R52, R307). -/
def State.takeBack (s : State) (op : Nat) : State :=
  if op = 0x0303 || op = 0x1003 || op = 0x0F03 then { s with clu := { s.clu with lastOrder := [wd op] } } else s

/-- A lead command whose members have all answered: the first refusal in ascending order, or the change (R52, R371). -/
def State.gathered (s : State) (g : Gather) : State :=
  let s1 : State := { s with clu := { s.clu with gather := none } }
  let s2 := match g.refusal, g.request with
    | some (m, st), op :: _ => (s1.takeBack op.toNat).respondAs m g.ref st []
    | some (m, st), [] => s1.respondAs m g.ref st []
    | none, op :: p =>
      match cmdOf op.toNat with
      | some c =>
        let a := c.carry g.ref p s1
        if a.accepts then a.finish g.ref else (a.finish g.ref).takeBack op.toNat
      | none => s1.respond g.ref stBadOpcode []
    | none, [] => s1.respond g.ref stOk []
  s2.bridgeDone

/-- Member m answers the lead command that is being gathered. -/
def State.gatherStatus (s : State) (g : Gather) (m st : Nat) : State :=
  let bad := !(st == stOk || st == stCommitLate)
  let better : Bool := match g.refusal with
    | some (k, _) => decide (m < k)
    | none => true
  let g1 : Gather := { g with waiting := putBit g.waiting m false, refusal := if bad && better then some (m, st) else g.refusal }
  if g1.waiting = 0 then s.gathered g1 else { s with clu := { s.clu with gather := some g1 } }

/-- The first entry of a list that a test admits, and the list without it. -/
def takeFirst {α : Type} (f : α → Bool) : List α → Option (α × List α)
  | [] => none
  | x :: l => if f x then some (x, l) else (takeFirst f l).map (fun r => (r.1, x :: r.2))

/-- BRIDGE_RESPONSE (R371): a member's response to a command forwarded to it, or its status for a lead command; a member whose part of
a planned swap has failed ends it (R307). -/
def execBridgeResponse (m : Fin 4) (tag : Byte) (opcode : BitVec 16) (status : Byte) (p : List Word) (s : State) : Result' :=
  .next (match takeFirst (fun o => o.member == m.val && o.ref.opcode == opcode.toNat && o.ref.tag == tag) s.clu.out with
  | some (o, l) => (({ s with clu := { s.clu with out := l } } : State).respondAs m o.ref status.toNat p).bridgeDone
  | none =>
    match s.clu.gather with
    | some g => if g.waiting.testBit m && g.ref.opcode == opcode.toNat && g.ref.tag == tag then s.gatherStatus g m status.toNat else s
    | none => if opcode.toNat == 0x0F03 && status != 0 then s.swapFails else s)

/-- What the lead's word without a payload takes back on a member: a shift, an axis move or a planned swap (R52, R307). -/
def State.takenBack (s : State) (op : Nat) : State :=
  match op with
  | 0x0303 => { s with pend := { s.pend with shift := none } }
  | 0x1003 => { s with pend := { s.pend with move := none } }
  | _ => s.swapFails

/-- The lead names the swap cycle of the cluster to a member (R307). -/
def State.swapNamed (s : State) (e : Nat) : State :=
  match s.link.swap with
  | some w => { s with link := { s.link with swap := some { w with e := some e } } }
  | none => s

/-- FORWARDED_COMMAND (R312): a member executes a command from its lead; its response goes back over the bridge. A shift, move or swap
without its payload takes back the one accepted, and a swap with a cycle names it. -/
def execForwardedCommand (h : Hdr) (opcode : BitVec 16) (p : List Word) (s : State) : Result' :=
  let op := opcode.toNat
  let held := (op == 0x0303 && s.pend.shift.isSome) || (op == 0x1003 && s.pend.move.isSome) || (op == 0x0F03 && s.link.swap.isSome)
  .next (if s.straps.lead then s
  else if held && h.len == 0 then s.takenBack op
  else if op == 0x0F03 && h.len == 2 then s.swapNamed (w64 (pw p 0) (pw p 1))
  else match cmdOf op with
    | some c => c.bridged h p s
    | none => s.respond { refOf op h with viaBridge := true } stBadOpcode [])

/-- MEMBER_EVENT (R312): a member's event enters the lead's queue with its member number; the active's lead mirrors it (R310). -/
def execMemberEvent (m : Fin 4) (n : Fin 128) (a16 : BitVec 16) (a32 : Word) (time : Nat) (s : State) : Result' :=
  .next (if s.straps.lead && s.md.bootDone then
    let w (mir : Bool) := eventWords n.val mir m.val a16.toNat a32.toNat time
    (if s.md.mode.heads && s.twin.valid then { s with link := { s.link with mirrored := s.link.mirrored ++ [w true] } } else s).post n.val (w false)
  else s)

/-! ## Members (R311, R313, R314) -/

/-- Commands out to a lost member end with TIMEOUT (R371). -/
def State.timeOut (s : State) (m : Nat) : State :=
  let l := s.clu.out.filter (fun o => o.member == m)
  let s1 : State := { s with clu := { s.clu with out := s.clu.out.filter (fun o => o.member != m) } }
  let s2 := l.foldl (fun t o => t.respondAs m o.ref stTimeout []) s1
  match s2.clu.gather with
  | some g => if g.waiting.testBit m then s2.gatherStatus g m stTimeout else s2.bridgeDone
  | none => if l.isEmpty then s2 else s2.bridgeDone

/-- MEMBER_LOST (R314, R421): on the lead, of a member that had joined; on a member, of its lead or another device. Without a twin
every remaining device enters SAFE-HOLD, which the lead orders. -/
def execMemberLost (m : Fin 4) (s : State) : Result' :=
  .next (if m.val = s.straps.cid || (s.straps.lead && !s.others.testBit m) || s.clu.lost.testBit m then s
  else
    let s1 : State := { s with clu := { s.clu with joined := putBit s.clu.joined m false, lost := putBit s.clu.lost m true } }
    let s2 := (s1.raise 109 m 0).timeOut m
    if s2.twin.enable || !(s2.md.mode.cycles) then s2
    else
      let s3 : State := if s2.straps.lead && s2.others ≠ 0 then { s2 with clu := { s2.clu with lastOrder := [0x0202, 7] } } else s2
      s3.demandHold)

/-- MEMBER_JOINED (R311, R313): both are in CONFIGURE; versions that differ, a duplicate number or a second lead stop the join.
The member's own time base takes the lead's value (R291). -/
def execMemberJoined (m : Fin 4) (id : PairId) (dup : Bool) (s : State) : Result' :=
  let own := s.pairId
  let same := id.stepping == own.stepping && id.fwMajor == own.fwMajor && id.fwMinor == own.fwMinor && id.protocol == own.protocol
  .next (if s.md.mode ≠ .configure then s
  else if !s.straps.lead then (if same && !dup then s.followLead ((s.now : Int) - id.time) else s)
  else if dup then s.raise 109 (0x100 + m.val) 0
  else if m.val = s.straps.cid || !bit s.clu.cfg m || s.clu.joined.testBit m || !same then s
  else
    let c := s.clu
    ({ s with clu := { c with joined := putBit c.joined m true, lost := putBit c.lost m false, offset := Tbl.put c.offset m 0 } } : State).raise 108 m 0)

/-- BRIDGE_CHANGE (R311): traffic takes the other way round the ring, or returns. -/
def execBridgeChange (otherWay : Bool) (s : State) : Result' :=
  .next (if s.clu.otherWay = otherWay then s
  else ({ s with clu := { s.clu with otherWay := otherWay } } : State).raise 110 (b2n otherWay) 0)

end Sys2Proof.Machine
end

