-- ==== Sys2Proof/Machine/EvCycle.lean ====
section
/-!
DEFINITION. Events of the cycle: the boundary, cycle points, and the frames a head launches in its windows (R15, R26, R62, R69, R91,
R101, R103, R106, R112, R117, R122, R243, R400).
-/
namespace Sys2Proof.Machine

/-- An axis that moves here arrives over the bridge by the boundary (R221, R315). -/
def State.arrives (s : State) (moved : Option MovedAxis) : State := { s with clu := { s.clu with movedIn := moved } }

/-- CYCLE_BOUNDARY (R15): the next boundary, once the cycle origin is fixed. -/
def execCycleBoundary (b : BoundaryIn) (s : State) : Result' :=
  .next (if s.clk.fixed && s.md.mode.cycles then (s.arrives b.moved).crossBoundary b.ringPeriod else s)

/-! ## Cycle points -/

/-- A converter's sequence bound to cycle point k starts, unless one runs (R26, R243). -/
def State.cpStart (s : State) (x k : Nat) : State :=
  let c := s.conv x
  if c.off || !c.armed || c.trig ≠ 1 || fld c.w0 13 11 ≠ k then s
  else s.setConv x (c.startAt s.mainsNominal s.now id)

/-- CYCLE_POINT (R26): CPk fires at its offset, once a cycle: event 32 + k, the strobe, sequences bound to it. -/
def execCyclePoint (k : Fin 8) (s : State) : Result' :=
  let p : CyclePt := Tbl.get {} s.pins.cp k.val
  let at_ := s.bNow + fld p.now 23 0
  .next (if !s.clk.begun || !s.md.mode.cycles || !bit p.now 24 || p.fired = s.clk.cycle + 1 || s.bNext ≤ at_ then s
  else
    let s1 := s.to at_
    let q : CyclePt := { p with fired := s.clk.cycle + 1, driveUntil := if bit p.now 25 then s1.now + 100 else p.driveUntil }
    let s2 : State := { s1 with pins := { s1.pins with cp := Tbl.put s1.pins.cp k.val q } }
    ([0, 1].foldl (fun t x => t.cpStart x k.val) s2).raise (32 + k.val) 0 (s.clk.cycle % 2 ^ 32))

/-! ## Windows -/

/-- The window of a kind on chain c, if the device may launch in it now: it heads, the chain is enabled, the time base is good. -/
def State.windowOpen (s : State) (c kind : Nat) : Option Nat :=
  if s.isHead && s.clk.begun && (s.ch c).enabled && !s.faults.oscBad then windowFor (s.ch c).active.win kind else none

/-- The time at which window k of chain c opens in the cycle in hand. -/
def State.windowAt (s : State) (c k : Nat) : Nat := s.bNow + winStart (s.ch c).active.win k

/-- The holder of the acyclic windows of chain c has used one more frame (R400, R401). -/
def State.countFrame (s : State) (c : Nat) : State :=
  let x := s.arb.get (1 + c)
  if x.holder.isNone then s else { s with arb := s.arb.put (1 + c) { x with frames := x.frames + 1 } }

/-- SERVICE_FRAME_LAUNCH (R101): the service frame with requests, notices and the safe region. -/
def execServiceFrameLaunch (c : Fin 2) (s : State) : Result' :=
  .next (match s.windowOpen c 2 with
  | none => s
  | some k =>
    let s1 := (s.to (s.windowAt c k)).updCh c Chain.dropAssigns
    (s1.serviceFrame c k).countFrame c)

/-- OPEN_FRAME_LAUNCH (R91): an open window carries host requests where some wait. -/
def execOpenFrameLaunch (c : Fin 2) (s : State) : Result' :=
  .next (match s.windowOpen c 5 with
  | none => s
  | some k =>
    let s1 := s.to (s.windowAt c k)
    if (s.ch c).openFilled.isEmpty then s1 else (s1.openFrame c k).countFrame c)

/-- ACYCLIC_FILL (R400): 2 µs before a service or open window, the holder of the chain's windows fills its slots. -/
def execAcyclicFill (c : Fin 2) (open_ : Bool) (s : State) : Result' :=
  .next (match s.windowOpen c (if open_ then 5 else 2) with
  | none => s
  | some k =>
    let s1 := s.to (s.windowAt c k - 2000)
    let s2 := (if open_ then s1 else (s1.settle c).timeReports c).windowHolder c
    let z := s2.fill c open_
    (z.1.updCh c (fun x => if open_ then { x with openFilled := z.2.filter (fun a => !x.filled.contains a) } else { x with filled := z.2 })).serve)

/-- Payload of a beacon (Table 3.19): lease sequence, state sequence, L, gear, serial hash. -/
def State.beaconBytes (s : State) : List Byte :=
  beBytes 4 s.twin.leaseSeq ++ beBytes 4 s.twin.stateSeq ++ [BitVec.ofNat 8 s.twin.l, BitVec.ofNat 8 s.clk.gear, 0, 0] ++
    beBytes 4 Config.serialHash.toNat

/-- BEACON_LAUNCH (R69): the head's beacon in the claim and beacon window. -/
def execBeaconLaunch (c : Fin 2) (s : State) : Result' :=
  .next (match s.windowOpen c 4 with
  | none => s
  | some k =>
    let s1 := s.to (s.windowAt c k)
    if s1.md.mode.heads then s1.launch c { s1.frame 6 k 16 with payload := s1.beaconBytes } else s1)

/-- A delay-measurement round or, without one to launch, a census: the frame's kind and the ring after it (R106, R107, R117, R122). -/
def State.discovery (s : State) (c k : Nat) : State :=
  let r := (s.ch c).ring
  let named := r.loopNowA != 0xFF || r.loopNowB != 0xFF
  if r.measuring && (r.byLoop && named || !r.byLoop && decide (r.roundsLeft ≠ 0)) then
    let rd := (r.round + 1) % 16
    (s.updCh c (fun x => { x with ring := { x.ring with round := rd, roundsLeft := if x.ring.byLoop then 0 else x.ring.roundsLeft - 1
                                                        haveA := false, haveB := false } })).launch c
      { s.frame 5 k 520 with payload := BitVec.ofNat 8 rd :: List.replicate 519 0 }
  else if !r.measuring && (s.startup.phase == .census || (s.md.mode.heads && decide (r.lastCensus + 1000000 ≤ s.now))) then
    (s.updCh c (fun x => { x with ring := { x.ring with censuses := x.ring.censuses + 1, lastCensus := s.now } })).launch c { s.frame 4 k 516 with payload := List.replicate 516 0 }
  else s

/-- DISCOVERY_LAUNCH (R62, R106, R122). -/
def execDiscoveryLaunch (c : Fin 2) (s : State) : Result' :=
  .next (match s.windowOpen c 3 with
  | none => s
  | some k => (s.to (s.windowAt c k)).discovery c k)

end Sys2Proof.Machine
end

