-- ==== Sys2Proof/Machine/EvEnv.lean ====
section
/-!
DEFINITION. The envelope path: keys, data, seal updates, locks and checks (R254 to R256, R434).
-/
namespace Sys2Proof.Machine

/-- ENV_KEY_WRITE (R254). -/
def execEnvKeyWrite (v : Word) (we : Bool) (s : State) : Result' := .next (if s.portOpen then s.envKey v we else s)

/-- ENV_DATA_WRITE (R254, R255). -/
def execEnvDataWrite (v : Word) (we : Bool) (s : State) : Result' := .next (if s.portOpen then s.envData v we else s)

/-- ENV_KEY_TIMEOUT (R254): the first key is forgotten 1 ms after it. -/
def execEnvKeyTimeout (s : State) : Result' :=
  match s.env.firstKey with
  | none => .next s
  | some t => .next (({ s with env := { s.env with firstKey := none } } : State).to (1000000 + t))

/-- ENV_LOCKOUT_END (R254). -/
def execEnvLockoutEnd (s : State) : Result' :=
  match s.env.lockout with
  | none => .next s
  | some t => .next (({ s with env := { s.env with lockout := none } } : State).to t)

/-- ENV_PATH_TIMEOUT (R256): 10 s after the last data write. -/
def execEnvPathTimeout (s : State) : Result' :=
  if !s.env.unlocked then .next s else .next (s.to (10000000000 + s.env.lastWrite)).envLock

/-- ENV_WE_FALL (R256). -/
def execEnvWeFall (s : State) : Result' := .next s.weFall

/-- ENV_SEAL_UPDATE_DONE (R255). -/
def execEnvSealUpdateDone (s : State) : Result' := .next s.envSealed

/-- SEAL_CHECK (R252, R434): without a valid envelope seal every axis stands at zero motion. -/
def execSealCheck (s : State) : Result' := .next (if s.portOpen then s.checkSeal 1 false else s)

end Sys2Proof.Machine
end

