-- ==== Sys2Proof/Machine/EvHost.lean ====
section
/-!
DEFINITION. What the host does at its port, and the host link (R345 to R361, R413).
-/
namespace Sys2Proof.Machine

/-- CMDQ_TAIL_WRITE (R353, R354): the doorbell. -/
def execCmdqTailWrite (v : Word) (s : State) : Result' := .next (s.regWrite 0x10 v).serve

/-- RSPQ_HEAD_WRITE (R354): freed slots may let the device take more commands. -/
def execRspqHeadWrite (v : Word) (s : State) : Result' := .next (s.regWrite 0x18 v).serve

/-- EVTQ_HEAD_WRITE (R352, R353). -/
def execEvtqHeadWrite (v : Word) (s : State) : Result' := .next (s.regWrite 0x20 v)

/-- IRQ_PEND_WRITE (R360). -/
def execIrqPendWrite (k : Fin 4) (v : Word) (s : State) : Result' := .next (s.regWrite (0x40 + 4 * k.val) v)

/-- IRQ_MASK_WRITE (R360). -/
def execIrqMaskWrite (k : Fin 4) (v : Word) (s : State) : Result' := .next (s.regWrite (0x50 + 4 * k.val) v)

/-- IRQ_ROUTE_WRITE (R360). -/
def execIrqRouteWrite (w : Fin 32) (v : Word) (s : State) : Result' := .next (s.regWrite (0x60 + 4 * w.val) v)

/-- REGISTER_WRITE (R349): a word of BAR0 outside the queue areas and the aperture. -/
def execRegisterWrite (off : BitVec 16) (v : HostWord) (s : State) : Result' :=
  .next ((s.seesWe v.we).regWrite (off.toNat / 4 * 4) v.word).serve

/-- QSPI_WRITE (R347, R348, R351). -/
def execQspiWrite (ins : QspiIns) (addr : BitVec 24) (data : List Byte) (s : State) : Result' :=
  if !s.straps.hsel || !s.portOpen || !(ins.ins == 0x02 || ins.ins == 0xA2 || ins.ins == 0x42) then .next s
  else .next ((s.seesWe ins.we).qspiPut addr.toNat data).serve

/-- QSPI_READ (R347, R348, R351, R361). -/
def execQspiRead (ins : QspiIns) (addr : BitVec 24) (n : Nat) (s : State) : Result' :=
  if !s.straps.hsel || !s.md.mode.timed || !(ins.ins == 0x0B || ins.ins == 0xAB || ins.ins == 0x4B) then .next s
  else .next ((s.seesWe ins.we).qspiGet addr.toNat n)

/-- PCIE_MEMORY_ACCESS (R345, R350, R351, R361). -/
def execPcieMemoryAccess (a : MemAccess) (s : State) : Result' :=
  if s.straps.hsel || !s.md.mode.timed || s.host.gen = 0 then .next s else .next ((s.seesWe a.we).access a).serve

/-- The host link has a new state (R413): event 11, or a note until BOOT_DONE. -/
def State.hostLinkTo (s : State) (gen : Nat) (x2 : Bool) : State :=
  let w := x2 && decide (gen ≠ 0)
  if s.host.gen = gen && s.host.x2 == w then s
  else
    let t : State := { s with host := { s.host with gen := gen, x2 := w } }
    if s.md.bootDone then t.raise 11 (gen + bitAt 2 w) 0 else { t with md := { t.md with linkSeen := true } }

/-- PERST_ASSERT (R346): the link goes down and MSI-X is disabled; nothing else changes. -/
def execPerstAssert (s : State) : Result' :=
  let t := if s.straps.hsel || !s.md.mode.timed then s else s.hostLinkTo 0 false
  .next { t with host := { t.host with perst := true }, irq := { t.irq with msixEnabled := false } }

/-- PERST_RELEASE (R346): training starts. -/
def execPerstRelease (s : State) : Result' := .next { s with host := { s.host with perst := false } }

/-- HOST_LINK (R413). -/
def execHostLink (gen : BitVec 2) (x2 : Bool) (s : State) : Result' :=
  if s.straps.hsel || !s.md.mode.timed || s.host.perst then .next s else .next (s.hostLinkTo gen.toNat x2)

/-- MSIX_PENDING_SEND (R360): the host has set MSI-X enable, and a marked vector sends its message. -/
def execMsixPendingSend (v : Fin 32) (enabled : Bool) (s : State) : Result' :=
  if s.straps.hsel || !s.md.mode.timed || s.host.gen = 0 then .next s
  else
    let q := { s.irq with msixEnabled := enabled }
    if !enabled || !q.pba.testBit v.val || q.vecMasked v.val then .next { s with irq := q }
    else
      let q1 := { q with pba := putBit q.pba v.val false }
      .next { s with irq := if (q.seen v.val).isEmpty then q1 else { q1 with sent := Tbl.put q1.sent v.val (Tbl.get 0 q1.sent v.val + 1) } }

/-- EVENT_LOST (R359). -/
def execEventLost (s : State) : Result' := .next s.flushLost

end Sys2Proof.Machine
end

