-- ==== Sys2Proof/Machine/EvPower.lean ====
section
/-!
DEFINITION. Power, resets, BOOT, detectors, memory errors, and what ends firmware stages, core tests and mode changes (R28, R193,
R281, R361 to R365, R374, R409, R415, R419 to R436, R444, R447).
-/
namespace Sys2Proof.Machine

/-! ## Resets -/

/-- The BBR through a reset that finds an envelope update running: no reset changes the BBR, so the update ends (R422, R434). -/
def State.settleBbr (s : State) : Bbr :=
  if s.env.busy then ({ s.bbr with running := none } : Bbr).reseal 1 else { s.bbr with running := none }

/-- Detector levels, which follow the rails and the temperature and no reset. -/
def Power.levels (p : Power) : Power :=
  { railWarn := p.railWarn, railFault := p.railFault, railLow := p.railLow, tempWarn := p.tempWarn, tempFault := p.tempFault
    vbatLow := p.vbatLow, railsOk := p.railsOk }

/-- A slot's header stands in flash; what the firmware knew of its verification is gone. -/
def FwSlot.afterReset (x : FwSlot) : FwSlot := { header := x.header, headerValid := x.headerValid }

/-- Everything a reset clears at its reset value; the BBR, the flash, the levels outside and the memories as they stood (R422,
R427, R428). -/
def State.cleared (s : State) (b : Bbr) : State :=
  { pending := s.pending, free := s.free, bbr := { b with ok0 := false, ok1 := false, ok2 := false, ok3 := false }
    host := { perst := s.host.perst, cmdMem := s.host.cmdMem, rspMem := s.host.rspMem, evtMem := s.host.evtMem }
    env := { we := s.env.we }
    fw := { a := s.fw.a.afterReset, b := s.fw.b.afterReset, flash := s.fw.flash }
    can := { p0 := { txMem := s.can.p0.txMem, rxMem := s.can.p0.rxMem }, p1 := { txMem := s.can.p1.txMem, rxMem := s.can.p1.rxMem } }
    power := s.power.levels, mem := s.mem }

/-- The device enters RESET (Table 18.3); `retained`: a recovery reset. -/
def State.enterReset (s : State) (retained porst : Bool) : State :=
  let t := s.cleared s.settleBbr
  { t with md := { t.md with mode := .reset, retained := retained, asleep := retained, porst := porst } }

/-- PORST_LOW (R422): in a recovery reset clearing wins; in DORMANT the level is noted. -/
def execPorstLow (s : State) : Result' :=
  .next (if s.md.mode = .dormant then { s with md := { s.md with porst := true } } else s.enterReset false true)

/-- RESET_END (R423, R444): the straps are sampled and BOOT begins. -/
def execResetEnd (x : StrapLevels) (s : State) : Result' :=
  .next (if s.md.mode ≠ .reset then s else
    { s with
      straps := { cid := x.cid.val, lead := x.lead, hsel := x.hsel, side := x.side, bootsel := x.bootsel.val }
      md := { s.md with mode := .boot, porst := false, clearing := true } })

/-- SYS_RESET_EXPIRY (R422): 100 µs after the response. -/
def execSysResetExpiry (s : State) : Result' :=
  .next (match s.md.sysReset with
    | some (retain, _) => s.enterReset retain false
    | none => s)

/-- HARDWARE_WATCHDOG (R409): 100 ms without a heartbeat and no ready twin make a recovery reset. -/
def execHardwareWatchdog (s : State) : Result' :=
  .next (if s.md.mode.timed && s.host.fwRunning && !s.twinReady then s.enterReset true false else s)

/-- What the BBR hold when both supplies are lost: nothing the spec states (R425). -/
def State.lostBbr (s : State) : Bbr := { words := (List.range 1024).map (fun a => (a, wd (Config.fresh (s.free + a)))) }

/-- RAIL_POWER_FAIL (R420, R425, R447): DORMANT at once; a write operation under way stays torn. -/
def execRailPowerFail (vbat : Bool) (s : State) : Result' :=
  if s.md.mode = .dormant then .next s
  else
    let b : Bbr := if vbat then { s.bbr with running := none, onVbat := true } else s.lostBbr
    let t := s.cleared b
    .next { t with md := { t.md with mode := .dormant, porst := s.md.porst }
                   free := if vbat then s.free else s.free + 1024
                   power := { railsOk := false }
                   host := { perst := s.host.perst }, can := {}, mem := {} }

/-- RAILS_IN_RANGE (R420, R447): DORMANT ends in RESET. -/
def execRailsInRange (s : State) : Result' :=
  .next (if s.md.mode ≠ .dormant then s else
    { s with md := { s.md with mode := .reset, retained := false }, power := { s.power with railsOk := true } })

/-- BBR_SUPPLY_CHANGEOVER (R425): without loss. -/
def execBbrSupplyChangeover (toVbat : Bool) (s : State) : Result' := .next { s with bbr := { s.bbr with onVbat := toVbat } }

/-- VBAT_POWER_ON_CLEAR (R436). -/
def execVbatPowerOnClear (s : State) : Result' :=
  .next (if s.md.mode = .dormant then { s with bbr := { s.bbr with words := [] } } else s)

/-! ## BOOT -/

/-- BANK_WAKE (R428). -/
def execBankWake (s : State) : Result' :=
  .next (if s.md.mode = .boot then { s with md := { s.md with asleep := false } } else s)

/-- Loader state (R364): event 1, and the stages of R365 start afresh. -/
def State.enterLoader (s : State) : State :=
  let t : State := { s with
    host := { s.host with loader := true, mbxReady := true }
    md := { s.md with bootDone := true }
    fw := { s.fw with a := { s.fw.a with ends := [] }, b := { s.fw.b with ends := [] } } }
  let u := t.raise 1 (bitAt 2 t.md.retained + bitAt 3 true) t.md.selfTest
  if u.md.linkSeen then u.raise 11 (u.host.gen + bitAt 2 u.host.x2) 0 else u

/-- MEMORY_CLEAR_DONE (R427, R428): after a recovery reset trace and exchange memory stay as they stand. With BOOTSEL 0b11 no image
is tried (R364). -/
def execMemoryClearDone (s : State) : Result' :=
  if s.md.mode ≠ .boot || !s.md.clearing || s.md.asleep then .next s
  else
    let s1 : State := { s with md := { s.md with clearing := false } }
    let s2 : State := if s.md.retained then s1 else
      { s1 with
        mem := {}, host := { s1.host with cmdMem := [], rspMem := [], evtMem := [] }
        can := { s1.can with p0 := { s1.can.p0 with txMem := [], rxMem := [] }, p1 := { s1.can.p1 with txMem := [], rxMem := [] } } }
    .next (if s2.straps.bootsel = 3 then s2.enterLoader else s2)

/-- The slot may be tried now (Table 14.13). Which of two images has the higher `IMG.SEQ` the reading itself shows. -/
def State.imageDue (s : State) (b : Bool) : Bool :=
  match s.straps.bootsel with
  | 1 => !b && s.md.tried == 0
  | 2 => b && s.md.tried == 0
  | 3 => false
  | _ =>
    if s.md.tried = 0 then
      (match fld s.settings 7 6 with
       | 1 => !b
       | 2 => b
       | _ => true)
    else !s.md.tried.testBit (b2n b)

/-- Every permitted image has been tried. -/
def State.allTried (s : State) : Bool :=
  if s.straps.bootsel = 0 then s.md.tried == 3 else s.md.tried != 0

/-- IMAGE_VERIFIED (R363, R364). -/
def execImageVerified (h : ImageHeader) (s : State) : Result' :=
  if s.md.mode ≠ .boot || s.md.clearing || s.host.loader || s.md.imageOk || !s.imageDue h.slotB then .next s
  else
    let s1 : State := { s with fw := s.fw.setSlot h.slotB ((s.fw.slot h.slotB).checked h) }
    .next (if imageOk h then
        { s1 with md := { s1.md with imageOk := true }, host := { s1.host with imageB := h.slotB, fallback := s.md.tried != 0 } }
      else
        let s2 : State := { s1 with md := { s1.md with tried := putBit s1.md.tried (b2n h.slotB) true } }
        if s2.allTried then s2.enterLoader else s2)

/-- SELF_TEST_DONE (R423): cores are fenced, converters stay off, a safety channel is an internal fault. -/
def execSelfTestDone (f : SelfTest) (s : State) : Result' :=
  if s.md.mode ≠ .boot || !s.md.imageOk || s.md.tested then .next s
  else
    let s1 := (setBits 16 f.cores.toNat).foldl (fun t k => t.fence k 4 none) s
    let s2 : State := { s1 with
      md := { s1.md with
        tested := true, safetyBad := f.safety, hardwired := f.hardwired,
        selfTest := f.cores.toNat + bitAt 16 f.convS + bitAt 17 f.convP }
      pins := { s1.pins with convS := { s1.pins.convS with off := f.convS }, convP := { s1.pins.convP with off := f.convP } } }
    .next (if f.safety then s2.internalFault 4 else if f.hardwired then s2.internalFault 5 else s2)

/-- The envelope limits in force as BOOT reads them from the BBR (R255). -/
def State.envAtBoot (s : State) : Tbl Word := (List.range 512).map (fun k => (k, s.bbr.word (0x100 + k)))

/-- The gear entered at CONFIGURE (R48, Table 18.8). -/
def State.bootGear (s : State) : Nat := if fld s.settings 2 0 = 0 then 2 else fld s.settings 2 0

/-- BOOT_DONE (R361, R402, R420, R434): the seals are checked, the settings take effect, the mailbox is ready and CONFIGURE begins. -/
def execBootDone (s : State) : Result' :=
  if s.md.mode ≠ .boot || !s.md.tested || s.host.loader then .next s
  else
    let g := if s.limitsOk s.bootGear s.ch0.active s.ch1.active && s.curAxesOk s.bootGear then s.bootGear else 2
    let tc : Int := (tcOf g : Nat)
    let s1 : State := { s with
      md := { s.md with bootDone := true }
      host := { s.host with fwRunning := true, mbxReady := true }
      env := { s.env with inForce := s.envAtBoot }
      arb := s.arbLimits
      clk := { s.clk with gear := g }
      room := { s.room with slackLast := tc, slackMin := tc, projLast := tc, projMin := tc }
      faults := { s.faults with hbTime := s.now, hbNow := false } }
    let s2 := s1.enter .configure 6
    let s3 := s2.raise 1 (bitAt 0 s2.host.imageB + bitAt 1 s2.host.fallback + bitAt 2 s2.md.retained) s2.md.selfTest
    let s4 := [0, 1, 2, 3].foldl (fun t r => t.checkSeal r true) s3
    let s5 := s4.raiseAll ((if s4.md.safetyBad then [(93, 4, 0)] else []) ++ (if s4.md.hardwired then [(93, 5, 0)] else []))
    .next (if s5.md.linkSeen then s5.raise 11 (s5.host.gen + bitAt 2 s5.host.x2) 0 else s5)

/-- EXTEST_ENTRY (R428): every bank is held at retention voltage. -/
def execExtestEntry (s : State) : Result' :=
  .next (if s.md.mode = .dormant then s else { s with md := { s.md with extest := true, asleep := true } })

/-- EXTEST_EXIT (R428): a recovery reset. -/
def execExtestExit (s : State) : Result' := .next (if s.md.extest then s.enterReset true false else s)

/-! ## Detectors -/

/-- SUPERVISOR_HEARTBEAT (H3). -/
def execSupervisorHeartbeat (s : State) : Result' :=
  .next (if s.host.fwRunning then
    { s with faults := { s.faults with hbNow := true, hbCycle := s.clk.cycle, hbMissed := 0, hbTime := s.now } }
  else s)

/-- OSC_FAULT (R28, R409, R415): the launch stops, H4 fails and both channels de-energise their sides. -/
def execOscFault (lost : Bool) (ppm : Int) (s : State) : Result' :=
  if !s.md.mode.timed || s.faults.oscBad || (!lost && decide (ppm.natAbs ≤ 5000)) then .next s
  else
    let s1 : State := { s with faults := { s.faults with oscBad := true } }
    .next ((s1.drivePairs.raise 3 (bitAt 0 lost + bitAt 1 (decide (5000 < ppm.natAbs))) (ubits 32 ppm)).fixedFault 22 0 5)

/-- Nominal value of a rail, mV: VCORE, VIO18, VIO33, VSER09, VSER18, VAA33. -/
def railNominal (r : Nat) : Nat := [800, 1800, 3300, 900, 1800, 3300].getD r 0

/-- A rail lies outside its warning or fault thresholds (Table 17.5). -/
def railWarns (r mv : Nat) : Bool :=
  if r = 0 then decide (mv < 760) || decide (880 < mv)
  else decide (100 * mv < 95 * railNominal r) || decide (105 * railNominal r < 100 * mv)
def railFails (r mv : Nat) : Bool :=
  if r = 0 then decide (mv < 720) || decide (920 < mv)
  else decide (100 * mv < 90 * railNominal r) || decide (110 * railNominal r < 100 * mv)

/-- SUPPLY_DETECTOR (R415): a warning and a fault are raised as their threshold is crossed. -/
def execSupplyDetector (rail : Fin 6) (mv : Nat) (s : State) : Result' :=
  if !s.md.mode.timed then .next s
  else
    let r := rail.val
    let w := railWarns r mv
    let f := railFails r mv
    let s1 : State := { s with power := { s.power with railWarn := putBit s.power.railWarn r w, railFault := putBit s.power.railFault r f } }
    let s2 := if w && !s.power.railWarn.testBit r then s1.raise 4 r mv else s1
    .next (if f && !s.power.railFault.testBit r then s2.occur 19 r (fun _ => some (5, r, mv)) else s2)

/-- A level with a hysteresis of 5 °C, in 0.1 °C. -/
def tempLevel (old : Bool) (limit tj : Int) : Bool := if limit ≤ tj then true else if tj ≤ limit - 50 then false else old

/-- TEMP_DETECTOR (R415): event 6, and event 7 with class 20. -/
def execTempDetector (tj : Int) (s : State) : Result' :=
  if !s.md.mode.timed then .next s
  else
    let w := tempLevel s.power.tempWarn 1150 tj
    let f := tempLevel s.power.tempFault 1280 tj
    let s1 : State := { s with power := { s.power with tempWarn := w, tempFault := f } }
    let s2 := if w = s.power.tempWarn then s1 else s1.raise 6 (b2n w) (ubits 32 tj)
    .next (if f = s.power.tempFault then s2
      else if f then s2.occur 20 0 (fun _ => some (7, 1, ubits 32 tj)) else s2.raise 7 0 (ubits 32 tj))

/-- VBAT_LOW (R415). -/
def execVbatLow (mv : Nat) (s : State) : Result' :=
  let low := decide (mv < 1900)
  .next (if !s.md.mode.timed then s
    else
      let s1 : State := { s with power := { s.power with vbatLow := low } }
      if low && !s.power.vbatLow then s1.raise 8 0 mv else s1)

/-! ## Memory errors -/

/-- A corrected error in a memory area (R426, class 17); safety-processor memory is counted and no class. -/
def State.corrected (s : State) (a : Nat) : State :=
  let s1 : State := { s with power := { s.power with eccCorr := Tbl.put s.power.eccCorr a (cadd (Tbl.get 0 s.power.eccCorr a) 1) } }
  if a < 4 then s1.occur 17 a (fun st => some (126, a, st)) else s1

/-- MEM_ECC_ERROR (R415, R426): an uncorrectable error in safety-processor memory is an internal fault (R281). -/
def execMemEccError (area : Fin 5) (uncorrectable : Bool) (off : Nat) (s : State) : Result' :=
  if !s.md.mode.timed then .next s
  else if !uncorrectable then .next (s.corrected area.val)
  else if area.val = 4 then .next (s.internalFault 4)
  else
    let s1 : State := { s with power := { s.power with eccUnc := cadd s.power.eccUnc 1 } }
    .next (s1.occur 18 area.val (fun _ => some (127, area.val, off % 2 ^ 32)))

/-- SCRUB_PASS (R426): the corrected words of a pass, by area. -/
def execScrubPass (areas : List (Fin 5)) (s : State) : Result' :=
  .next (if s.md.mode.timed then areas.foldl (fun t a => t.corrected a.val) s else s)

/-! ## Ends of stages and waits -/

/-- FLASH_OPERATION_DONE (R363, R365, R384). -/
def execFlashOperationDone (r : FlashResult) (s : State) : Result' :=
  match s.fw.stage, r with
  | some (.write b off data, m), .done =>
    let f : Fw := { s.fw with stage := none }
    .next (({ s with fw := f.program b off data } : State).respond m stOk []).serve
  | some (.verify b, m), .checked h =>
    let f : Fw := { s.fw with stage := none }
    let t : State := { s with fw := f.setSlot b ((f.slot b).checked h) }
    .next (if imageOk h then t.respond m stOk [wd (h.version.toNat + at_ 16 h.svn.toNat), h.seq, h.length] else t.respond m stAuthFail []).serve
  | some (_, m), .timeout => .next (({ s with fw := { s.fw with stage := none } } : State).respond m stTimeout []).serve
  | _, _ => .next s

/-- CORE_TEST_DONE (R193): the core returns to service, or is fenced. -/
def execCoreTestDone (x : Fin 16) (passed : Bool) (s : State) : Result' :=
  match s.power.coreTest with
  | some (k, m) =>
    if k ≠ x.val then .next s
    else
      let s1 : State := { s with power := { s.power with coreTest := none } }
      let s2 : State := if passed then { s1 with sched := { s1.sched with inService := putBit s1.sched.inService k true } } else s1.fence k 5 none
      .next (s2.respond m stOk [wd (bitAt 0 passed + bitAt 1 (s2.sched.inService.testBit k))]).serve
  | none => .next s

/-- MODE_SET_TIMEOUT (R374): 30 s without a re-arming edge. -/
def execModeSetTimeout (s : State) : Result' :=
  match s.safe.waitArm with
  | some (m, t) =>
    .next (({ s.to (30000000000 + t) with safe := { s.safe with waitArm := none } } : State).respond m stTimeout []).serve
  | none => .next s

end Sys2Proof.Machine
end

