-- ==== Sys2Proof/Machine/EvSafe.lean ====
section
/-!
DEFINITION. Safe cycles, safe inputs, output tests and RESTART (R258 to R281, R285, R342).
-/
namespace Sys2Proof.Machine

/-- SAFE_CYCLE_START (R260, R262): S(j). An RC count outside its band is an internal fault (R281). -/
def execSafeCycleStart (rc : Nat) (s : State) : Result' :=
  if !s.safeRuns then .next s
  else
    let j := s.safe.nextCycle s.now
    let s1 := (s.to (s.safe.sAt j)).testExpires
    let s2 := if s1.safe.rcOk rc then s1 else s1.internalFault 3
    let f := { s2.safe with
      cycle := j, begun := true, evaluated := false, rep1 := [], rep2 := [], sent := 0, stoAtS := s2.safe.sto, ss1AtS := s2.safe.ss1
      pduSeen := false }
    let send := s2.md.mode.heads && f.configured && !(f.internal && s2.faults.stopLease)
    .next { s2 with safe := { f with headPdu := if send then f.pdu j else [] } }

/-- SAFE_EVALUATION (R267): E(j). -/
def execSafeEvaluation (v : SafeExchange) (s : State) : Result' :=
  if !s.safeRuns || !s.safe.begun || s.safe.evaluated then .next s
  else .next ((s.to (s.safe.eAt s.safe.cycle)).evaluate v)

/-- SAFE_EXCHANGE_TIMEOUT (R267): 100 µs after E(j). -/
def execSafeExchangeTimeout (s : State) : Result' :=
  if !s.safeRuns || !s.safe.begun || s.safe.evaluated then .next s
  else
    let s1 := s.to (100000 + s.safe.eAt s.safe.cycle)
    .next (({ s1 with safe := { s1.safe with evaluated := true, lastSeq := s1.safe.cycle % 65536 } } : State).internalFault 1)

/-- SAFE_INPUT_SAMPLE (R271, R380): both channels sample their contacts and demand what the inputs and the host demand. -/
def execSafeInputSample (a b : Byte) (s : State) : Result' :=
  if !s.md.mode.timed then .next s
  else
    let f := { s.safe with input := (List.range 8).foldl (fun t m =>
      Tbl.upd {} t m (fun x => x.sample (a.toNat.testBit m) (b.toNat.testBit m) (s.safe.siw m) s.now)) s.safe.input }
    let s1 : State := { s with safe := f }
    if !s1.safeRuns then .next s1
    else
      let s2 := (s1.enterSto (f.demanded 1) 2).enterSs1 (f.demanded 2) 2
      .next (if s2.md.mode.heads then (s2.enterSto f.hostSto 5).enterSs1 f.hostSs1 5 else s2)

/-- SI_DISCREPANCY (R272): the other contact has not followed within `SI.DISC`. -/
def execSiDiscrepancy (m : Fin 8) (s : State) : Result' :=
  let x : SafeIn := Tbl.get {} s.safe.input m.val
  let w := s.safe.siw m.val
  match x.since with
  | none => .next s
  | some t =>
    if fld w 1 0 = 0 || x.disc || x.a.closed = x.b.closed then .next s
    else
      let s1 := s.to (t + fld w 19 10 * 1000000)
      let s2 : State := { s1 with safe := { s1.safe with
        input := Tbl.put s1.safe.input m.val { x with disc := true, bothOpen := false, since := none } } }
      let s3 := (s2.raise 89 m.val 0).fixedFault 33 m.val 2
      .next (if s3.safeRuns then s3.enterSto (fld w 9 2) 3 else s3)

/-- RESTART_SAMPLE (R275): each channel samples RESTART and measures the press; one that both measure in range re-arms when the second
sees its release. -/
def execRestartSample (r : RestartLevels) (s : State) : Result' :=
  let f := s.safe
  if !s.md.mode.timed then .next s
  else if f.held then .next { s with safe := { f with held := r.ch1 || r.ch2 } }
  else
    let g := { f with press1 := f.press1.sample r.ch1 s.now, press2 := f.press2.sample r.ch2 s.now }
    let h := if g.press1.since.isNone && g.press2.since.isNone then { g with stuck := false } else g
    .next (match g.edge with
      | some k =>
        let s1 : State := { s with safe := { h with press1 := { g.press1 with last := none }, press2 := { g.press2 with last := none } } }
        if k && s.md.mode.heads then s1.rearm.serve else s1
      | none => { s with safe := h })

/-- The earlier start of the presses that the channels measure. -/
def Safe.pressedSince (f : Safe) : Option Nat :=
  match f.press1.since, f.press2.since with
  | some a, some b => some (min a b)
  | some a, none => some a
  | none, b => b

/-- RESTART_STUCK (R275): either channel measures more than 3 s. -/
def execRestartStuck (s : State) : Result' :=
  match s.safe.pressedSince with
  | none => .next s
  | some t =>
    if s.safe.stuck then .next s
    else
      let s1 := s.to (3000000000 + t)
      .next (({ s1 with safe := { s1.safe with stuck := true } } : State).raise 92 0 0)

/-- A side of a pair is energised. -/
def Safe.side (f : Safe) (pair : Nat) (sideB : Bool) : Bool := if sideB then f.sideB.testBit pair else f.sideA.testBit pair

/-- OFF_PULSE_TEST (R273, R274, R276): an energised side is pulsed where a pulse is due, or where its pair is under test; a read-back
that is not as it must be fails the pair. The row stands at the end of the read-back window. -/
def execOffPulseTest (pair : Fin 4) (sideB : Bool) (r : Readback) (s0 : State) : Result' :=
  let s := (s0.by (100000 + r.start + fld s0.safe.w1 25 16 * 1000)).testExpires
  let f := s.safe
  let tested := f.test.pairs.testBit pair.val
  .next (if !f.side pair.val sideB || !(tested || f.pulseDue pair.val sideB r.start) then s
    else if !f.pulseOk r then s.outFail pair.val sideB
    else if tested then s.testPassed pair.val sideB
    else s)

/-- OUT_TEST_FAIL (R273, R274): outside the off-pulses the read-back differs from its command, which has stood for 100 µs. -/
def execOutTestFail (pair : Fin 4) (sideB : Bool) (level : Bool) (s : State) : Result' :=
  .next (if s.md.mode.timed && !s.safe.pairFault.testBit pair.val && level != s.safe.side pair.val sideB &&
      decide (Tbl.get 0 s.safe.changedAt pair.val + 100000 ≤ s.now) then s.outFail pair.val sideB else s)

end Sys2Proof.Machine
end

