-- ==== Sys2Proof/Machine/EvSched.lean ====
section
/-!
DEFINITION. Events of the scheduler: dispatch, spill return, completion, release, deadlines, fences (chapter 8).
-/
namespace Sys2Proof.Machine

/-- DISPATCH (R185): a free executor in service takes an item. -/
def execDispatch (x : Executor) (s : State) : Result' :=
  let s1 := s.expireBefore
  let free := s1.execFree x && (match x with
    | .core k => s1.sched.inService.testBit k.val
    | _ => true)
  .next (if free then s1.dispatchFor x (s1.sched.items.length + 1) else s1)

/-- SPILL_RETURN (R187). -/
def execSpillReturn (level : Fin 8) (s : State) : Result' := .next (s.spillReturn level.val)

/-- ITEM_COMPLETE (R143): the item that runs on the executor completes at `t`, after an occupancy of `occ` ns. -/
def execItemComplete (x : Executor) (occ : Nat) (residueOk : Bool) (t : Nat) (s : State) : Result' :=
  let s1 := (s.by t).expireBefore
  .next (match s1.runningOn x with
    | some (it, since) => s1.complete x it since occ residueOk
    | none => s1)

/-- RELEASE (R189). -/
def execRelease (flow : Fin 64) (t : Nat) (s : State) : Result' := .next ((s.by t).expireBefore.releaseFlow flow.val)

/-- ITEM_DEADLINE (R191): the nearest deadline passes. -/
def execItemDeadline (s : State) : Result' :=
  .next (match s.deadlines.min? with
    | some d => (s.to d).expire d
    | none => s)

/-- DISPATCH_ACK_TIMEOUT (R192). -/
def execDispatchAckTimeout (x : Fin 16) (s : State) : Result' :=
  .next (match s.runningOn (.core x) with
    | some (_, since) => (s.to (100 + since)).fence x.val 3 none
    | none => s)

/-- OCCUPANCY_LIMIT (R192): the running item passes twice its charge. -/
def execOccupancyLimit (x : Fin 16) (s : State) : Result' :=
  .next (match s.runningOn (.core x) with
    | some (it, since) => (s.to (since + 2 * it.charge)).fence x.val 2 none
    | none => s)

end Sys2Proof.Machine
end

