-- ==== Sys2Proof/Machine/EvTrace.lean ====
section
/-!
DEFINITION. The arbiter's grants and cut-offs, ring writes of the acquisition, and the fault log (R390, R392, R399 to R403, R411).
-/
namespace Sys2Proof.Machine

/-- ARBITER_GRANT (R400): a free resource is granted; a job that gets the engine starts or goes on (R398). -/
def execArbiterGrant (r : Fin 4) (s : State) : Result' :=
  let s1 := s.arbGrant r.val
  .next (if r.val = 0 then s1.runHolder else s1)

/-- Hold limit of the engine or the bridge, ns (Table 16.8). -/
def Arbiter.holdNs (a : Arbiter) (r : Nat) : Nat := if r = 0 then fld a.w0 15 0 * 100000 else fld a.w2 15 0 * 1000

/-- A requester that was cut off drops its request and may raise a new one. -/
def State.heed (s : State) (r w : Nat) : State :=
  let x := s.arb.get r
  { s with arb := s.arb.put r { x with ignored := x.ignored.filter (· != w) } }

/-- ARB_CUTOFF (R401): the engine and the bridge are taken at once, a window at the next fill instant. -/
def execArbCutoff (r : Fin 4) (s : State) : Result' :=
  let x := s.arb.get r.val
  .next (match x.holder with
    | none => s
    | some w =>
      if r.val = 1 ∨ r.val = 2 then
        (if fld s.arb.w1 15 0 ≤ x.frames then { s with arb := s.arb.put r.val { x with cut := true } } else s)
      else
        let s1 := (s.to (x.since + s.arb.holdNs r.val)).arbCut r.val w
        if r.val = 0 then ((s1.reraise (w - 2)).arbGrant 0).runHolder
        else ((s1.heed 3 w).agentRaise w).arbGrant 3)

/-- TRACE_RECORD_WRITE (R390). -/
def execTraceRecordWrite (s : State) : Result' := .next s.traceWrite

/-! ## Fault log -/

/-- Word k of fault-log entry e (Table 17.3). -/
def Bbr.logW (b : Bbr) (e k : Nat) : Word := b.word (0x300 + 4 * e + k)

/-- Of the entries not empty, the one with the highest `LOG.SEQ`, compared modulo 2^16 (R411). -/
def Bbr.lastLog (b : Bbr) : Option Nat :=
  (List.range 32).foldl (fun m e =>
    if fld (b.logW e 0) 7 0 = 0 then m
    else match m with
      | none => some e
      | some k => if sgn 16 (fld (b.logW e 3) 15 0 + 65536 - fld (b.logW k 3) 15 0) > 0 then some e else some k) none

/-- The four words of an entry (Table 17.3). -/
def LogReq.words (q : LogReq) (member seq : Nat) : List Word :=
  let chain := (q.cls == 2 || q.cls == 5 || q.cls == 6) && decide (256 ≤ q.idx)
  [wd (q.cls % 256 + at_ 8 (q.react % 8) + bitAt 11 q.fallback + at_ 12 (member % 4) + at_ 16 (q.idx % 256) + bitAt 24 chain)] ++
    words64 q.time ++ [wd (seq % 65536 + at_ 16 (q.mode % 8))]

/-- FAULT_LOG_WRITE (R411): the oldest entry asked for goes into the slot after the newest. -/
def execFaultLogWrite (s : State) : Result' :=
  .next (match s.faults.log with
    | [] => s
    | q :: rest =>
      let at_ : Nat × Nat := match s.bbr.lastLog with
        | some e => ((e + 1) % 32, fld (s.bbr.logW e 3) 15 0 + 1)
        | none => (0, 0)
      let s1 : State := { s with faults := { s.faults with log := rest } }
      s1.bbrWrite 2 (0x300 + 4 * at_.1) (q.words s.straps.cid at_.2))

end Sys2Proof.Machine
end

