-- ==== Sys2Proof/Machine/Dispatch.lean ====
section
/-!
DEFINITION. The meaning of every command: one arm per row of the operation table, each a direct call.
-/
namespace Sys2Proof.Machine

/-- The effect of a command on everything but the queue. -/
def exec (i : Instr) (s : State) : Host.Outcome State Fault Refusal :=
  match i with
  | .sysIdent h p => Sys2Proof.Machine.execSysIdent h p s
  | .sysReset h p => Sys2Proof.Machine.execSysReset h p s
  | .sysNop h p => Sys2Proof.Machine.execSysNop h p s
  | .modeRead h p => Sys2Proof.Machine.execModeRead h p s
  | .modeSet h p => Sys2Proof.Machine.execModeSet h p s
  | .gearRead h p => Sys2Proof.Machine.execGearRead h p s
  | .gearSet h p => Sys2Proof.Machine.execGearSet h p s
  | .gearShift h p => Sys2Proof.Machine.execGearShift h p s
  | .tableWinWrite h p => Sys2Proof.Machine.execTableWinWrite h p s
  | .tableMapWrite h p => Sys2Proof.Machine.execTableMapWrite h p s
  | .tableNodeWrite h p => Sys2Proof.Machine.execTableNodeWrite h p s
  | .tableBudgetWrite h p => Sys2Proof.Machine.execTableBudgetWrite h p s
  | .tableRead h p => Sys2Proof.Machine.execTableRead h p s
  | .tableStage h p => Sys2Proof.Machine.execTableStage h p s
  | .tableCommit h p => Sys2Proof.Machine.execTableCommit h p s
  | .chainCfgWrite h p => Sys2Proof.Machine.execChainCfgWrite h p s
  | .chainCfgRead h p => Sys2Proof.Machine.execChainCfgRead h p s
  | .chainSupvWrite h p => Sys2Proof.Machine.execChainSupvWrite h p s
  | .chainGuardWrite h p => Sys2Proof.Machine.execChainGuardWrite h p s
  | .chainMissAtWrite h p => Sys2Proof.Machine.execChainMissAtWrite h p s
  | .chainSupvRead h p => Sys2Proof.Machine.execChainSupvRead h p s
  | .chainNodeRead h p => Sys2Proof.Machine.execChainNodeRead h p s
  | .chainNodeWrite h p => Sys2Proof.Machine.execChainNodeWrite h p s
  | .chainDescRead h p => Sys2Proof.Machine.execChainDescRead h p s
  | .chainCensusRead h p => Sys2Proof.Machine.execChainCensusRead h p s
  | .chainDelayRead h p => Sys2Proof.Machine.execChainDelayRead h p s
  | .timeRead h p => Sys2Proof.Machine.execTimeRead h p s
  | .timeStage h p => Sys2Proof.Machine.execTimeStage h p s
  | .timeRate h p => Sys2Proof.Machine.execTimeRate h p s
  | .timeCpWrite h p => Sys2Proof.Machine.execTimeCpWrite h p s
  | .timeCapCfg h p => Sys2Proof.Machine.execTimeCapCfg h p s
  | .timeCapRead h p => Sys2Proof.Machine.execTimeCapRead h p s
  | .axisEnable h p => Sys2Proof.Machine.execAxisEnable h p s
  | .axisDisable h p => Sys2Proof.Machine.execAxisDisable h p s
  | .axisStatusRead h p => Sys2Proof.Machine.execAxisStatusRead h p s
  | .axisPrfCfgWrite h p => Sys2Proof.Machine.execAxisPrfCfgWrite h p s
  | .axisPrfCfgRead h p => Sys2Proof.Machine.execAxisPrfCfgRead h p s
  | .axisMissWindow h p => Sys2Proof.Machine.execAxisMissWindow h p s
  | .axisStreamInfo h p => Sys2Proof.Machine.execAxisStreamInfo h p s
  | .axisAuxWrite h p => Sys2Proof.Machine.execAxisAuxWrite h p s
  | .moveStart h p => Sys2Proof.Machine.execMoveStart h p s
  | .moveQuickStop h p => Sys2Proof.Machine.execMoveQuickStop h p s
  | .moveHold h p => Sys2Proof.Machine.execMoveHold h p s
  | .moveResume h p => Sys2Proof.Machine.execMoveResume h p s
  | .moveAbort h p => Sys2Proof.Machine.execMoveAbort h p s
  | .moveSetStop h p => Sys2Proof.Machine.execMoveSetStop h p s
  | .loopCfgWrite h p => Sys2Proof.Machine.execLoopCfgWrite h p s
  | .loopCfgRead h p => Sys2Proof.Machine.execLoopCfgRead h p s
  | .loopCurWrite h p => Sys2Proof.Machine.execLoopCurWrite h p s
  | .loopCoefWrite h p => Sys2Proof.Machine.execLoopCoefWrite h p s
  | .loopParamWrite h p => Sys2Proof.Machine.execLoopParamWrite h p s
  | .loopReady h p => Sys2Proof.Machine.execLoopReady h p s
  | .loopSwap h p => Sys2Proof.Machine.execLoopSwap h p s
  | .loopCoefRead h p => Sys2Proof.Machine.execLoopCoefRead h p s
  | .pulsePinCfg h p => Sys2Proof.Machine.execPulsePinCfg h p s
  | .pulseStpCfg h p => Sys2Proof.Machine.execPulseStpCfg h p s
  | .pulseRead h p => Sys2Proof.Machine.execPulseRead h p s
  | .feedbackCfgWrite h p => Sys2Proof.Machine.execFeedbackCfgWrite h p s
  | .feedbackCfgRead h p => Sys2Proof.Machine.execFeedbackCfgRead h p s
  | .feedbackResultRead h p => Sys2Proof.Machine.execFeedbackResultRead h p s
  | .feedbackSingleRead h p => Sys2Proof.Machine.execFeedbackSingleRead h p s
  | .adcCfgWrite h p => Sys2Proof.Machine.execAdcCfgWrite h p s
  | .adcSeqWrite h p => Sys2Proof.Machine.execAdcSeqWrite h p s
  | .adcStart h p => Sys2Proof.Machine.execAdcStart h p s
  | .adcResultRead h p => Sys2Proof.Machine.execAdcResultRead h p s
  | .adcStatRead h p => Sys2Proof.Machine.execAdcStatRead h p s
  | .envRead h p => Sys2Proof.Machine.execEnvRead h p s
  | .envClampRead h p => Sys2Proof.Machine.execEnvClampRead h p s
  | .safeCfgWrite h p => Sys2Proof.Machine.execSafeCfgWrite h p s
  | .safeZoneWrite h p => Sys2Proof.Machine.execSafeZoneWrite h p s
  | .safeAxisWrite h p => Sys2Proof.Machine.execSafeAxisWrite h p s
  | .safeSiWrite h p => Sys2Proof.Machine.execSafeSiWrite h p s
  | .safeRead h p => Sys2Proof.Machine.execSafeRead h p s
  | .safeConfirm h p => Sys2Proof.Machine.execSafeConfirm h p s
  | .safeDemand h p => Sys2Proof.Machine.execSafeDemand h p s
  | .safeStatus h p => Sys2Proof.Machine.execSafeStatus h p s
  | .twinCfgWrite h p => Sys2Proof.Machine.execTwinCfgWrite h p s
  | .twinStatus h p => Sys2Proof.Machine.execTwinStatus h p s
  | .twinSwap h p => Sys2Proof.Machine.execTwinSwap h p s
  | .clusterCfgWrite h p => Sys2Proof.Machine.execClusterCfgWrite h p s
  | .clusterStatus h p => Sys2Proof.Machine.execClusterStatus h p s
  | .clusterMoveAxis h p => Sys2Proof.Machine.execClusterMoveAxis h p s
  | .canCfgWrite h p => Sys2Proof.Machine.execCanCfgWrite h p s
  | .canFilterWrite h p => Sys2Proof.Machine.execCanFilterWrite h p s
  | .canSchedWrite h p => Sys2Proof.Machine.execCanSchedWrite h p s
  | .canSafeWrite h p => Sys2Proof.Machine.execCanSafeWrite h p s
  | .canAbort h p => Sys2Proof.Machine.execCanAbort h p s
  | .canRecover h p => Sys2Proof.Machine.execCanRecover h p s
  | .canInfo h p => Sys2Proof.Machine.execCanInfo h p s
  | .canRead h p => Sys2Proof.Machine.execCanRead h p s
  | .traceCfgWrite h p => Sys2Proof.Machine.execTraceCfgWrite h p s
  | .traceSigWrite h p => Sys2Proof.Machine.execTraceSigWrite h p s
  | .traceTrigWrite h p => Sys2Proof.Machine.execTraceTrigWrite h p s
  | .traceArm h p => Sys2Proof.Machine.execTraceArm h p s
  | .traceStop h p => Sys2Proof.Machine.execTraceStop h p s
  | .traceStatus h p => Sys2Proof.Machine.execTraceStatus h p s
  | .filterJobStart h p => Sys2Proof.Machine.execFilterJobStart h p s
  | .filterJobStatus h p => Sys2Proof.Machine.execFilterJobStatus h p s
  | .filterJobAbort h p => Sys2Proof.Machine.execFilterJobAbort h p s
  | .eventClassWrite h p => Sys2Proof.Machine.execEventClassWrite h p s
  | .eventClassRead h p => Sys2Proof.Machine.execEventClassRead h p s
  | .bbrRead h p => Sys2Proof.Machine.execBbrRead h p s
  | .bbrWrite h p => Sys2Proof.Machine.execBbrWrite h p s
  | .fwWrite h p => Sys2Proof.Machine.execFwWrite h p s
  | .fwVerify h p => Sys2Proof.Machine.execFwVerify h p s
  | .fwActivate h p => Sys2Proof.Machine.execFwActivate h p s
  | .fwInfo h p => Sys2Proof.Machine.execFwInfo h p s
  | .diagActRead h p => Sys2Proof.Machine.execDiagActRead h p s
  | .diagHeadroomRead h p => Sys2Proof.Machine.execDiagHeadroomRead h p s
  | .diagChainCounters h p => Sys2Proof.Machine.execDiagChainCounters h p s
  | .diagSchedRead h p => Sys2Proof.Machine.execDiagSchedRead h p s
  | .diagQueueSnapshot h p => Sys2Proof.Machine.execDiagQueueSnapshot h p s
  | .diagLoopCounters h p => Sys2Proof.Machine.execDiagLoopCounters h p s
  | .diagCanCounters h p => Sys2Proof.Machine.execDiagCanCounters h p s
  | .diagCoreTest h p => Sys2Proof.Machine.execDiagCoreTest h p s
  | .diagMemStatus h p => Sys2Proof.Machine.execDiagMemStatus h p s
  | .cmdqTailWrite v => Sys2Proof.Machine.execCmdqTailWrite v s
  | .rspqHeadWrite v => Sys2Proof.Machine.execRspqHeadWrite v s
  | .evtqHeadWrite v => Sys2Proof.Machine.execEvtqHeadWrite v s
  | .irqPendWrite k v => Sys2Proof.Machine.execIrqPendWrite k v s
  | .irqMaskWrite k v => Sys2Proof.Machine.execIrqMaskWrite k v s
  | .irqRouteWrite w v => Sys2Proof.Machine.execIrqRouteWrite w v s
  | .registerWrite off v => Sys2Proof.Machine.execRegisterWrite off v s
  | .envKeyWrite v we => Sys2Proof.Machine.execEnvKeyWrite v we s
  | .envDataWrite v we => Sys2Proof.Machine.execEnvDataWrite v we s
  | .rxqTailWrite n v => Sys2Proof.Machine.execRxqTailWrite n v s
  | .rxwRead n => Sys2Proof.Machine.execRxwRead n s
  | .canTxEntryOwn n i0 w0 w1 w2 w3 data => Sys2Proof.Machine.execCanTxEntryOwn n i0 w0 w1 w2 w3 data s
  | .qspiWrite ins addr data => Sys2Proof.Machine.execQspiWrite ins addr data s
  | .qspiRead ins addr n => Sys2Proof.Machine.execQspiRead ins addr n s
  | .pcieMemoryAccess a => Sys2Proof.Machine.execPcieMemoryAccess a s
  | .perstAssert => Sys2Proof.Machine.execPerstAssert s
  | .perstRelease => Sys2Proof.Machine.execPerstRelease s
  | .hostLink gen x2 => Sys2Proof.Machine.execHostLink gen x2 s
  | .msixPendingSend v enabled => Sys2Proof.Machine.execMsixPendingSend v enabled s
  | .eventLost => Sys2Proof.Machine.execEventLost s
  | .cycleBoundary b => Sys2Proof.Machine.execCycleBoundary b s
  | .cyclePoint k => Sys2Proof.Machine.execCyclePoint k s
  | .serviceFrameLaunch c => Sys2Proof.Machine.execServiceFrameLaunch c s
  | .openFrameLaunch c => Sys2Proof.Machine.execOpenFrameLaunch c s
  | .beaconLaunch c => Sys2Proof.Machine.execBeaconLaunch c s
  | .discoveryLaunch c => Sys2Proof.Machine.execDiscoveryLaunch c s
  | .acyclicFill c open_ => Sys2Proof.Machine.execAcyclicFill c open_ s
  | .missInstant c => Sys2Proof.Machine.execMissInstant c s
  | .candidateSpoke c b k fb t => Sys2Proof.Machine.execCandidateSpoke c b k fb t s
  | .copyConfirm c b i0 t => Sys2Proof.Machine.execCopyConfirm c b i0 t s
  | .serviceCopyReturn c b i0 replies safe t => Sys2Proof.Machine.execServiceCopyReturn c b i0 replies safe t s
  | .discoveryCopyReturn c b i0 hops recs t => Sys2Proof.Machine.execDiscoveryCopyReturn c b i0 hops recs t s
  | .delayCopyReturn c b i0 round hops recs t => Sys2Proof.Machine.execDelayCopyReturn c b i0 round hops recs t s
  | .claimFrameReceived c f t => Sys2Proof.Machine.execClaimFrameReceived c f t s
  | .beaconReceived c f t => Sys2Proof.Machine.execBeaconReceived c f t s
  | .foreignFrame c => Sys2Proof.Machine.execForeignFrame c s
  | .passThroughForward c f t => Sys2Proof.Machine.execPassThroughForward c f t s
  | .linkUp c right t => Sys2Proof.Machine.execLinkUp c right t s
  | .linkDown c right t => Sys2Proof.Machine.execLinkDown c right t s
  | .phyStatusPoll up t => Sys2Proof.Machine.execPhyStatusPoll up t s
  | .listenEnd => Sys2Proof.Machine.execListenEnd s
  | .claimPeriod => Sys2Proof.Machine.execClaimPeriod s
  | .ppsEdge t => Sys2Proof.Machine.execPpsEdge t s
  | .rateStep => Sys2Proof.Machine.execRateStep s
  | .leaseRenewal => Sys2Proof.Machine.execLeaseRenewal s
  | .silenceCheck => Sys2Proof.Machine.execSilenceCheck s
  | .leaseLapse => Sys2Proof.Machine.execLeaseLapse s
  | .takeover => Sys2Proof.Machine.execTakeover s
  | .heartbeatReceived seq t => Sys2Proof.Machine.execHeartbeatReceived seq t s
  | .syncLinkLock peer => Sys2Proof.Machine.execSyncLinkLock peer s
  | .syncLinkChange lanes => Sys2Proof.Machine.execSyncLinkChange lanes s
  | .copyControlBlock cb recs precs t => Sys2Proof.Machine.execCopyControlBlock cb recs precs t s
  | .forwardedChange gen x t => Sys2Proof.Machine.execForwardedChange gen x t s
  | .configRefreshDone gen => Sys2Proof.Machine.execConfigRefreshDone gen s
  | .memberHealth m ok cycle t => Sys2Proof.Machine.execMemberHealth m ok cycle t s
  | .leaseGrant g t => Sys2Proof.Machine.execLeaseGrant g t s
  | .memberLost m => Sys2Proof.Machine.execMemberLost m s
  | .memberJoined m id dup => Sys2Proof.Machine.execMemberJoined m id dup s
  | .claimReport m won => Sys2Proof.Machine.execClaimReport m won s
  | .bridgeChange otherWay => Sys2Proof.Machine.execBridgeChange otherWay s
  | .bridgeResponse m tag opcode status p => Sys2Proof.Machine.execBridgeResponse m tag opcode status p s
  | .swapAck e => Sys2Proof.Machine.execSwapAck e s
  | .swapDue => Sys2Proof.Machine.execSwapDue s
  | .dispatch x => Sys2Proof.Machine.execDispatch x s
  | .spillReturn level => Sys2Proof.Machine.execSpillReturn level s
  | .itemComplete x occ residueOk t => Sys2Proof.Machine.execItemComplete x occ residueOk t s
  | .release flow t => Sys2Proof.Machine.execRelease flow t s
  | .itemDeadline => Sys2Proof.Machine.execItemDeadline s
  | .dispatchAckTimeout x => Sys2Proof.Machine.execDispatchAckTimeout x s
  | .occupancyLimit x => Sys2Proof.Machine.execOccupancyLimit x s
  | .limitDebounced n positive l => Sys2Proof.Machine.execLimitDebounced n positive l s
  | .pulseInputStep n s0 t => Sys2Proof.Machine.execPulseInputStep n s0 t s
  | .stepPulse n => Sys2Proof.Machine.execStepPulse n s
  | .stepRateExpiry n => Sys2Proof.Machine.execStepRateExpiry n s
  | .encoderRequest n => Sys2Proof.Machine.execEncoderRequest n s
  | .encoderRequestEdge n t => Sys2Proof.Machine.execEncoderRequestEdge n t s
  | .encoderStartEdge n t => Sys2Proof.Machine.execEncoderStartEdge n t s
  | .encoderTimeout n => Sys2Proof.Machine.execEncoderTimeout n s
  | .encoderWordDone n bits => Sys2Proof.Machine.execEncoderWordDone n bits s
  | .quadratureEdge n e t => Sys2Proof.Machine.execQuadratureEdge n e t s
  | .incrementalLatch n => Sys2Proof.Machine.execIncrementalLatch n s
  | .indexEdge n t => Sys2Proof.Machine.execIndexEdge n t s
  | .captureEdge n level t => Sys2Proof.Machine.execCaptureEdge n level t s
  | .adcTimeTrigger x => Sys2Proof.Machine.execAdcTimeTrigger x s
  | .conversionDone x v => Sys2Proof.Machine.execConversionDone x v s
  | .mainsCrossing x t => Sys2Proof.Machine.execMainsCrossing x t s
  | .mainsLockTimeout x => Sys2Proof.Machine.execMainsLockTimeout x s
  | .refSettled x => Sys2Proof.Machine.execRefSettled x s
  | .envKeyTimeout => Sys2Proof.Machine.execEnvKeyTimeout s
  | .envLockoutEnd => Sys2Proof.Machine.execEnvLockoutEnd s
  | .envPathTimeout => Sys2Proof.Machine.execEnvPathTimeout s
  | .envWeFall => Sys2Proof.Machine.execEnvWeFall s
  | .envSealUpdateDone => Sys2Proof.Machine.execEnvSealUpdateDone s
  | .sealCheck => Sys2Proof.Machine.execSealCheck s
  | .safeCycleStart rc => Sys2Proof.Machine.execSafeCycleStart rc s
  | .safeEvaluation v => Sys2Proof.Machine.execSafeEvaluation v s
  | .safeExchangeTimeout => Sys2Proof.Machine.execSafeExchangeTimeout s
  | .safeInputSample a b => Sys2Proof.Machine.execSafeInputSample a b s
  | .siDiscrepancy m => Sys2Proof.Machine.execSiDiscrepancy m s
  | .restartSample r => Sys2Proof.Machine.execRestartSample r s
  | .restartStuck => Sys2Proof.Machine.execRestartStuck s
  | .offPulseTest pair sideB r => Sys2Proof.Machine.execOffPulseTest pair sideB r s
  | .outTestFail pair sideB level => Sys2Proof.Machine.execOutTestFail pair sideB level s
  | .canFrameReceived n f t => Sys2Proof.Machine.execCanFrameReceived n f t s
  | .referenceMessage n f t => Sys2Proof.Machine.execReferenceMessage n f t s
  | .canTxOffer n => Sys2Proof.Machine.execCanTxOffer n s
  | .canTxDone n t => Sys2Proof.Machine.execCanTxDone n t s
  | .canError n e => Sys2Proof.Machine.execCanError n e s
  | .canRecoveryDone n => Sys2Proof.Machine.execCanRecoveryDone n s
  | .ttBasicCycle n => Sys2Proof.Machine.execTtBasicCycle n s
  | .ttWindowStart n w free_ => Sys2Proof.Machine.execTtWindowStart n w free_ s
  | .ttWindowMiss n w => Sys2Proof.Machine.execTtWindowMiss n w s
  | .referenceTimeout n => Sys2Proof.Machine.execReferenceTimeout n s
  | .arbiterGrant r => Sys2Proof.Machine.execArbiterGrant r s
  | .arbCutoff r => Sys2Proof.Machine.execArbCutoff r s
  | .traceRecordWrite => Sys2Proof.Machine.execTraceRecordWrite s
  | .faultLogWrite => Sys2Proof.Machine.execFaultLogWrite s
  | .supervisorHeartbeat => Sys2Proof.Machine.execSupervisorHeartbeat s
  | .hardwareWatchdog => Sys2Proof.Machine.execHardwareWatchdog s
  | .oscFault lost ppm => Sys2Proof.Machine.execOscFault lost ppm s
  | .supplyDetector rail mv => Sys2Proof.Machine.execSupplyDetector rail mv s
  | .tempDetector tj => Sys2Proof.Machine.execTempDetector tj s
  | .vbatLow mv => Sys2Proof.Machine.execVbatLow mv s
  | .memEccError area uncorrectable off => Sys2Proof.Machine.execMemEccError area uncorrectable off s
  | .scrubPass corrected => Sys2Proof.Machine.execScrubPass corrected s
  | .porstLow => Sys2Proof.Machine.execPorstLow s
  | .resetEnd s0 => Sys2Proof.Machine.execResetEnd s0 s
  | .sysResetExpiry => Sys2Proof.Machine.execSysResetExpiry s
  | .railPowerFail vbat => Sys2Proof.Machine.execRailPowerFail vbat s
  | .railsInRange => Sys2Proof.Machine.execRailsInRange s
  | .bbrSupplyChangeover toVbat => Sys2Proof.Machine.execBbrSupplyChangeover toVbat s
  | .vbatPowerOnClear => Sys2Proof.Machine.execVbatPowerOnClear s
  | .bankWake => Sys2Proof.Machine.execBankWake s
  | .memoryClearDone => Sys2Proof.Machine.execMemoryClearDone s
  | .imageVerified h => Sys2Proof.Machine.execImageVerified h s
  | .selfTestDone fail => Sys2Proof.Machine.execSelfTestDone fail s
  | .bootDone => Sys2Proof.Machine.execBootDone s
  | .extestExit => Sys2Proof.Machine.execExtestExit s
  | .flashOperationDone r => Sys2Proof.Machine.execFlashOperationDone r s
  | .coreTestDone x passed => Sys2Proof.Machine.execCoreTestDone x passed s
  | .modeSetTimeout => Sys2Proof.Machine.execModeSetTimeout s
  | .forwardedCommand h opcode p => Sys2Proof.Machine.execForwardedCommand h opcode p s
  | .claimOrder step value => Sys2Proof.Machine.execClaimOrder step value s
  | .memberEvent m n a16 a32 time => Sys2Proof.Machine.execMemberEvent m n a16 a32 time s
  | .mirroredEvent m n a16 a32 time => Sys2Proof.Machine.execMirroredEvent m n a16 a32 time s
  | .copyAcknowledge seq => Sys2Proof.Machine.execCopyAcknowledge seq s
  | .refreshRequest => Sys2Proof.Machine.execRefreshRequest s
  | .swapNotice e => Sys2Proof.Machine.execSwapNotice e s
  | .referencesLost n => Sys2Proof.Machine.execReferencesLost n s
  | .extestEntry => Sys2Proof.Machine.execExtestEntry s

end Sys2Proof.Machine
end

