-- ==== Sys2Proof/Machine/Tick.lean ====
section
/-!
DEFINITION. One tick of the time base (R14): what passes when no command waits.
-/
namespace Sys2Proof.Machine

/-- One 5 ns tick: the nanosecond counter with its 32-bit fraction takes the current increment (R14), in every mode in which the
time base runs (Table 18.1). -/
def Clk.tick (c : Clk) : Clk := c.after 1

/-- One tick of the device. -/
def State.tick (s : State) : State := if s.md.mode.timed then { s with clk := s.clk.tick } else s

end Sys2Proof.Machine
end

