-- ==== Sys2Proof/Machine/Balls.lean ====
section
/-!
DEFINITION. What the balls of the device show: chain ports, PHY resets and motion outputs by mode (R56, R60, R290, R320, R437,
R438), and the identity at the test access port (R458). SYS_FAULT# is `State.sysFault`, HIRQ0 and HIRQ1 are `Irq.hirq`, the safe outputs are `Safe.sideA` and `Safe.sideB`.
-/
namespace Sys2Proof.Machine

/-- IDCODE at the test access port: stepping B1, part number, manufacturer identity and 1 (R458). -/
def idcode : Word := wd (at_ 28 0x2 + at_ 12 0x4128 + at_ 1 0x3A5 + 1)

/-- DORMANT, RESET and BOOT: the device is absent (Table 18.11). -/
def Mode.absent (m : Mode) : Bool := m == .dormant || m == .reset || m == .boot

/-- A chain port is dark (R60, Table 3.2): no layer chosen, a chain that is off, an absent device, or CONFIGURE without
pass-through. -/
def State.portDark (s : State) (c : Nat) (right : Bool) : Bool :=
  fld ((s.ch c).portW right) 1 0 == 0 || !(s.ch c).enabled || s.md.mode.absent || (s.md.mode == .configure && !s.forwards c)

/-- PPn_PHYRST# is driven low: its parallel port is dark, by its mode or because the chain port uses another layer or none, and the
device is not DORMANT, where it is undriven (R60, R437). -/
def State.phyReset (s : State) (c : Nat) (right : Bool) : Bool :=
  (s.portDark c right || decide (fld ((s.ch c).portW right) 1 0 < 2)) && s.md.mode != .dormant

/-- STPn, DIRn, CPOn and ENCnA in serial mode are driven: never by an absent device, and of a twin pair by the active alone
(R290, R437); after a lapse they stay high-impedance (R295). -/
def State.drivesMotion (s : State) : Bool := !s.md.mode.absent && !s.md.lapsed && (!s.twin.enable || s.md.mode.heads)

/-- CANn_TX is recessive whatever the bus does: the port does not run (R320, R437). -/
def State.canSilent (s : State) (n : Nat) : Bool := !(s.canPort n).active

end Sys2Proof.Machine
end

