-- ==== Sys2Proof/Safety.lean ====
section
/-!
DEFINITION. What counts as a safe run of the block: no step stops it, and no output pair is energised against a zone in STO; and
the form in which the addressed memories are kept, and who may write them; and when a host command is taken and carried out at once.
-/
namespace Sys2Proof

/-- The step answers a next state. -/
def StepsOn (s : Machine.State) : Prop := ∃ t, Machine.step s = .next t

/-- No side of pair n is energised while a zone it serves is in STO (R259), but for the zones whose pairs the test of a re-arming edge
energises for 10 ms (R276). -/
def PairsSafe (s : Machine.State) : Prop :=
  ∀ n, n < 4 → (s.safe.sideA.testBit n = true ∨ s.safe.sideB.testBit n = true) →
    s.safe.pairZones n &&& (s.safe.sto - (s.safe.sto &&& s.safe.test.zones)) = 0

/-- Both addressed memories are in the canonical form (R350, R426, R427): equal memories are equal data. -/
def Machine.Rams.Ok (m : Machine.Rams) : Prop := m.trace.wf = true ∧ m.exch.wf = true

/-- The rows whose effect may write trace or exchange memory: the engines' writes, completed items and released
chunks (R189, R385, R390, R396), the boundary, which takes set-points and lets held accesses go on (R351), the host's accesses, and
the clears of R427 and R447. -/
def Instr.writesRams : Instr → Bool
  | .itemComplete _ _ _ _ => true
  | .release _ _ => true
  | .cycleBoundary _ => true
  | .traceRecordWrite => true
  | .qspiWrite _ _ _ => true
  | .pcieMemoryAccess _ => true
  | .canTxEntryOwn _ _ _ _ _ _ _ => true
  | .memoryClearDone => true
  | .railPowerFail _ => true
  | _ => false

/-- Command `i` carried out in state `s` leaves state `t`. -/
def Goes (i : Instr) (s t : Machine.State) : Prop := Machine.exec i s = .next t

/-- The state in which a host command's effect begins: its entry stands in the queue area and is charged to A6, both indices have
passed it, and a response slot is reserved (R351, R352, R354). -/
def Machine.State.entered (op : Nat) (h : Hdr) (p : List Word) (s : Machine.State) : Machine.State :=
  { s with budget := s.hostSpend (Machine.entryBytes p), host := { s.host with
      cmdMem := Machine.Tbl.putRange s.host.cmdMem (64 * (s.host.cmdTail % 64)) (Machine.hdrWords op h ++ p.take 62)
      cmdTail := (s.host.cmdTail + 1) % 128, cmdHead := (s.host.cmdHead + 1) % 128, reserved := s.host.reserved + 1 } }

/-- The state after command `op` has been answered in state `t` with a status and a payload. -/
def Machine.State.answered (t : Machine.State) (op : Nat) (h : Hdr) (st : Nat) (q : List Word) : Machine.State :=
  t.respond (Machine.refOf op h) st q

/-- A host command is taken as the host writes it and passes the checks of Table 14.8 up to those specific to it: the queues are
served, its entry fits the A6 budget (R351), nothing waits before it, a response slot is free, its header names this device, and the mode and the payload are those
the catalogue states; no other member has to be asked (R353 to R356, R370, R371). -/
structure Machine.Taken (c : Machine.HostCmd) (h : Hdr) (p : List Word) (s : Machine.State) : Prop where
  served : s.host.mbxReady = true
  empty : s.host.cmdCount = 0
  room : s.host.slotsUsed < 64
  fence : h.fence = true → s.host.reserved = 0
  keys : s.env.firstKey = none
  charged : s.entryWaits p = false
  ownPort : s.straps.lead = true
  plain : h.rsv = 0
  here : h.target.val = s.straps.cid
  len : h.len.toNat = p.length
  fits : p.length ≤ 62
  mode : c.modeStatus s.md.mode = 0
  valid : c.valid p = true
  alone : s.others = 0

end Sys2Proof
end

