-- ==== Sys2Proof/Certificates/Slice0/Obligations.lean ====
section
/-!
DEFINITION. The statements for the provers. Most say of each command of a group, under conditions on the state and the operands alone,
which next state it answers; an equation of states says at once what the command leaves alone. The words of a response and the effect on
the queues are in `State.entered` and `State.answered` (Safety); when a host command is carried out as it is written is `Taken`.
-/

open Sys2Proof Sys2Proof.Machine

/-! ## Steps, queues and refusals -/

/-- Taking the command at the front of the queue: a step is that command's effect on the rest (the model's own form of a step). -/
def Obligations.StepTakesFrontCommand : Prop :=
  ∀ (c : Instr) (rest : List Instr) (s : State), step { s with pending := c :: rest } = exec c { s with pending := rest }

/-- With no command waiting one 5 ns tick passes (DESIGN CHOICE, log entry 1): in a mode in which the time base runs, the nanosecond
counter with its 32-bit fraction takes 5 ns at the current rate (R14), and nothing else changes; in the other modes nothing does. -/
def Obligations.EmptyQueueIsOneTick : Prop :=
  ∀ s : State, s.pending = [] → s.clk.rate.natAbs ≤ 858993 → s.clk.frac < 2 ^ 32 → s.clk.tb < 2 ^ 64 →
    (s.md.mode.timed = false → step s = .next s) ∧
    (s.md.mode.timed = true → ∃ tb frac, frac < 2 ^ 32 ∧ tb < 2 ^ 64 ∧
      ((tb * 2 ^ 32 + frac : Nat) : Int) = ((s.clk.tb * 2 ^ 32 + s.clk.frac : Nat) + 5 * 2 ^ 32 + 5 * s.clk.rate) % 2 ^ 96 ∧
      step s = .next { s with clk := { s.clk with tb := tb, frac := frac } })

/-- An instant the block reads or acts at is a tick of its time base (R14, R15, R26): moving to the tick at or after `t` takes the least
number of ticks that brings the counter with its fraction to `t` or later, none where it stands there; moving to what has completed by
`t` takes the greatest number that leaves the nanosecond counter at or before `t`, none where it is there already; each tick is that of
EmptyQueueIsOneTick, and nothing but the counter and its fraction changes. -/
def Obligations.InstantsAreTicks : Prop :=
  ∀ (s : State) (t : Nat), s.clk.rate.natAbs ≤ 858993 → s.clk.frac < 2 ^ 32 → s.clk.tb < 2 ^ 63 → t < 2 ^ 63 →
    (∀ k, s.clk.after 0 = s.clk ∧ s.clk.after (k + 1) = (s.clk.after k).tick) ∧
    (∃ k, s.to t = { s with clk := s.clk.after k } ∧ 2 ^ 32 * t ≤ (s.clk.after k).total ∧
      ∀ j, j < k → (s.clk.after j).total < 2 ^ 32 * t) ∧
    (∃ k, s.by t = { s with clk := s.clk.after k } ∧ (k = 0 ∨ (s.clk.after k).tb ≤ t) ∧ t < (s.clk.after (k + 1)).tb)

/-- Every command of the table answers a next state in every state: none stops the block. -/
def Obligations.EveryCommandAnswersANextState : Prop :=
  ∀ (i : Instr) (s : State), ∃ t, Goes i s t

/-- Both addressed memories, and the CAN and boot-flash memories, are in their canonical form right after reset. -/
def Obligations.ResetMemoriesAreCanonical : Prop :=
  State.reset.mem.Ok ∧ State.reset.fw.flash.wf = true ∧ State.reset.can.p0.txMem.wf = true ∧ State.reset.can.p1.rxMem.wf = true

/-- INVARIANT: from every state whose addressed memories are in canonical form, a step leaves them in canonical form. -/
def Obligations.StepKeepsMemoriesCanonical : Prop :=
  ∀ s t : State, s.mem.Ok → step s = .next t → t.mem.Ok

/-- R356: a command that the catalogue refuses has no effect on the state in which it runs, and no payload. The statuses that are no
refusal are OK and COMMIT_LATE; the exceptions are those the rule lists: MODE.SET names the configuration at fault in one word,
MOVE.SET_STOP took effect for the axes not refused, AXIS.STATUS_READ returns its record with REMOVED. -/
def Obligations.RefusedCommandsHaveNoEffect : Prop :=
  ∀ c ∈ catalogue, ∀ (r : MsgRef) (p : List Word) (s t : State) (st : Nat) (q : List Word),
    c.execute r p s = .done st q t → st ≠ stOk → st ≠ stCommitLate →
      (c.opcode ≠ 0x0806 → t = s) ∧
      (c.opcode ≠ 0x0806 → c.opcode ≠ 0x0202 → ¬ (c.opcode = 0x0703 ∧ st = stRemoved) → q = []) ∧
      (c.opcode = 0x0202 → q = [] ∨ (st = stBadArg ∧ q.length = 1))

/-- Table 14.8: a command that stands at the head of a served, otherwise empty queue with a free response slot is judged in the
order of the table, and the first check that fails decides its status: a member's own port, `MSG.LEN` above 62, the header, the
mode, the payload. Its entry fits the A6 budget and nothing waits before it (R351). -/
def Obligations.FirstFailingCheckDecidesStatus : Prop :=
  ∀ c ∈ catalogue, ∀ (h : Hdr) (p : List Word) (s : State),
    s.host.mbxReady = true → s.host.cmdCount = 0 → s.host.slotsUsed < 64 → (h.fence = true → s.host.reserved = 0) →
    s.env.firstKey = none → s.entryWaits p = false → h.len.toNat = p.length →
    let u := s.entered c.opcode h p
    let answered (st : Nat) : Prop := hostCommand c h p s = u.answered c.opcode h st []
    (s.straps.lead = false → answered stNotLead) ∧
    (s.straps.lead = true → 62 < p.length → answered stLenTooLong) ∧
    (s.straps.lead = true → p.length ≤ 62 → (h.rsv ≠ 0 ∨ s.memberOk h.target.val = false ∨
        (c.lead = true ∧ h.target.val ≠ s.straps.cid)) → answered stBadArg) ∧
    (s.straps.lead = true → p.length ≤ 62 → h.rsv = 0 → h.target.val = s.straps.cid → c.modeStatus s.md.mode ≠ 0 →
        answered (c.modeStatus s.md.mode)) ∧
    (s.straps.lead = true → p.length ≤ 62 → h.rsv = 0 → h.target.val = s.straps.cid → c.modeStatus s.md.mode = 0 →
        c.valid p = false → answered stBadArg)

/-- A command whose entry would overfill the queue is not written: only `HS.DB_ERR` is set; while the queues are not served nothing
at all happens (R353, R361). An entry beyond what is left of A6 waits as accesses of the port, and its command is not taken (R37, R351). -/
def Obligations.FullOrUnservedQueueTakesNoCommand : Prop :=
  ∀ c ∈ catalogue, ∀ (h : Hdr) (p : List Word) (s : State), s.env.firstKey = none →
    (s.host.mbxReady = false → hostCommand c h p s = s) ∧
    (s.host.mbxReady = true → s.host.cmdCount = 64 → hostCommand c h p s = { s with host := { s.host with dbErr := true } }) ∧
    (s.host.mbxReady = true → s.host.cmdCount ≠ 64 → s.entryWaits p = true →
      hostCommand c h p s = s.holdEntry (hdrWords c.opcode h ++ p.take 62))

/-! ## Reads answer -/

/-- SYS.IDENT, SYS.NOP, MODE.READ, GEAR.READ and TIME.READ, once taken, answer OK with the words of their tables and change nothing
but the queues (R10, R30, R367, R419, Tables 15.2 to 15.4 and 15.7). -/
def Obligations.SysModeGearTimeReadsAnswer : Prop :=
  ∀ (h : Hdr) (p : List Word) (s : State),
    (Taken sysIdentCmd h p s → Goes (.sysIdent h p) s ((s.entered 0x0101 h p).answered 0x0101 h 0
      [if s.host.fwRunning then 0x020303B1 else 0x000000B1, wd Config.serial, wd (Config.serial / 2 ^ 32), Config.serialHash,
       wd (s.straps.cid + bitAt 2 s.straps.lead + bitAt 3 s.straps.hsel + bitAt 4 s.straps.side + at_ 5 s.straps.bootsel)])) ∧
    (Taken sysNopCmd h p s → Goes (.sysNop h p) s ((s.entered 0x0103 h p).answered 0x0103 h 0 p)) ∧
    (Taken modeReadCmd h p s → Goes (.modeRead h p) s ((s.entered 0x0201 h p).answered 0x0201 h 0
      [wd (s.md.mode.code + bitAt 3 s.md.lapsed + at_ 4 s.md.cause), wd s.md.atCycle, wd (s.md.atCycle / 2 ^ 32)])) ∧
    (Taken gearReadCmd h p s → s.pend.shift = none → Goes (.gearRead h p) s ((s.entered 0x0301 h p).answered 0x0301 h 0
      [wd s.clk.gear, 0, 0, wd s.tc])) ∧
    (∀ x : Shift, Taken gearReadCmd h p s → s.pend.shift = some x → Goes (.gearRead h p) s ((s.entered 0x0301 h p).answered 0x0301 h 0
      [wd (s.clk.gear + at_ 3 x.gear), wd x.e, wd (x.e / 2 ^ 32), wd s.tc])) ∧
    (Taken timeReadCmd h p s → s.clk.ppsLast = none → Goes (.timeRead h p) s ((s.entered 0x0601 h p).answered 0x0601 h 0
      [wd s.clk.tb, wd (s.clk.tb / 2 ^ 32), wd s.clk.cycle, wd (s.clk.cycle / 2 ^ 32), wdi s.clk.rate,
       wd (b2n s.clk.stepped + bitAt 2 s.twin.timeLock + bitAt 3 s.clk.staged.isSome)])) ∧
    (∀ t : Nat, Taken timeReadCmd h p s → s.clk.ppsLast = some t → Goes (.timeRead h p) s ((s.entered 0x0601 h p).answered 0x0601 h 0
      [wd s.clk.tb, wd (s.clk.tb / 2 ^ 32), wd s.clk.cycle, wd (s.clk.cycle / 2 ^ 32), wdi s.clk.rate,
       wd (b2n s.clk.stepped + bitAt 1 (decide (s.clk.tb ≤ t + 1100000000)) + bitAt 2 s.twin.timeLock + bitAt 3 s.clk.staged.isSome)]))

/-- The reads of chains and tables, once taken, answer OK with the words of their tables, and change nothing but the queues; a
counter read with `SEL.CLEAR` also clears the counts, not the wrap addresses (R61, R89, R90, R106, R122, R135, Tables 15.5, 15.6). -/
def Obligations.ChainAndTableReadsAnswer : Prop :=
  ∀ (h : Hdr) (p : List Word) (s : State),
    let c := selChain p
    (Taken chainCfgReadCmd h p s → Goes (.chainCfgRead h p) s ((s.entered 0x0402 h p).answered 0x0402 h 0
      [(s.ch c).cfg, (s.ch c).portL, (s.ch c).portR])) ∧
    (Taken chainSupvReadCmd h p s → Goes (.chainSupvRead h p) s ((s.entered 0x0406 h p).answered 0x0406 h 0
      [wd (s.ch c).emptyTh, (s.ch c).guard0, (s.ch c).guard1, (s.ch c).missAt])) ∧
    (Taken chainDescReadCmd h p s → (s.nd c (selItem p)).descParts = 15 →
      Goes (.chainDescRead h p) s ((s.entered 0x0409 h p).answered 0x0409 h 0 (packWords 16 (s.nd c (selItem p)).desc))) ∧
    (Taken chainDescReadCmd h p s → (s.nd c (selItem p)).descParts ≠ 15 →
      Goes (.chainDescRead h p) s ((s.entered 0x0409 h p).answered 0x0409 h stBusy [])) ∧
    (Taken chainCensusReadCmd h p s → ∃ hops recs, hops = (if selSub p = 1 then (s.ch c).ring.hopsB else (s.ch c).ring.hopsA) ∧
      recs = (if selSub p = 1 then (s.ch c).ring.censusB else (s.ch c).ring.censusA) ∧
      Goes (.chainCensusRead h p) s ((s.entered 0x040A h p).answered 0x040A h 0
        (wd hops :: (List.range (selCount p)).flatMap (fun j => packWords 2 (censusBytes recs[selItem p + j]?))))) ∧
    (Taken chainDelayReadCmd h p s → Goes (.chainDelayRead h p) s ((s.entered 0x040B h p).answered 0x040B h 0
      [(s.nd c (selItem p)).dA, (s.nd c (selItem p)).dB])) ∧
    (Taken diagChainCountersCmd h p s → selClear p = false →
      Goes (.diagChainCounters h p) s ((s.entered 0x1703 h p).answered 0x1703 h 0 (s.ch c).counters.words)) ∧
    (Taken diagChainCountersCmd h p s → selClear p = true →
      Goes (.diagChainCounters h p) s (((s.entered 0x1703 h p).updCh c (fun x => { x with counters :=
        { wrapA := x.counters.wrapA, wrapB := x.counters.wrapB } })).answered 0x1703 h 0 (s.ch c).counters.words)) ∧
    (∀ (act : Bool) (t : Tables), Taken tableReadCmd h p s → selActive p = act →
      t = (if act then (s.ch c).active else (s.ch c).shadow) →
      (selSub p = 0 → Goes (.tableRead h p) s ((s.entered 0x0505 h p).answered 0x0505 h 0
        (Tbl.getRange 0 t.win (2 * selItem p) (2 * selCount p)))) ∧
      (selSub p = 1 → Goes (.tableRead h p) s ((s.entered 0x0505 h p).answered 0x0505 h 0
        (Tbl.getRange 0 t.map (selItem p) (selCount p)))) ∧
      (selSub p = 2 → Goes (.tableRead h p) s ((s.entered 0x0505 h p).answered 0x0505 h 0
        (Tbl.getRange 0 t.node (4 * selItem p) (4 * selCount p)))) ∧
      (selSub p = 3 → act = true → Goes (.tableRead h p) s ((s.entered 0x0505 h p).answered 0x0505 h 0
        (Tbl.getRange 0 s.budget.active 0 8 ++ [s.budget.activeW5]))) ∧
      (selSub p = 3 → act = false → Goes (.tableRead h p) s ((s.entered 0x0505 h p).answered 0x0505 h 0
        (Tbl.getRange 0 s.budget.shadow 0 8 ++ [s.budget.shadowW5]))))

/-- The reads of an axis, once taken, answer with the words of their tables and change nothing but the queues, unless `SEL.CLEAR`
clears the counts read; ENV.READ brings the level of ENV_WE and checks
the seal of the envelope (R254, R434). AXIS.STATUS_READ answers REMOVED, with its record, after a move that ended by removal (R149, R157, R206,
R211, R215, R253, R356, Tables 9.4, 15.8, 15.11 and 15.13). -/
def Obligations.AxisReadsAnswer : Prop :=
  ∀ (h : Hdr) (p : List Word) (s : State),
    let i := selItem p
    let x := s.ax i
    (Taken axisStatusReadCmd h p s → ∃ st, st = (if x.gen.endCause = 3 then stRemoved else stOk) ∧
      Goes (.axisStatusRead h p) s ((s.entered 0x0703 h p).answered 0x0703 h st (x.statusWords ++
        [wd (b2n x.enabled + bitAt 1 x.enSent + bitAt 2 (s.inSto i) + bitAt 3 x.fb.held + bitAt 4 x.gen.pend.isSome)]))) ∧
    (Taken axisPrfCfgReadCmd h p s → Goes (.axisPrfCfgRead h p) s ((s.entered 0x0705 h p).answered 0x0705 h 0 [x.prf0, x.prf1, x.prf2])) ∧
    (Taken axisStreamInfoCmd h p s → Goes (.axisStreamInfo h p) s ((s.entered 0x0707 h p).answered 0x0707 h 0 [wd (0x4FC000 + 64 * i)])) ∧
    (∀ w, Taken loopCfgReadCmd h p s → w = x.srcNext.getD x.cfg0 →
      Goes (.loopCfgRead h p) s ((s.entered 0x0902 h p).answered 0x0902 h 0 [w, x.cfg1, x.cfg2])) ∧
    (∀ c : CoefSet, Taken loopCoefReadCmd h p s → c = (if selActive p then x.act else x.sh) → bit (pw p 1) 5 = true →
      Goes (.loopCoefRead h p) s ((s.entered 0x0908 h p).answered 0x0908 h 0 (wd (c.gear + bitAt 3 c.ready) :: Tbl.getRange 0 c.p 0 8))) ∧
    (∀ c : CoefSet, Taken loopCoefReadCmd h p s → c = (if selActive p then x.act else x.sh) → bit (pw p 1) 5 = false →
      Goes (.loopCoefRead h p) s ((s.entered 0x0908 h p).answered 0x0908 h 0 (wd (c.gear + bitAt 3 c.ready) ::
        (List.range (selCount p)).flatMap (fun j => [Tbl.get 0 c.m (fld (pw p 1) 4 0 + j), Tbl.get 0 c.s (fld (pw p 1) 4 0 + j)])))) ∧
    (∀ u : State, u = s.seesWe h.we → Taken envReadCmd h p u → Goes (.envRead h p) s (((u.entered 0x0D01 h p).checkSeal 1 false).answered 0x0D01 h 0
      (wd (bitAt 0 (s.bbr.sealOk 1) + bitAt 1 s.env.unlocked + bitAt 2 (h.we || s.env.we)) :: Tbl.getRange 0 s.bbr.words (0x100 + 2 * i) (2 * selCount p)))) ∧
    (Taken envClampReadCmd h p s → selClear p = false → Goes (.envClampRead h p) s ((s.entered 0x0D02 h p).answered 0x0D02 h 0
      [wd x.cnt.clamps, wd (b2n (s.faults.get 7 i).lasting.isSome)])) ∧
    (Taken envClampReadCmd h p s → selClear p = true → Goes (.envClampRead h p) s
      (((s.entered 0x0D02 h p).updAx i (fun a => { a with cnt := { a.cnt with clamps := 0 } })).answered 0x0D02 h 0
        [wd x.cnt.clamps, wd (b2n (s.faults.get 7 i).lasting.isSome)])) ∧
    (Taken diagLoopCountersCmd h p s → selClear p = false → Goes (.diagLoopCounters h p) s ((s.entered 0x1706 h p).answered 0x1706 h 0
      [wd x.cnt.held, wd x.cnt.late, wd x.cnt.usat, wd x.cnt.isat])) ∧
    (Taken diagLoopCountersCmd h p s → selClear p = true → Goes (.diagLoopCounters h p) s
      (((s.entered 0x1706 h p).updAx i (fun a => { a with cnt := { clamps := a.cnt.clamps } })).answered 0x1706 h 0
        [wd x.cnt.held, wd x.cnt.late, wd x.cnt.usat, wd x.cnt.isat]))

/-- The reads of pulse ports, captures, feedback ports and converters, once taken, answer OK with the words of their tables; they
change nothing but the queues and what the tables say a read clears (Tables 10.3, 10.8, 15.7, 15.12 and 15.13). -/
def Obligations.PortReadsAnswer : Prop :=
  ∀ (h : Hdr) (p : List Word) (s : State),
    let n := selItem p
    let y := selSub p
    (Taken pulseReadCmd h p s → selClear p = false → Goes (.pulseRead h p) s ((s.entered 0x0A03 h p).answered 0x0A03 h 0
      [wdi (s.pin n).count, wdi (s.stp n).pos, wd (s.stp n).suppressed, wd (s.pin n).errs])) ∧
    (Taken pulseReadCmd h p s → selClear p = true → Goes (.pulseRead h p) s
      ((((s.entered 0x0A03 h p).setPin n { s.pin n with errs := 0 }).setStp n { s.stp n with suppressed := 0 }).answered 0x0A03 h 0
        [wdi (s.pin n).count, wdi (s.stp n).pos, wd (s.stp n).suppressed, wd (s.pin n).errs])) ∧
    (∀ k : Capture, Taken timeCapReadCmd h p s → k = Tbl.get {} s.pins.cap n → selClear p = false →
      Goes (.timeCapRead h p) s (({ s.entered 0x0606 h p with pins := { s.pins with cap := Tbl.put s.pins.cap n { k with seen := false } } } :
        State).answered 0x0606 h 0 [wd k.time, wd (k.time / 2 ^ 32), wd k.count, wd (b2n k.level + bitAt 1 k.more)])) ∧
    (∀ k : Capture, Taken timeCapReadCmd h p s → k = Tbl.get {} s.pins.cap n → selClear p = true →
      Goes (.timeCapRead h p) s (({ s.entered 0x0606 h p with pins := { s.pins with
        cap := Tbl.put s.pins.cap n { k with count := 0, more := false, seen := false } } } : State).answered 0x0606 h 0
          [wd k.time, wd (k.time / 2 ^ 32), wd k.count, wd (b2n k.level + bitAt 1 k.more)])) ∧
    (Taken feedbackCfgReadCmd h p s → Goes (.feedbackCfgRead h p) s ((s.entered 0x0B02 h p).answered 0x0B02 h 0
      [(s.fbp n).w0, (s.fbp n).w1, (s.fbp n).w2, (s.fbp n).w3, (s.fbp n).w4])) ∧
    (Taken feedbackResultReadCmd h p s → Goes (.feedbackResultRead h p) s
      (((s.entered 0x0B03 h p).setFb n { s.fbp n with res := { (s.fbp n).res with zSeen := false } }).answered 0x0B03 h 0 (s.fbp n).res.words)) ∧
    (Taken adcResultReadCmd h p s → Goes (.adcResultRead h p) s ((s.entered 0x0C04 h p).answered 0x0C04 h 0
      (Tbl.getRange 0 (s.conv y).res (2 * n) (2 * selCount p)))) ∧
    (Taken adcStatReadCmd h p s → selClear p = false → Goes (.adcStatRead h p) s ((s.entered 0x0C05 h p).answered 0x0C05 h 0
      (s.conv y).statWords)) ∧
    (Taken adcStatReadCmd h p s → selClear p = true → Goes (.adcStatRead h p) s
      (((s.entered 0x0C05 h p).setConv y { s.conv y with skip := 0 }).answered 0x0C05 h 0 (s.conv y).statWords))

/-- The reads of the safety unit, the twin, the cluster and CAN, once taken, answer OK with the words of their tables; only
DIAG.CAN_COUNTERS with `SEL.CLEAR` changes anything but the queues: it clears the counters of its port (R261, R268, R321, R343,
R381, Tables 12.10 and 15.14 to 15.16). -/
def Obligations.SafeTwinCanReadsAnswer : Prop :=
  ∀ (h : Hdr) (p : List Word) (s : State),
    let f := s.safe
    let q := s.canPort (selSub p)
    (Taken safeReadCmd h p s →
      (selSub p = 0 → Goes (.safeRead h p) s ((s.entered 0x0E05 h p).answered 0x0E05 h 0 [f.w0, f.w1, f.cfgId])) ∧
      (selSub p = 1 → Goes (.safeRead h p) s ((s.entered 0x0E05 h p).answered 0x0E05 h 0
        ((List.range (selCount p)).map (fun k => f.zn (selItem p + k))))) ∧
      (selSub p = 2 → Goes (.safeRead h p) s ((s.entered 0x0E05 h p).answered 0x0E05 h 0
        (Tbl.getRange 0 f.axis (3 * selItem p) (3 * selCount p)))) ∧
      (selSub p = 3 → Goes (.safeRead h p) s ((s.entered 0x0E05 h p).answered 0x0E05 h 0
        ((List.range (selCount p)).map (fun k => f.siw (selItem p + k)))))) ∧
    (Taken safeStatusCmd h p s → Goes (.safeStatus h p) s ((s.entered 0x0E08 h p).answered 0x0E08 h 0 f.statusWords)) ∧
    (Taken twinStatusCmd h p s → Goes (.twinStatus h p) s ((s.entered 0x0F02 h p).answered 0x0F02 h 0 (s.twinStat ++ [s.twinCfgId]))) ∧
    (Taken clusterStatusCmd h p s → Goes (.clusterStatus h p) s ((s.entered 0x1002 h p).answered 0x1002 h 0
      [wd (s.clu.joined % 16 + at_ 4 (s.clu.lost % 16) + bitAt 8 s.clu.otherWay), wd s.clu.offsets])) ∧
    (Taken canInfoCmd h p s → Goes (.canInfo h p) s ((s.entered 0x1107 h p).answered 0x1107 h 0
      [wd (Config.canTxOffset (selSub p)), wd (Config.canRxOffset (selSub p))])) ∧
    (Taken canReadCmd h p s →
      (fld (pw p 1) 1 0 = 0 → Goes (.canRead h p) s ((s.entered 0x1108 h p).answered 0x1108 h 0
        [q.cfg.w0, q.cfg.w1, q.cfg.w2, q.cfg.w3, q.cfg.w4])) ∧
      (fld (pw p 1) 1 0 = 1 → Goes (.canRead h p) s ((s.entered 0x1108 h p).answered 0x1108 h 0
        (Tbl.getRange 0 q.win (2 * selItem p) (2 * selCount p)))) ∧
      (fld (pw p 1) 1 0 = 2 → Goes (.canRead h p) s ((s.entered 0x1108 h p).answered 0x1108 h 0
        (Tbl.getRange 0 q.filt (2 * selItem p) (2 * selCount p)))) ∧
      (fld (pw p 1) 1 0 = 3 → Goes (.canRead h p) s ((s.entered 0x1108 h p).answered 0x1108 h 0 [s.can.s0, s.can.s1, s.can.s2]))) ∧
    (Taken diagCanCountersCmd h p s → selClear p = false →
      Goes (.diagCanCounters h p) s ((s.entered 0x1707 h p).answered 0x1707 h 0 q.cnt.words)) ∧
    (Taken diagCanCountersCmd h p s → selClear p = true →
      Goes (.diagCanCounters h p) s (((s.entered 0x1707 h p).setCan (selSub p) { q with cnt := {} }).answered 0x1707 h 0 q.cnt.words))

/-- The reads of the acquisition, filter jobs, fault classes, BBR, firmware slots and diagnostics, once taken, answer OK with the words
of their tables; they change nothing but the queues and what `SEL.CLEAR` clears, a finished job that JOB_STATUS reports is freed,
and a BBR read checks the seals of the regions it touches (R40, R44, R184, R196, R383, R398, R426, R434, Tables 15.17 to 15.20). -/
def Obligations.DiagnosticReadsAnswer : Prop :=
  ∀ (h : Hdr) (p : List Word) (s : State),
    (Taken traceStatusCmd h p s → Goes (.traceStatus h p) s ((s.entered 0x1206 h p).answered 0x1206 h 0 s.trace.statusWords)) ∧
    (∀ j, Taken filterJobStatusCmd h p s → j = fld (pw p 0) 5 0 → s.jobs.any (fun q => q.1 == j) = true → (s.job j).st < 2 →
      Goes (.filterJobStatus h p) s ((s.entered 0x1302 h p).answered 0x1302 h 0
        [wd ((s.job j).st + at_ 8 (ubits 8 (s.job j).exp)), wd (s.job j).chunks, wd (s.job j).len])) ∧
    (∀ j, Taken filterJobStatusCmd h p s → j = fld (pw p 0) 5 0 → s.jobs.any (fun q => q.1 == j) = true → 2 ≤ (s.job j).st →
      Goes (.filterJobStatus h p) s (({ s.entered 0x1302 h p with jobs := s.jobs.filter (fun q => q.1 != j) } : State).answered 0x1302 h 0
        [wd ((s.job j).st + at_ 8 (ubits 8 (s.job j).exp)), wd (s.job j).chunks, wd (s.job j).len])) ∧
    (∀ (c : Nat) (l : List Nat), Taken eventClassReadCmd h p s → c = fld (pw p 0) 7 0 → fixedReaction c = none → selClear p = false →
      l = s.faults.newest c → Goes (.eventClassRead h p) s ((s.entered 0x1402 h p).answered 0x1402 h 0
        ([wd ((s.faults.written c).n + at_ 8 (s.faults.written c).r), wd (s.faults.written c).w, wd (Tbl.get 0 s.faults.transient c)] ++
          (l ++ List.replicate (16 - l.length) 0).map wd))) ∧
    (∀ (c : Nat) (l : List Nat), Taken eventClassReadCmd h p s → c = fld (pw p 0) 7 0 → fixedReaction c = none → selClear p = true →
      l = s.faults.newest c → Goes (.eventClassRead h p) s (({ s.entered 0x1402 h p with faults := s.faults.clear c } : State).answered 0x1402 h 0
        ([wd ((s.faults.written c).n + at_ 8 (s.faults.written c).r), wd (s.faults.written c).w, wd (Tbl.get 0 s.faults.transient c)] ++
          (l ++ List.replicate (16 - l.length) 0).map wd))) ∧
    (∀ a n, Taken bbrReadCmd h p s → a = fld (pw p 0) 9 0 → n = fld (pw p 0) 21 16 → Goes (.bbrRead h p) s
      (((bbrTouches a n).foldl (fun t r => t.checkSeal r false) (s.entered 0x1501 h p)).answered 0x1501 h 0 (Tbl.getRange 0 s.bbr.words a n))) ∧
    (Taken fwInfoCmd h p s → Goes (.fwInfo h p) s ((s.entered 0x1604 h p).answered 0x1604 h 0 (s.slotInfo false ++ s.slotInfo true))) ∧
    (Taken diagActReadCmd h p s → selClear p = false → Goes (.diagActRead h p) s ((s.entered 0x1701 h p).answered 0x1701 h 0
      ((List.range (selCount p)).flatMap (fun j => s.budget.record (selItem p + j))))) ∧
    (Taken diagActReadCmd h p s → selClear p = true → Goes (.diagActRead h p) s
      (({ s.entered 0x1701 h p with budget := { (s.entered 0x1701 h p).budget with
          defer := Tbl.putRange s.budget.defer (selItem p) (List.replicate (selCount p) 0)
          drop := Tbl.putRange s.budget.drop (selItem p) (List.replicate (selCount p) 0) } } : State).answered 0x1701 h 0
        ((List.range (selCount p)).flatMap (fun j => s.budget.record (selItem p + j))))) ∧
    (Taken diagHeadroomReadCmd h p s → Goes (.diagHeadroomRead h p) s ((s.entered 0x1702 h p).answered 0x1702 h 0
      [wdi s.room.slackLast, wdi s.room.slackMin, wdi s.room.projLast, wdi s.room.projMin, wd (s.room.k + bitAt 16 s.room.beyond),
       s.budget.activeW5])) ∧
    (Taken diagSchedReadCmd h p s → selClear p = false →
      Goes (.diagSchedRead h p) s ((s.entered 0x1704 h p).answered 0x1704 h 0 s.sched.record)) ∧
    (Taken diagSchedReadCmd h p s → selClear p = true → Goes (.diagSchedRead h p) s
      (({ s.entered 0x1704 h p with sched := { s.sched with timeout := 0, spilled := 0, late := 0, spillPeak := s.sched.spillNowN
                                                            relPeak := s.sched.sharedUsed } } : State).answered 0x1704 h 0 s.sched.record)) ∧
    (∀ l : List Item, Taken diagQueueSnapshotCmd h p s → l = s.sched.level (selItem p) →
      Goes (.diagQueueSnapshot h p) s ((s.entered 0x1705 h p).answered 0x1705 h 0 (wd l.length ::
        (List.range (selCount p)).flatMap (fun j => match l[j]? with
          | some x => x.words
          | none => [0, 0, 0, 0])))) ∧
    (Taken diagMemStatusCmd h p s → selClear p = false → Goes (.diagMemStatus h p) s ((s.entered 0x1709 h p).answered 0x1709 h 0
      ((List.range 5).map (fun k => wd (Tbl.get 0 s.power.eccCorr k)) ++ [wd s.power.eccUnc, wd Config.repairUse.toNat]))) ∧
    (Taken diagMemStatusCmd h p s → selClear p = true → Goes (.diagMemStatus h p) s
      (({ s.entered 0x1709 h p with power := { s.power with eccCorr := [], eccUnc := 0 } } : State).answered 0x1709 h 0
        ((List.range 5).map (fun k => wd (Tbl.get 0 s.power.eccCorr k)) ++ [wd s.power.eccUnc, wd Config.repairUse.toNat])))

/-! ## Commands: system, modes, gears, chains, tables -/

/-- SYS.RESET, MODE.SET, GEAR.SET and GEAR.SHIFT, once taken, have their effect and answer OK: the reset is set for 100 µs later;
CONFIGURE that has lapsed ends its lapse; SYNC-UP goes dark and to CONFIGURE; a running head changes mode at the next boundary; a
gear is taken; a shift is pended with its effective cycle (R48 to R52, R374, R422). -/
def Obligations.SysModeGearCommandsTakeEffect : Prop :=
  ∀ (h : Hdr) (p : List Word) (s : State),
    (∀ u, Taken sysResetCmd h p s → bit (pw p 0) 1 = false → u = s.entered 0x0102 h p →
      Goes (.sysReset h p) s (({ u with md := { u.md with sysReset := some (bit (pw p 0) 0, s.clk.tb + 100000) } } : State).answered
        0x0102 h 0 [])) ∧
    (∀ u, Taken modeSetCmd h p s → fld (pw p 0) 2 0 = 3 → s.md.mode = .configure → s.md.lapsed = true → u = s.entered 0x0202 h p →
      Goes (.modeSet h p) s ((({ u with md := { u.md with lapsed := false, dark := false } } : State).canModes).answered 0x0202 h 0 [])) ∧
    (∀ u, Taken modeSetCmd h p s → fld (pw p 0) 2 0 = 3 → s.md.mode = .syncUp → u = s.entered 0x0202 h p →
      Goes (.modeSet h p) s ((({ u with md := { u.md with dark := true } } : State).enter .configure 0).answered 0x0202 h 0 [])) ∧
    (Taken modeSetCmd h p s → fld (pw p 0) 2 0 = 7 → s.md.mode = .runActive →
      Goes (.modeSet h p) s (((s.entered 0x0202 h p).modeAtBoundary .safeHold 0).answered 0x0202 h 0 [])) ∧
    (Taken modeSetCmd h p s → fld (pw p 0) 2 0 = 3 → s.md.mode = .runActive → (s.twin.enable && s.twin.ready) = false →
      (∀ i ∈ s.axisList, (s.ax i).stillOrHold = true) →
      Goes (.modeSet h p) s (((s.entered 0x0202 h p).modeAtBoundary .configure 0).answered 0x0202 h 0 [])) ∧
    (∀ u, Taken modeSetCmd h p s → fld (pw p 0) 2 0 = 3 → s.md.mode = .safeHold → s.safe.waitArm = none → u = s.entered 0x0202 h p →
      Goes (.modeSet h p) s { u with safe := { u.safe with waitArm := some (refOf 0x0202 h, s.clk.tb) } }) ∧
    (∀ u g, Taken gearSetCmd h p s → g = fld (pw p 0) 2 0 → s.limitsOk g s.ch0.active s.ch1.active = true → s.curAxesOk g = true →
      s.portsFit g = true → u = s.entered 0x0302 h p →
      Goes (.gearSet h p) s (({ u with clk := { u.clk with gear := g } } : State).answered 0x0302 h 0 [])) ∧
    (∀ u g e x y, Taken gearShiftCmd h p s → g = fld (pw p 0) 2 0 → e = w64 (pw p 1) (pw p 2) → s.pend.commit = none → s.pend.shift = none →
      s.pend.swap = none → (movingShift s.clk.gear g = true ∨ s.moving = []) → s.clk.b e % 1000000 = 0 → e ≤ s.clk.cycle + 32767 →
      s.limitsOk g { s.ch0.active with win := Tbl.putRange [] 0 ((p.drop 11).take 16) }
        { s.ch1.active with win := Tbl.putRange [] 0 ((p.drop 27).take 16) } = true → s.curAxesOk g = true →
      (movingShift s.clk.gear g = true → s.movingFit g = true) → s.setsFit g = true →
      s.tablesOk 0 (tcOf g) { s.ch0.active with win := Tbl.putRange [] 0 ((p.drop 11).take 16) } = true →
      s.tablesOk 1 (tcOf g) { s.ch1.active with win := Tbl.putRange [] 0 ((p.drop 27).take 16) } = true →
      s.portsFit g = true → (s.safe.configured = true → s.canTwinOk s.can.s1 (tcOf g) = true) →
      s.budgetStatus g (fun k => pw ((p.drop 3).take 8) k) s.budget.activeW5 = 0 →
      s.shiftEffect h.lag e = x → u = s.entered 0x0303 h p →
      y = ({ gear := g, e := x.1, budget := (p.drop 3).take 8, win0 := (p.drop 11).take 16, win1 := (p.drop 27).take 16, still := !movingShift s.clk.gear g } : Shift) →
      (x.2 = false → Goes (.gearShift h p) s ((({ u with pend := { u.pend with shift := some y } } : State).forward 0x0303 p (x.1 % 2 ^ 64)).answered
        0x0303 h stOk [wd x.1, wd (x.1 / 2 ^ 32)])))

/-- The writes of a chain's configuration and of the time commands, once taken, put their words in place, are forwarded to a twin
where they change the configuration, and answer OK; a chain configuration is taken where the limits of the gear allow it (R14, R30, R31, R26, R57, R61, R87, R104, R105, R111, R165, R305, R455). -/
def Obligations.ChainAndTimeWritesTakeEffect : Prop :=
  ∀ (h : Hdr) (p : List Word) (s : State),
    let c := selChain p
    (∀ t : State, Taken chainCfgWriteCmd h p s → t = s.updCh c (fun x => { x with cfg := pw p 1, portL := pw p 2, portR := pw p 3 }) →
      (t.limitsOk s.clk.gear t.ch0.active t.ch1.active = true → Goes (.chainCfgWrite h p) s ((((s.entered 0x0401 h p).updCh c (fun x =>
        { x with cfg := pw p 1, portL := pw p 2, portR := pw p 3 })).forward 0x0401 p 0).answered 0x0401 h 0 [])) ∧
      (t.limitsOk s.clk.gear t.ch0.active t.ch1.active = false → Goes (.chainCfgWrite h p) s ((s.entered 0x0401 h p).answered 0x0401 h stNoResource []))) ∧
    (Taken chainSupvWriteCmd h p s → Goes (.chainSupvWrite h p) s ((((s.entered 0x0403 h p).updCh c (fun x =>
      { x with emptyTh := fld (pw p 1) 15 0 })).forward 0x0403 p 0).answered 0x0403 h 0 [])) ∧
    (Taken chainGuardWriteCmd h p s → s.clk.begun = true → Goes (.chainGuardWrite h p) s ((((s.entered 0x0404 h p).updCh c (fun x =>
      { x with guard0 := pw p 1, guard1 := pw p 2 })).forward 0x0404 p 0).answered 0x0404 h 0 [])) ∧
    (Taken chainGuardWriteCmd h p s → s.clk.begun = false → Goes (.chainGuardWrite h p) s ((((s.entered 0x0404 h p).updCh c (fun x =>
      { x with guard0 := pw p 1, guard1 := pw p 2, guardNow0 := pw p 1, guardNow1 := pw p 2 })).forward 0x0404 p 0).answered 0x0404 h 0 [])) ∧
    (Taken chainMissAtWriteCmd h p s → fld (pw p 1) 23 0 < s.tc → s.clk.begun = true → Goes (.chainMissAtWrite h p) s
      ((((s.entered 0x0405 h p).updCh c (fun x => { x with missAt := pw p 1 })).forward 0x0405 p 0).answered 0x0405 h 0 [])) ∧
    (Taken chainMissAtWriteCmd h p s → s.tc ≤ fld (pw p 1) 23 0 → Goes (.chainMissAtWrite h p) s
      ((s.entered 0x0405 h p).answered 0x0405 h stBadArg [])) ∧
    (∀ u, Taken timeStageCmd h p s → bit (pw p 2) 1 = false → u = s.entered 0x0602 h p → Goes (.timeStage h p) s
      (({ u with clk := { u.clk with staged := some (w64 (pw p 0) (pw p 1)), ppsStep := bit (pw p 2) 0 } } : State).answered 0x0602 h 0 [])) ∧
    (∀ u, Taken timeStageCmd h p s → bit (pw p 2) 1 = true → u = s.entered 0x0602 h p → Goes (.timeStage h p) s
      (({ u with clk := { u.clk with staged := none, ppsStep := bit (pw p 2) 0 } } : State).answered 0x0602 h 0 [])) ∧
    (∀ u d, Taken timeRateCmd h p s → d = clampI (-214748) 214748 ((pw p 0).toInt - s.clk.rate) → u = s.entered 0x0603 h p →
      Goes (.timeRate h p) s (({ u with clk := { u.clk with rateReq := (pw p 0).toInt, rate := s.clk.rate + d } } : State).answered 0x0603 h 0 [])) ∧
    (∀ (u : State) (k : CyclePt), Taken timeCpWriteCmd h p s → fld (pw p 1) 23 0 < s.tc → u = s.entered 0x0604 h p →
      k = Tbl.get {} s.pins.cp (selItem p) → Goes (.timeCpWrite h p) s ((({ u with pins := { u.pins with
        cp := Tbl.put u.pins.cp (selItem p) { k with cfg := pw p 1, now := if s.clk.begun then k.now else pw p 1 } } } : State).forward
          0x0604 p 0).answered 0x0604 h 0 [])) ∧
    (∀ (u : State) (k k1 : Capture), Taken timeCapCfgCmd h p s → u = s.entered 0x0605 h p → k = Tbl.get {} s.pins.cap (selItem p) →
      k1 = { k with edge := fld (pw p 1) 1 0, edgeNow := if s.clk.begun then k.edgeNow else fld (pw p 1) 1 0 } →
      Goes (.timeCapCfg h p) s ((({ u with pins := { u.pins with cap := Tbl.put u.pins.cap (selItem p) k1 } } : State).forward
        0x0605 p 0).answered 0x0605 h 0 []))

/-- The table writes go to the shadow, and only where no commit or shift stands against them; a commit in CONFIGURE takes effect at
once, one in RUN-ACTIVE is pended with its effective cycle, on time with OK and late with COMMIT_LATE and event 43; a service
request of the host waits for its node (R34, R90, R94 to R100, R102, R372, R375, R376). -/
def Obligations.TableAndNodeCommandsTakeEffect : Prop :=
  ∀ (h : Hdr) (p : List Word) (s : State),
    let c := selChain p
    (Taken tableWinWriteCmd h p s → s.commitNames c = false → s.pend.shift = none → Goes (.tableWinWrite h p) s
      ((((s.entered 0x0501 h p).updCh c (fun x => { x with shadow := { x.shadow with win := Tbl.putRange x.shadow.win (2 * selItem p) (p.drop 1) } })).forward
        0x0501 p 0).answered 0x0501 h 0 [])) ∧
    (Taken tableMapWriteCmd h p s → s.commitNames c = false → (s.ch c).mapLocked = false → Goes (.tableMapWrite h p) s
      ((((s.entered 0x0502 h p).updCh c (fun x => { x with shadow := { x.shadow with map := Tbl.putRange x.shadow.map (selItem p) (p.drop 1) } })).forward
        0x0502 p 0).answered 0x0502 h 0 [])) ∧
    (Taken tableNodeWriteCmd h p s → s.commitNames c = false → Goes (.tableNodeWrite h p) s
      ((((s.entered 0x0503 h p).updCh c (fun x => { x with shadow := { x.shadow with node := Tbl.putRange x.shadow.node (4 * selItem p) (p.drop 1) } })).forward
        0x0503 p 0).answered 0x0503 h 0 [])) ∧
    (∀ (u : State) (b : Budgets), Taken tableBudgetWriteCmd h p s → s.commitBudgetPending = false → s.pend.shift = none →
      u = s.entered 0x0504 h p → b = { s.hostSpend (entryBytes p) with shadow := Tbl.putRange u.budget.shadow 0 (p.take 8), shadowW5 := pw p 8 } →
      Goes (.tableBudgetWrite h p) s ((({ u with budget := b } : State).forward 0x0504 p 0).answered 0x0504 h 0 [])) ∧
    (∀ u e g, Taken tableStageCmd h p s → e = w64 (pw p 1) (pw p 2) → s.commitNames c = false → s.pend.shift = none →
      s.clk.cycle + 8 ≤ e → e ≤ s.clk.cycle + 32767 →
      u = ((s.entered 0x0506 h p).dropStaging c).stageMap c e (some (refOf 0x0506 h)) → (u.ch c).staging = some g → g.affected ≠ 0 →
      Goes (.tableStage h p) s u) ∧
    (∀ k, Taken tableCommitCmd h p s → s.pend.commit = none → s.pend.shift = none → s.md.mode = .configure →
      k = ({ ch0 := bit (pw p 0) 0, ch1 := bit (pw p 0) 1, budget := bit (pw p 0) 2, e := w64 (pw p 1) (pw p 2) } : Commit) →
      s.commitChecks k false = 0 → Goes (.tableCommit h p) s
        ((((s.entered 0x0507 h p).applyCommit k).forward 0x0507 p 0).answered 0x0507 h 0 [0, 0])) ∧
    (∀ u k e, Taken tableCommitCmd h p s → s.pend.commit = none → s.pend.shift = none → s.md.mode = .runActive →
      e = w64 (pw p 1) (pw p 2) → k = ({ ch0 := bit (pw p 0) 0, ch1 := bit (pw p 0) 1, budget := bit (pw p 0) 2, e := e } : Commit) →
      (s.clk.cycle + 2 ≤ e ∨ s.stagedExempt k.ch0 k.ch1 e = true) → e ≤ s.clk.cycle + 32767 → s.commitChecks k true = 0 →
      u = s.entered 0x0507 h p →
      (∀ f, s.lateEffect h.lag e = (f, false) → Goes (.tableCommit h p) s ((({ u with pend := { u.pend with commit := some { k with e := f } } } :
        State).forward 0x0507 p (f % 2 ^ 64)).answered 0x0507 h stOk [wd f, wd (f / 2 ^ 32)])) ∧
      (∀ f, s.lateEffect h.lag e = (f, true) → Goes (.tableCommit h p) s (((({ u with pend := { u.pend with commit := some { k with e := f } } } :
        State).forward 0x0507 p (f % 2 ^ 64)).raise 43 0x0507 (f % 2 ^ 64)).answered 0x0507 h stCommitLate [wd f, wd (f / 2 ^ 32)]))) ∧
    (∀ q : NodeReq, Taken chainNodeReadCmd h p s → (s.nd c (selItem p)).assigned = true →
      q = { op := 0x01, index := pw p 1, len := objSize (pw p 1).toNat, use := .hostRead (refOf 0x0407 h) } →
      Goes (.chainNodeRead h p) s ((s.entered 0x0407 h p).queueReq c (selItem p) q)) ∧
    (∀ (q : NodeReq) (d : List Byte), Taken chainNodeWriteCmd h p s → (s.nd c (selItem p)).assigned = true →
      d = (unpackBytes (p.drop 3)).take (fld (pw p 2) 4 0) →
      q = { op := 0x02, index := pw p 1, len := fld (pw p 2) 4 0, data := d, use := .hostWrite (refOf 0x0408 h) } →
      Goes (.chainNodeWrite h p) s ((s.entered 0x0408 h p).queueReq c (selItem p) q))

/-! ## Commands: axes, moves, loops, ports, safety, twin, CAN, records -/

/-- The commands of an axis, once taken and with the axis in a state that admits them, have their effect and answer OK: an enable
starts an axis that is not enabled, unless a pending standstill shift locks its source (R49), a disable stops one that rests, configuration words are put in place and forwarded to a twin; a
change of words that only a disabled axis takes is refused with BUSY_MOVING (R86, R170, R204, R211, R377, R408, R461). -/
def Obligations.AxisCommandsTakeEffect : Prop :=
  ∀ (h : Hdr) (p : List Word) (s : State),
    let i := selItem p
    let x := s.ax i
    (Taken axisEnableCmd h p s → s.enableOk i = true → s.curAxes.length ≤ 32 → s.inSto i = false → x.enabled = false →
      (x.srcSel = 0 ∨ s.shiftLocks = false → Goes (.axisEnable h p) s
        ((((s.entered 0x0701 h p).updAx i Axis.enable).freshPorts i).markChanged i |>.answered 0x0701 h 0 [])) ∧
      (x.srcSel ≠ 0 → s.shiftLocks = true → Goes (.axisEnable h p) s ((s.entered 0x0701 h p).answered 0x0701 h stLocked []))) ∧
    (Taken axisDisableCmd h p s → x.enabled = true → x.gen.rests = true →
      Goes (.axisDisable h p) s (((s.entered 0x0702 h p).putReq i x.disable).stopChirp i |>.answered 0x0702 h 0 [])) ∧
    (Taken axisPrfCfgWriteCmd h p s → x.enabled = false → Goes (.axisPrfCfgWrite h p) s
      (((s.entered 0x0704 h p).updAx i (fun a => { a with prf0 := pw p 1, prf1 := pw p 2, prf2 := pw p 3 })).forward 0x0704 p 0 |>.answered
        0x0704 h 0 [])) ∧
    (Taken axisPrfCfgWriteCmd h p s → x.enabled = true →
      Goes (.axisPrfCfgWrite h p) s ((s.entered 0x0704 h p).answered 0x0704 h stBusyMoving [])) ∧
    (Taken axisMissWindowCmd h p s → s.clk.begun = true → Goes (.axisMissWindow h p) s
      (((s.entered 0x0706 h p).updAx i (fun a => { a with missN := fld (pw p 1) 4 0, missW := fld (pw p 1) 31 16 })).forward 0x0706 p 0
        |>.answered 0x0706 h 0 [])) ∧
    (Taken axisAuxWriteCmd h p s → (s.spokeOfAxis i).isSome = true → (bit (pw p 1) 8 = true → s.inSto i = false) →
      (bit (pw p 1) 9 = true → x.ackNew = false ∧ x.ackLeft = 0) → Goes (.axisAuxWrite h p) s
      (((s.entered 0x0708 h p).setAx i { x with aux := fld (pw p 1) 7 0, brake := bit (pw p 1) 8, ackNew := x.ackNew || bit (pw p 1) 9 }).forward
        0x0708 p 0 |>.answered 0x0708 h 0 []))

/-- MOVE.START of an enabled axis outside zone STO whose record lies inside the limits starts at the next boundary or at its start
cycle s, or waits behind the running move; a start accepted after B(s) answers COMMIT_LATE and raises event 43. The requests to one
axis answer with the generator's new state, those refused with the status of Table 9.3; MOVE.SET_STOP answers the mask of the axes that
refused (R199, R201, R205, R207 to R209, R372, R378). -/
def Obligations.MoveCommandsTakeEffect : Prop :=
  ∀ (h : Hdr) (p : List Word) (s : State),
    let i := selItem p
    let x := s.ax i
    let m := moveOf p
    let n := w64 (pw p 8) (pw p 9)
    (Taken moveStartCmd h p s → s.startStatus i = 0 → x.srcSel = 0 → m.dec ≤ x.prf0.toNat → n ≤ s.clk.cycle + 32767 → x.gen.pend = none →
      (if bit (pw p 3) 3 then x.gen.fateQueue m else x.gen.fateNow m) = .starts →
      x.gen.towardLimit (if m.jog then sgnI m.v else sgnI ((x.endOf m false).2 - (x.endOf m false).1)) = false →
      (m.jog = false → s.inWindow i (x.endOf m false).2 = true) →
      (n = 0 → Goes (.moveStart h p) s (((s.entered 0x0801 h p).setAx i { x with gen := { x.gen with pend := some (m, s.clk.cycle + 1) } }).answered
        0x0801 h stOk [wd (s.clk.cycle + 1), wd ((s.clk.cycle + 1) / 2 ^ 32)])) ∧
      (n ≠ 0 → s.now ≤ s.clk.b n → Goes (.moveStart h p) s
        (((s.entered 0x0801 h p).setAx i { x with gen := { x.gen with pend := some (m, n) } }).answered 0x0801 h stOk
          [wd n, wd (n / 2 ^ 32)])) ∧
      (n ≠ 0 → s.clk.b n < s.now → Goes (.moveStart h p) s
        ((((s.entered 0x0801 h p).setAx i { x with gen := { x.gen with pend := some (m, s.clk.cycle + 1) } }).raise 43 0x0801
          ((s.clk.cycle + 1) % 2 ^ 64)).answered 0x0801 h stCommitLate [wd (s.clk.cycle + 1), wd ((s.clk.cycle + 1) / 2 ^ 32)]))) ∧
    (Taken moveStartCmd h p s → s.startStatus i = 0 → x.srcSel = 0 → m.dec ≤ x.prf0.toNat → n ≤ s.clk.cycle + 32767 → x.gen.pend = none →
      (if bit (pw p 3) 3 then x.gen.fateQueue m else x.gen.fateNow m) = .waits → (m.jog = false → s.inWindow i (x.endOf m true).2 = true) →
      x.gen.queued = none → s.queuedMoves < 8 → Goes (.moveStart h p) s
        ((((s.entered 0x0801 h p).setAx i ({ x with gen := { x.gen with queued := some (m, n) } } : Axis).bump).markChanged i).answered
          0x0801 h stOk [0, 0])) ∧
    (∀ u t st, Taken moveQuickStopCmd h p s → u = s.entered 0x0802 h p → u.request i 1 = (st, t) →
      (st = stOk → Goes (.moveQuickStop h p) s (t.answered 0x0802 h 0 [wd (t.ax i).gen.st])) ∧
      (st ≠ stOk → st ≠ stCommitLate → Goes (.moveQuickStop h p) s (u.answered 0x0802 h st []))) ∧
    (∀ u t st, Taken moveHoldCmd h p s → u = s.entered 0x0803 h p → u.request i 2 = (st, t) →
      (st = stOk → Goes (.moveHold h p) s (t.answered 0x0803 h 0 [wd (t.ax i).gen.st])) ∧
      (st ≠ stOk → st ≠ stCommitLate → Goes (.moveHold h p) s (u.answered 0x0803 h st []))) ∧
    (∀ u t st, Taken moveResumeCmd h p s → u = s.entered 0x0804 h p → u.request i 3 = (st, t) →
      (st = stOk → Goes (.moveResume h p) s (t.answered 0x0804 h 0 [wd (t.ax i).gen.st])) ∧
      (st ≠ stOk → st ≠ stCommitLate → Goes (.moveResume h p) s (u.answered 0x0804 h st []))) ∧
    (∀ u t st, Taken moveAbortCmd h p s → u = s.entered 0x0805 h p → u.request i 4 = (st, t) →
      (st = stOk → Goes (.moveAbort h p) s (t.answered 0x0805 h 0 [wd (t.ax i).gen.st])) ∧
      (st ≠ stOk → st ≠ stCommitLate → Goes (.moveAbort h p) s (u.answered 0x0805 h st []))) ∧
    (∀ u t l st, Taken moveSetStopCmd h p s → (fld (pw p 0) 2 0 = 3 → s.md.mode ≠ .safeHold) → u = s.entered 0x0806 h p →
      u.requests (fld (pw p 0) 2 0) (maskAxes (p.drop 1)) = (t, l, st) → st ≠ stCommitLate →
      Goes (.moveSetStop h p) s (t.answered 0x0806 h st (axesMask l)))

/-- What a stop request does (Table 9.3, R209): an axis that is not enabled refuses it with BAD_ARG; an enabled one takes it with OK, and a
running chirp of the axis is stopped. QUICK_STOP ends in STOPPING_QS from a motion, from STOPPING_HOLD, from ABORTING, and from LIMIT_RAMP
when `QS_DEC` is above `LIM_DEC`; HOLD in STOPPING_HOLD from a motion; ABORT in ABORTING from a motion or STOPPING_HOLD, in IDLE from a
stopped state; otherwise the generator's state stays. The position, velocity and acceleration of the generator stay as they are; while a soft-start ramp of a position source runs, the stop
begins from that ramp's set-point and its change (R163, R210). -/
def Obligations.StopRequestsFollowTheGenerator : Prop :=
  ∀ (s : State) (i k g : Nat), k = 1 ∨ k = 2 ∨ k = 4 →
    let x := s.ax i
    let o := if k = 1 then x.quickStop else if k = 2 then x.hold else x.abort
    (x.enabled = false → s.request i k = (stBadArg, s)) ∧
    (x.enabled = true → s.request i k = (stOk, (s.putReq i o).stopChirp i)) ∧
    (g = x.gen.st → o.ax.gen.st =
      if k = 1 then (if g = 1 ∨ g = 2 ∨ g = 3 ∨ g = 5 ∨ g = 10 ∨ (g = 8 ∧ x.prf1.toNat < x.prf0.toNat) then 4 else g)
      else if k = 2 then (if g = 1 ∨ g = 2 ∨ g = 3 then 5 else g)
      else if g = 1 ∨ g = 2 ∨ g = 3 ∨ g = 5 then 10 else if g = 6 ∨ g = 7 ∨ g = 9 then 0 else g) ∧
    (x.gen.soft = none ∨ g = 3 ∨ x.velSource = true → g = x.gen.st → o.ax.gen.p = x.gen.p ∧ o.ax.gen.v = x.gen.v ∧ o.ax.gen.a = x.gen.a) ∧
    (x.gen.soft.isSome = true → x.velSource = false → g = x.gen.st → g = 1 ∨ g = 2 →
      o.ax.gen.p = x.gen.pRef ∧ o.ax.gen.v = q16to32 x.gen.vRef ∧ o.ax.gen.a = 0)

/-- The commands of the loop, once taken with the axis in a state that admits them, have their effect: configuration, current and
coefficient words go into place and are forwarded; a shadow set that is written is no longer ready, and LOOP.READY marks it after its
checks; a swap in CONFIGURE takes effect at once, one in RUN-ACTIVE is pended with its effective cycle (R146, R150, R151, R157, R177). -/
def Obligations.LoopCommandsTakeEffect : Prop :=
  ∀ (h : Hdr) (p : List Word) (s : State),
    let i := selItem p
    let x := s.ax i
    (∀ y : Axis, Taken loopCfgWriteCmd h p s → x.enabled = false → y = { x with cfg0 := pw p 1, cfg1 := pw p 2, cfg2 := pw p 3 } →
      s.axisFits s.ch0.active.map s.ch1.active.map s.clk.gear i y = true → (y.isCur = true → x.isCur = true ∨ s.curAxes.length < 32) →
      s.axesWith i y = true →
      (y.template = 0 → Goes (.loopCfgWrite h p) s
        ((((s.entered 0x0901 h p).setAx i { y with srcNext := none }).tryClose.forward 0x0901 p 0).answered 0x0901 h 0 [])) ∧
      (y.template ≠ 0 → Goes (.loopCfgWrite h p) s
        (((((s.entered 0x0901 h p).setAx i { y with srcNext := none }).account i s.clk.cycle).forward 0x0901 p 0).answered 0x0901 h 0 []))) ∧
    (Taken loopCfgWriteCmd h p s → x.enabled = true → x.sameBut (pw p 1) (pw p 2) (pw p 3) = false →
      Goes (.loopCfgWrite h p) s ((s.entered 0x0901 h p).answered 0x0901 h stBusyMoving [])) ∧
    (∀ y : Axis, Taken loopCfgWriteCmd h p s → x.enabled = true → x.sameBut (pw p 1) (pw p 2) (pw p 3) = true →
      y = { x with cfg0 := pw p 1, cfg1 := pw p 2, cfg2 := pw p 3 } → s.axisFits s.ch0.active.map s.ch1.active.map s.clk.gear i y = true →
      (y.isCur = true → x.isCur = true ∨ s.curAxes.length < 32) → s.axesWith i y = true →
      (y.srcSel = x.srcSel ∨ ((y.srcSel = 0 ∨ s.shiftLocks = false) ∧
        ((y.softOn = true ∧ y.softRate ≠ 0) ∨ (y.softOn = false ∧ x.stillOrHold = true)))) → Goes (.loopCfgWrite h p) s
        ((((s.entered 0x0901 h p).setAx i { x with srcNext := some (pw p 1) }).forward 0x0901 p 0).answered 0x0901 h 0 [])) ∧
    (Taken loopCurWriteCmd h p s → (x.enabled = false ∨ x.cur = pw p 1) → Goes (.loopCurWrite h p) s
      ((((s.entered 0x0903 h p).updAx i (fun a => { a with cur := pw p 1 })).forward 0x0903 p 0).answered 0x0903 h 0 [])) ∧
    (∀ (n f : Nat) (ms ss : List Word), Taken loopCoefWriteCmd h p s → s.swapNames i = false → n = selCount p → f = fld (pw p 1) 4 0 →
      ms = (List.range n).map (fun j => pw p (2 + 2 * j)) → ss = (List.range n).map (fun j => pw p (3 + 2 * j)) →
      Goes (.loopCoefWrite h p) s ((((s.entered 0x0904 h p).updAx i (fun a => { a with sh := { a.sh with
        m := Tbl.putRange a.sh.m f ms, s := Tbl.putRange a.sh.s f ss, gear := fld (pw p 1) 10 8, ready := false } })).forward
          0x0904 p 0).answered 0x0904 h 0 [])) ∧
    (Taken loopParamWriteCmd h p s → s.swapNames i = false → Goes (.loopParamWrite h p) s
      ((((s.entered 0x0905 h p).updAx i (fun a => { a with sh := { a.sh with
        p := Tbl.putRange a.sh.p 0 (p.drop 2), gear := fld (pw p 1) 2 0, ready := false } })).forward 0x0905 p 0).answered 0x0905 h 0 [])) ∧
    (Taken loopReadyCmd h p s → s.swapNames i = false → readyOk x.sh x.template x.outer = true → Goes (.loopReady h p) s
      ((((s.entered 0x0906 h p).setAx i { x with sh := { x.sh with ready := true } }).forward 0x0906 p 0).answered 0x0906 h 0 [])) ∧
    (Taken loopReadyCmd h p s → s.swapNames i = false → readyOk x.sh x.template x.outer = false → Goes (.loopReady h p) s
      ((s.entered 0x0906 h p).answered 0x0906 h stBadArg [])) ∧
    (∀ l : List Nat, Taken loopSwapCmd h p s → s.pend.swap = none → s.pend.shift = none → l = maskAxes (p.take 8) →
      (∀ j ∈ l, (s.ax j).sh.ready = true ∧ (s.ax j).sh.gear = s.clk.gear) → s.md.mode = .configure →
      Goes (.loopSwap h p) s ((((s.entered 0x0907 h p).applySwap (ofBits l) 0).forward 0x0907 p 0).answered 0x0907 h 0 [0, 0])) ∧
    (∀ (l : List Nat) (u : State) (e f : Nat), Taken loopSwapCmd h p s → s.pend.swap = none → s.pend.shift = none → l = maskAxes (p.take 8) →
      (∀ j ∈ l, (s.ax j).sh.ready = true ∧ (s.ax j).sh.gear = s.clk.gear) → s.md.mode = .runActive → e = w64 (pw p 8) (pw p 9) →
      s.clk.cycle + 2 ≤ e → e ≤ s.clk.cycle + 32767 → s.lateEffect h.lag e = (f, false) → u = s.entered 0x0907 h p →
      Goes (.loopSwap h p) s ((({ u with pend := { u.pend with swap := some { axes := ofBits l, e := f } } } : State).forward 0x0907 p
        (f % 2 ^ 64)).answered 0x0907 h stOk [wd f, wd (f / 2 ^ 32)]))

/-- The commands of pulse ports, feedback ports and converters, once taken with the port in a state that admits them, have their effect
(R217, R219, R223, R237, R241 to R243, R248). -/
def Obligations.PortCommandsTakeEffect : Prop :=
  ∀ (h : Hdr) (p : List Word) (s : State),
    let n := selItem p
    let y := selSub p
    (Taken pulsePinCfgCmd h p s → (∀ i ∈ s.enabledAxes, ¬ ((s.ax i).srcSel = 1 ∧ (s.ax i).pinPort = n)) → Goes (.pulsePinCfg h p) s
      ((((s.entered 0x0A01 h p).setPin n { s.pin n with cfg := pw p 1 }).forward 0x0A01 p 0).answered 0x0A01 h 0 [])) ∧
    (Taken pulseStpCfgCmd h p s → (∀ i ∈ s.enabledAxes, ¬ ((s.ax i).isStep = true ∧ (s.ax i).stpPort = n)) → Goes (.pulseStpCfg h p) s
      ((((s.entered 0x0A02 h p).setStp n { s.stp n with cfg := pw p 1 }).forward 0x0A02 p 0).answered 0x0A02 h 0 [])) ∧
    (∀ f : FbPort, Taken feedbackCfgWriteCmd h p s →
      f = { s.fbp n with w0 := pw p 1, w1 := pw p 2, w2 := pw p 3, w3 := pw p 4, w4 := pw p 5 } → f.cfgOk s.tc = true →
      (∀ i ∈ s.enabledAxes, (s.ax i).usesPort n = false) → Goes (.feedbackCfgWrite h p) s
        ((((s.entered 0x0B01 h p).setFb n f.fresh).forward 0x0B01 p 0).answered 0x0B01 h 0 [])) ∧
    (Taken feedbackSingleReadCmd h p s → (s.fbp n).mode = 1 → (s.fbp n).single = none → (s.fbp n).request = none →
      Goes (.feedbackSingleRead h p) s ((s.entered 0x0B04 h p).setFb n { (s.fbp n).requestAt s.now with single := some (refOf 0x0B04 h) })) ∧
    (∀ (c d : Conv), Taken adcCfgWriteCmd h p s → c = s.conv y → convCfgOk (y == 0) c.seq (pw p 1) (pw p 2) = true → c.run = none →
      c.isArmed = false → d = ({ c with w0 := pw p 1, w1 := pw p 2, w2 := pw p 3, w3 := pw p 4, w4 := pw p 5 } : Conv).arm s.now →
      fld c.w0 1 0 = fld d.w0 1 0 → Goes (.adcCfgWrite h p) s
        ((((s.entered 0x0C01 h p).setConv y d).forward 0x0C01 p 0).answered 0x0C01 h 0 [])) ∧
    (∀ (c : Conv) (q : Tbl Word), Taken adcSeqWriteCmd h p s → c = s.conv y → q = Tbl.putRange c.seq n (p.drop 1) →
      (p.drop 1).all (seqEntryOk c.lowPwr) = true → convCfgOk (y == 0) q c.w0 c.w1 = true → c.run = none → c.isArmed = false →
      Goes (.adcSeqWrite h p) s ((((s.entered 0x0C02 h p).setConv y { c with seq := q }).forward 0x0C02 p 0).answered 0x0C02 h 0 [])) ∧
    (Taken adcStartCmd h p s → (s.conv y).run = none → (s.conv y).off = false → Goes (.adcStart h p) s
      (((s.entered 0x0C03 h p).setConv y ((s.conv y).startSeq s.mainsNominal s.now)).answered 0x0C03 h 0 []))

/-- The commands of the safety unit, once taken, have their effect (R261, R380): configuration words go into place and to the twin; the
host confirms the present `SAFE.CFG_ID` and no other; demands of STO and SS1 are recorded by zone and withdrawn by kind 3. -/
def Obligations.SafeCommandsTakeEffect : Prop :=
  ∀ (h : Hdr) (p : List Word) (s : State),
    (∀ u, Taken safeCfgWriteCmd h p s → u = s.entered 0x0E01 h p → Goes (.safeCfgWrite h p) s
      ((({ u with safe := { u.safe with w0 := pw p 0, w1 := pw p 1 } } : State).forward 0x0E01 p 0).answered 0x0E01 h 0 [])) ∧
    (∀ u z, Taken safeZoneWriteCmd h p s → u = s.entered 0x0E02 h p → z = Tbl.putRange s.safe.zone (selItem p) (p.drop 1) →
      Goes (.safeZoneWrite h p) s ((({ u with safe := { u.safe with zone := z } } : State).forward 0x0E02 p 0).answered 0x0E02 h 0 [])) ∧
    (∀ u z, Taken safeAxisWriteCmd h p s → u = s.entered 0x0E03 h p → z = Tbl.putRange s.safe.axis (3 * selItem p) (p.drop 1) →
      Goes (.safeAxisWrite h p) s ((({ u with safe := { u.safe with axis := z } } : State).forward 0x0E03 p 0).answered 0x0E03 h 0 [])) ∧
    (∀ u z, Taken safeSiWriteCmd h p s → u = s.entered 0x0E04 h p → z = Tbl.putRange s.safe.si (selItem p) (p.drop 1) →
      Goes (.safeSiWrite h p) s ((({ u with safe := { u.safe with si := z } } : State).forward 0x0E04 p 0).answered 0x0E04 h 0 [])) ∧
    (∀ u, Taken safeConfirmCmd h p s → u = s.entered 0x0E06 h p → pw p 0 = s.safe.cfgId → Goes (.safeConfirm h p) s
      (({ u with safe := { u.safe with confirmed := true } } : State).answered 0x0E06 h 0 [])) ∧
    (Taken safeConfirmCmd h p s → pw p 0 ≠ s.safe.cfgId → Goes (.safeConfirm h p) s ((s.entered 0x0E06 h p).answered 0x0E06 h stBadArg [])) ∧
    (∀ u z, Taken safeDemandCmd h p s → u = s.entered 0x0E07 h p → z = fld (pw p 0) 7 0 →
      (fld (pw p 0) 9 8 = 1 → Goes (.safeDemand h p) s
        (({ u with safe := { u.safe with hostSto := u.safe.hostSto ||| z } } : State).answered 0x0E07 h 0 [])) ∧
      (fld (pw p 0) 9 8 = 2 → Goes (.safeDemand h p) s
        (({ u with safe := { u.safe with hostSs1 := u.safe.hostSs1 ||| z } } : State).answered 0x0E07 h 0 [])) ∧
      (fld (pw p 0) 9 8 = 3 → ∃ a b, (∀ k, a.testBit k = (u.safe.hostSto.testBit k && !z.testBit k)) ∧
        (∀ k, b.testBit k = (u.safe.hostSs1.testBit k && !z.testBit k)) ∧ Goes (.safeDemand h p) s
        (({ u with safe := { u.safe with hostSto := a, hostSs1 := b } } : State).answered 0x0E07 h 0 [])))

/-- The commands of the twin, the cluster and CAN, once taken with the unit in a state that admits them, have their effect (R286,
R307, R311, R315, R319, R324, R325, R330, R335, R340, R381). -/
def Obligations.TwinClusterCanCommandsTakeEffect : Prop :=
  ∀ (h : Hdr) (p : List Word) (s : State),
    let y := selSub p
    let q := s.canPort y
    (∀ u, Taken twinCfgWriteCmd h p s → u = s.entered 0x0F01 h p → Goes (.twinCfgWrite h p) s
      (({ u with twin := { u.twin with cfg := pw p 0 } } : State).answered 0x0F01 h 0 [])) ∧
    (Taken twinSwapCmd h p s → s.twinReady = true → s.link.swap = none → s.pend.commit = none → s.pend.shift = none →
      (∀ c ∈ s.chains, (s.ch c).wrapped = false ∧ (s.ch c).ring.close = none) →
      Goes (.twinSwap h p) s ((s.entered 0x0F03 h p).beginSwap (refOf 0x0F03 h))) ∧
    (Taken twinSwapCmd h p s → s.twinReady = false → Goes (.twinSwap h p) s ((s.entered 0x0F03 h p).answered 0x0F03 h stNoResource [])) ∧
    (∀ u, Taken clusterCfgWriteCmd h p s → bit (pw p 0) s.straps.cid = true → u = s.entered 0x1001 h p → Goes (.clusterCfgWrite h p) s
      (({ u with clu := { u.clu with cfg := pw p 0 } } : State).answered 0x1001 h 0 [])) ∧
    (∀ m : AxisMove, Taken clusterMoveAxisCmd h p s →
      m = { src := fld (pw p 0) 9 0, dst := fld (pw p 0) 25 16, e := w64 (pw p 1) (pw p 2), queued := h.queued } →
      s.memberOk (m.src / 256) = true → s.memberOk (m.dst / 256) = true → s.pend.move = none → s.pend.shift = none → s.moveStatus m = 0 →
      s.md.mode = .configure → Goes (.clusterMoveAxis h p) s ((((s.entered 0x1003 h p).applyMove m).forward 0x1003 p 0).answered
        0x1003 h 0 [0, 0])) ∧
    (∀ (m : AxisMove) (u : State) (f : Nat), Taken clusterMoveAxisCmd h p s →
      m = { src := fld (pw p 0) 9 0, dst := fld (pw p 0) 25 16, e := w64 (pw p 1) (pw p 2), queued := h.queued } →
      s.memberOk (m.src / 256) = true → s.memberOk (m.dst / 256) = true → s.pend.move = none → s.pend.shift = none → s.moveStatus m = 0 →
      s.md.mode = .runActive → s.clk.cycle + 2 ≤ m.e → m.e ≤ s.clk.cycle + 32767 → s.lateEffect h.lag m.e = (f, false) → u = s.entered 0x1003 h p →
      Goes (.clusterMoveAxis h p) s ((({ u with pend := { u.pend with move := some { m with e := f } } } : State).forward 0x1003 p
        (f % 2 ^ 64)).answered 0x1003 h stOk [wd f, wd (f / 2 ^ 32)])) ∧
    (∀ c : CanCfg, Taken canCfgWriteCmd h p s → c = { w0 := pw p 1, w1 := pw p 2, w2 := pw p 3, w3 := pw p 4, w4 := pw p 5 } →
      Goes (.canCfgWrite h p) s ((((s.entered 0x1101 h p).setCan y { q with cfg := c }).canModes.forward 0x1101 p 0).answered 0x1101 h 0 [])) ∧
    (Taken canFilterWriteCmd h p s → Goes (.canFilterWrite h p) s
      ((((s.entered 0x1102 h p).setCan y { q with filt := Tbl.putRange q.filt (2 * selItem p) (p.drop 1) }).forward 0x1102 p 0).answered
        0x1102 h 0 [])) ∧
    (∀ (r : CanPort) (t : State), Taken canSchedWriteCmd h p s → r = { q with win := Tbl.putRange q.win (2 * selItem p) (p.drop 1) } →
      t = (s.entered 0x1103 h p).setCan y r → t.schedOk y r = true → (y = 1 → s.safe.configured = true → t.canSafeOk s.can.s0 s.can.s1 s.can.s2 = true) →
      Goes (.canSchedWrite h p) s ((t.forward 0x1103 p 0).answered 0x1103 h 0 [])) ∧
    (∀ u, Taken canSafeWriteCmd h p s → s.canSafeOk (pw p 0) (pw p 1) (pw p 2) = true → u = s.entered 0x1104 h p → Goes (.canSafeWrite h p) s
      ((({ u with can := { u.can with s0 := pw p 0, s1 := pw p 1, s2 := pw p 2 } } : State).forward 0x1104 p 0).answered 0x1104 h 0 [])) ∧
    (Taken canAbortCmd h p s → q.txEntry ≠ some (selItem p) → (selItem p) ∈ q.owned → Goes (.canAbort h p) s
      (((s.entered 0x1105 h p).setCan y (q.giveBack (selItem p) 1)).answered 0x1105 h 0 [])) ∧
    (Taken canAbortCmd h p s → q.txEntry ≠ some (selItem p) → (selItem p) ∉ q.owned →
      Goes (.canAbort h p) s ((s.entered 0x1105 h p).answered 0x1105 h 0 [])) ∧
    (Taken canRecoverCmd h p s → q.busOff = true → Goes (.canRecover h p) s
      (((s.entered 0x1106 h p).setCan y { q with recovering := true }).answered 0x1106 h 0 []))

/-- The commands of the acquisition, the filter engine, the fault classes, the BBR and the firmware slots, once taken with the unit in a
state that admits them, have their effect; a flash stage and a core test are answered at completion (R193, R365, R382, R384, R386 to
R398, R408, R432, R433). -/
def Obligations.TraceFilterEventFlashCommandsTakeEffect : Prop :=
  ∀ (h : Hdr) (p : List Word) (s : State),
    (∀ u, Taken traceCfgWriteCmd h p s → s.trace.busy = false → u = s.entered 0x1201 h p → Goes (.traceCfgWrite h p) s
      (({ u with trace := { u.trace with c0 := pw p 0, c1 := pw p 1, c2 := pw p 2 } } : State).answered 0x1201 h 0 [])) ∧
    (∀ u w, Taken traceSigWriteCmd h p s → s.trace.busy = false → u = s.entered 0x1202 h p →
      w = (List.range (selCount p)).foldl (fun w j => putBit w (selItem p + j) true) s.trace.written → Goes (.traceSigWrite h p) s
      (({ u with trace := { u.trace with sig := Tbl.putRange u.trace.sig (selItem p) (p.drop 1), written := w } } : State).answered 0x1202 h 0 [])) ∧
    (∀ (u : State) (t : Trace), Taken traceTrigWriteCmd h p s → u = s.entered 0x1203 h p →
      t = { s.trace with trig := Tbl.putRange s.trace.trig (4 * selItem p) (p.drop 1) } → t.trigOk (selItem p) (selItem p + selCount p) = true →
      s.trace.busy = false → Goes (.traceTrigWrite h p) s (({ u with trace := t } : State).answered 0x1203 h 0 [])) ∧
    (∀ u, Taken traceArmCmd h p s → fld s.trace.c2 6 0 ≤ s.trace.entries → s.trace.preSlots + 1 ≤ s.trace.slotCount → s.trace.busy = false →
      u = s.entered 0x1204 h p → Goes (.traceArm h p) s (({ u with trace := s.trace.arm } : State).answered 0x1204 h 0 [])) ∧
    (∀ u, Taken traceStopCmd h p s → u = s.entered 0x1205 h p → Goes (.traceStop h p) s
      (({ u with trace := s.trace.stop } : State).answered 0x1205 h 0 [])) ∧
    (∀ (u : State) (b : Job) (j : Nat), Taken filterJobStartCmd h p s → u = s.entered 0x1301 h p →
      b = { kind := fld (pw p 0) 3 0, axis := fld (pw p 0) 15 8, log2 := fld (pw p 1) 3 0, src := (pw p 2).toNat, dst := (pw p 3).toNat,
            p4 := pw p 4, p5 := pw p 5 } → (b.kind = 2 → s.md.mode = .runActive ∧ (s.ax b.axis).takesChirp = true ∧ ((s.ax b.axis).gen.st = 0 ∨ (s.ax b.axis).gen.st = 7)) →
      b.ok (pw p 0) (pw p 1) s.tc = true → s.freeJob = some j →
      Goes (.filterJobStart h p) s ((({ u with jobs := Tbl.put u.jobs j { b with total := b.chunkTotal },
                                                sched := { u.sched with heads := Tbl.put u.sched.heads (j + 4) 0 } } : State).arbRaise 0 (j + 2)).answered
        0x1301 h 0 [wd j])) ∧
    (Taken filterJobAbortCmd h p s → s.jobs.any (fun q => q.1 == fld (pw p 0) 5 0) = true → Goes (.filterJobAbort h p) s
      (((s.entered 0x1303 h p).stopJob (fld (pw p 0) 5 0)).answered 0x1303 h 0 [])) ∧
    (∀ (u : State) (c n w : Nat) (k : Tbl ClassCfg), Taken eventClassWriteCmd h p s → u = s.entered 0x1401 h p → c = fld (pw p 0) 7 0 →
      n = fld (pw p 1) 4 0 → w = fld (pw p 2) 15 0 →
      k = Tbl.put s.faults.cfg c { n := n, w := w, r := fld (pw p 1) 10 8 } → Goes (.eventClassWrite h p) s
      (((({ u with faults := { u.faults with cfg := k } } : State).spreadClass c n w).forward 0x1401 p 0).answered 0x1401 h 0 [])) ∧
    (Taken bbrWriteCmd h p s → fld (pw p 0) 9 0 < 0x100 → Goes (.bbrWrite h p) s
      (((s.entered 0x1502 h p).bbrWrite 0 (fld (pw p 0) 9 0) (p.drop 1)).answered 0x1502 h 0 [])) ∧
    (Taken bbrWriteCmd h p s → 0x100 ≤ fld (pw p 0) 9 0 → Goes (.bbrWrite h p) s
      (((s.entered 0x1502 h p).bbrWrite 3 (fld (pw p 0) 9 0) (p.drop 1)).answered 0x1502 h 0 [])) ∧
    (∀ (u : State) (b : Bool) (f : Fw), Taken fwWriteCmd h p s → u = s.entered 0x1601 h p → b = bit (pw p 1) 0 → s.runs b = false →
      (s.fw.slot b).ascends (pw p 0).toNat (fld (pw p 1) 13 8) = true → s.fw.stage = none →
      f = { s.fw.setSlot b { s.fw.slot b with verified := false } with stage := some (.write b (pw p 0).toNat (p.drop 2), refOf 0x1601 h) } →
      Goes (.fwWrite h p) s { u with fw := f }) ∧
    (∀ (u : State) (b : Bool) (f : Fw), Taken fwVerifyCmd h p s → u = s.entered 0x1602 h p → b = bit (pw p 0) 0 → s.fw.stage = none →
      f = { s.fw.setSlot b { s.fw.slot b with ends := [] } with stage := some (.verify b, refOf 0x1602 h) } →
      Goes (.fwVerify h p) s { u with fw := f }) ∧
    (∀ b : Bool, Taken fwActivateCmd h p s → b = bit (pw p 0) 0 → s.fw.stage = none → (s.fw.slot b).verified = true → Goes (.fwActivate h p) s
      (((s.entered 0x1603 h p).bbrWrite 0 0 [setFld (s.bbr.word 0) 7 6 (if b then 2 else 1)]).answered 0x1603 h 0 [])) ∧
    (∀ b : Bool, Taken fwActivateCmd h p s → b = bit (pw p 0) 0 → s.fw.stage = none → (s.fw.slot b).verified = false →
      Goes (.fwActivate h p) s ((s.entered 0x1603 h p).answered 0x1603 h stAuthFail [])) ∧
    (∀ u, Taken diagCoreTestCmd h p s → s.power.coreTest = none → u = s.entered 0x1708 h p → Goes (.diagCoreTest h p) s
      { u with power := { u.power with coreTest := some (selItem p, refOf 0x1708 h) } })

/-! ## Events of the host port and the envelope path -/

/-- The envelope path (R254 to R256, R434), with the port open, the `ENV_WE` ball high and no lockout: the two keys in order unlock it;
a wrong key raises event 83 code 1, any key with the ball low code 3, and keys are locked out for 1 s; a data write to the unlocked path stores the word at `ENV_ADDR`, marks
its seal update as running and steps the address; the end of the update renews the seal, and the pair takes effect at the next
boundary when its odd word was written; 1 ms without the second key forgets the first; the lockout ends at its instant; 10 s after
the last data write, or when the ball falls, the path locks, with event 82 after at least one write. What is timed happens in the first
tick at or after its instant (InstantsAreTicks). -/
def Obligations.EnvelopePathEvents : Prop :=
  ∀ (s u : State) (v : Word), s.portOpen = true → s.lockedOut = false → u = { s with env := { s.env with we := true } } →
    (s.env.firstKey = none → fld v 15 0 = 0x5A17 →
      Goes (.envKeyWrite v true) s { u with env := { u.env with firstKey := some s.now } }) ∧
    (∀ t n, s.env.firstKey = some t → s.now ≤ t + 1000000 → fld v 15 0 = 0xC3E9 → n = (if s.env.unlocked then s.env.written else 0) →
      Goes (.envKeyWrite v true) s { u with env := { u.env with firstKey := none, unlocked := true, lastWrite := s.now, written := n } }) ∧
    (s.env.firstKey = none → fld v 15 0 ≠ 0x5A17 → fld v 15 0 ≠ 0 → Goes (.envKeyWrite v true) s
      (({ u with env := { u.env with firstKey := none, lockout := some (s.now + 1000000000) } } : State).raise 83 1 0)) ∧
    (s.env.we = false → fld v 15 0 ≠ 0 → Goes (.envKeyWrite v false) s
      (({ s with env := { s.env with firstKey := none, lockout := some (s.now + 1000000000) } } : State).raise 83 3 0)) ∧
    (∀ b e, s.env.firstKey = none → s.env.unlocked = true → s.env.busy = false →
      b = { s.bbr with words := Tbl.put (Tbl.put s.bbr.words (0x100 + s.env.addr) v) 0x3F6 1, running := some 1 } →
      e = { u.env with addr := (s.env.addr + 1) % 512, lastWrite := s.now, written := s.env.written + 1, busy := true, busyWord := s.env.addr } →
      Goes (.envDataWrite v true) s { u with bbr := b, env := e }) ∧
    (s.env.firstKey = none → s.env.unlocked = false → Goes (.envDataWrite v true) s
      (({ u with env := { u.env with firstKey := none, lockout := some (s.now + 1000000000) } } : State).raise 83 4 0)) ∧
    (∀ b e nw, s.env.busy = true → s.env.held = [] → b = (({ s.bbr with running := none } : Bbr).reseal 1).setOk 1 true →
      nw = (if s.env.busyWord % 2 = 0 then s.env.nextWords else Tbl.put (Tbl.put s.env.nextWords (s.env.busyWord - 1)
        (b.word (0xFF + s.env.busyWord))) s.env.busyWord (b.word (0x100 + s.env.busyWord))) →
      e = { s.env with busy := false, nextWords := nw } → Goes .envSealUpdateDone s { s with bbr := b, env := e }) ∧
    (∀ t, s.env.firstKey = some t → Goes .envKeyTimeout s
      (({ s with env := { s.env with firstKey := none } } : State).to (1000000 + t))) ∧
    (∀ t, s.env.lockout = some t → Goes .envLockoutEnd s (({ s with env := { s.env with lockout := none } } : State).to t)) ∧
    (∀ w x, s.env.unlocked = true → w = s.to (10000000000 + s.env.lastWrite) → x = { s.env with firstKey := none, unlocked := false, written := 0 } →
      (s.env.written = 0 → Goes .envPathTimeout s { w with env := x }) ∧
      (0 < s.env.written → Goes .envPathTimeout s
        (({ w with env := x } : State).raise 82 s.env.written (s.bbr.word 0x3F5).toNat))) ∧
    (∀ x, s.env.we = true → x = { s.env with we := false, firstKey := none, unlocked := false, written := 0 } →
      (s.env.unlocked = false ∨ s.env.written = 0 → Goes .envWeFall s { s with env := x }) ∧
      (s.env.unlocked = true → 0 < s.env.written → Goes .envWeFall s
        (({ s with env := x } : State).raise 82 s.env.written (s.bbr.word 0x3F5).toNat))) ∧
    (s.bbr.sealOk 1 = true → Goes .sealCheck s { s with bbr := { s.bbr with ok1 := true } }) ∧
    (s.bbr.sealOk 1 = false → s.bbr.ok1 = true → Goes .sealCheck s
      (({ s with bbr := { s.bbr with ok1 := false } } : State).raise 81 0 (s.bbr.word 0x3F5).toNat)) ∧
    (s.bbr.sealOk 1 = false → s.bbr.ok1 = false → Goes .sealCheck s s)

/-- Writes of the host's registers while the port is open and no second envelope key is awaited (R348, R353, R354, R359, R360): an index
outside its range or beyond what the queue holds is ignored and sets `HS.DB_ERR`; one within it moves the index, and the device then
serves its command queue; a 1 written to `IRQ_PENDk` clears that pending bit and no other, but for an event raised in the same tick, which stays
pending (R360); a mask or a route is put in place, and a
vector that then sees a pending event it did not see before sends one message; the mailbox must be ready for the indices; on a device that
is no lead, pending bits, masks, routes and the window are not served (R312). A write of a register brings the level of ENV_WE (R254). -/
def Obligations.HostRegisterWrites : Prop :=
  ∀ (s : State) (v : Word), s.portOpen = true → s.env.firstKey = none →
    (s.host.mbxReady = true → v.toNat < 128 → (v.toNat + 128 - s.host.cmdHead) % 128 ≤ 64 →
      Goes (.cmdqTailWrite v) s ({ s with host := { s.host with cmdTail := v.toNat } } : State).serve) ∧
    (s.host.mbxReady = true → (128 ≤ v.toNat ∨ 64 < (v.toNat + 128 - s.host.cmdHead) % 128) →
      Goes (.cmdqTailWrite v) s ({ s with host := { s.host with dbErr := true } } : State).serve) ∧
    (s.host.mbxReady = true → v.toNat < 128 → (v.toNat + 128 - s.host.rspHead) % 128 ≤ (s.host.rspTail + 128 - s.host.rspHead) % 128 →
      Goes (.rspqHeadWrite v) s ({ s with host := { s.host with rspHead := v.toNat } } : State).serve) ∧
    (s.host.mbxReady = true → v.toNat < 512 → (v.toNat + 512 - s.host.evtHead) % 512 ≤ (s.host.evtTail + 512 - s.host.evtHead) % 512 →
      Goes (.evtqHeadWrite v) s { s with host := { s.host with evtHead := v.toNat } }) ∧
    (s.straps.lead = false → (∀ k : Fin 4, Goes (.irqPendWrite k v) s s ∧ Goes (.irqMaskWrite k v) s s) ∧ (∀ k : Fin 32, Goes (.irqRouteWrite k v) s s)) ∧
    (∀ k : Fin 4, s.straps.lead = true → ∃ t : State, Goes (.irqPendWrite k v) s t ∧ ∀ e, e < 128 → t.irq.pend.testBit e =
      (s.irq.pend.testBit e && (!(decide (e / 32 = k.val) && v.getLsbD (e % 32)) || (decide (s.irq.risenAt = s.now) && s.irq.risen.testBit e)))) ∧
    (∀ k : Fin 4, s.straps.lead = true → s.irq.risenAt ≠ s.now → ∃ p : Nat, Goes (.irqPendWrite k v) s { s with irq := { s.irq with pend := p } } ∧
      (∀ e, p.testBit e = (s.irq.pend.testBit e && !(decide (e / 32 = k.val) && v.getLsbD (e % 32))))) ∧
    (∀ (k : Fin 4), s.straps.lead = true → ∃ m : Nat, Goes (.irqMaskWrite k v) s (({ s with irq := { s.irq with mask := m } } : State).irqFreed s.irq) ∧
      (∀ e, m.testBit e = if e / 32 = k.val then v.getLsbD (e % 32) else s.irq.mask.testBit e)) ∧
    (∀ k : Fin 32, s.straps.lead = true → Goes (.irqRouteWrite k v) s
      (({ s with irq := { s.irq with route := Tbl.put s.irq.route k.val (v &&& 0x1F1F1F1F) } } : State).irqFreed s.irq)) ∧
    (∀ (we : Bool) (u : State), u = s.seesWe we →
      Goes (.registerWrite 0x104#16 ⟨v, we⟩) s ({ u with env := { u.env with addr := fld v 8 0 } } : State).serve ∧
      (∀ x, x = u.regWrite 0 v → Goes (.registerWrite 0#16 ⟨v, we⟩) s x.serve ∧ x = u) ∧
      (s.straps.lead = true → Goes (.registerWrite 0x200#16 ⟨v, we⟩) s
        ({ u with port := { u.port with winBase := fld v 22 0, winRotate := bit v 24 } } : State).serve) ∧
      (∀ off : BitVec 16, Goes (.registerWrite off ⟨v, we⟩) s (u.regWrite (off.toNat / 4 * 4) v).serve))

/-- The exchange memory in BAR2 holds what the host writes (R350): over the lead's open PCI Express port outside the CAN queue areas, with
no access held and no budget of A6 in the way, a write stores its bytes at their offsets, and a read of one byte returns it; bytes of a stream
slot that are read only keep what they held (Table 9.7). -/
def Obligations.ExchangeMemoryIsReadBack : Prop :=
  ∀ (s u t : State) (a : Nat) (b : Byte) (x : MemAccess), s.mem.Ok → s.fullPort = true → s.straps.hsel = false → s.host.gen ≠ 0 →
    s.port.pcieHeld = [] → s.clk.begun = false → s.env.firstKey = none → s.host.cmdCount = 0 → 0x400000 ≤ a → a < 0x500000 → canArea a = none →
    x.bar2 = true → x.addr.toNat = a → x.write = some [b] → u = s.seesWe x.we → t = u.write2 a b →
    Goes (.pcieMemoryAccess x) s t ∧
    (∀ (y : MemAccess) (c : Byte), y.bar2 = true → y.addr.toNat = a → y.write = none → y.len = 1 →
      c = (if streamReadOnly a then s.read2 a else b) →
      Goes (.pcieMemoryAccess y) t { t.seesWe y.we with port := { t.port with readData := t.port.partData ++ [c], partData := [] } }) ∧
    (∀ c, c ≠ a → t.read2 c = s.read2 c)

/-- Serial accesses to the images (R37, R347, R348, R351, R361): with `HSEL` high, a write in one of the three forms whose bytes the budget
of A6 takes lands at once in its image; where they do not fit, what fits lands up to a word boundary and the rest is held; a read
returns ready byte A5 and the image's bytes, or 5A and no data where the budget is spent; with `HSEL` low, or by another instruction
byte, nothing happens. An access brings the level of ENV_WE (R254). -/
def Obligations.SerialAccesses : Prop :=
  ∀ (s u : State) (ins : Byte) (addr : BitVec 24) (bs : List Byte) (n : Nat) (we : Bool), s.portOpen = true →
    (ins = 0x02 ∨ ins = 0xA2 ∨ ins = 0x42) → u = s.seesWe we →
    (s.straps.hsel = false → Goes (.qspiWrite ⟨ins, we⟩ addr bs) s s ∧ ∀ j, Goes (.qspiRead ⟨j, we⟩ addr n) s s) ∧
    (∀ j : Byte, j ≠ 0x02 → j ≠ 0xA2 → j ≠ 0x42 → Goes (.qspiWrite ⟨j, we⟩ addr bs) s s) ∧
    (∀ j : Byte, j ≠ 0x0B → j ≠ 0xAB → j ≠ 0x4B → Goes (.qspiRead ⟨j, we⟩ addr n) s s) ∧
    (∀ t, s.straps.hsel = true → s.port.qspiHeld = [] → u.chargeHost (qspiCharged addr.toNat bs.length) = some t →
      Goes (.qspiWrite ⟨ins, we⟩ addr bs) s (t.qspiLand addr.toNat bs).serve) ∧
    (∀ k, s.straps.hsel = true → s.port.qspiHeld = [] → u.chargeHost (qspiCharged addr.toNat bs.length) = none →
      k = u.hostPart addr.toNat bs.length →
      (0 < k → Goes (.qspiWrite ⟨ins, we⟩ addr bs) s
        ((({ u.countDefer 6 with budget := (u.countDefer 6).hostSpend k } : State).qspiLand addr.toNat (bs.take k)).qspiHold
          (qspiNext addr.toNat k) (bs.drop k)).serve) ∧
      (k = 0 → bs.length ≤ 512 → ∃ t : State, Goes (.qspiWrite ⟨ins, we⟩ addr bs) s t.serve ∧
        t.port = { s.port with qspiHeld := [(qspiNext addr.toNat 0, bs)] } ∧ t.host = s.host)) ∧
    (∀ (j : Byte) t, s.straps.hsel = true → (j = 0x0B ∨ j = 0xAB ∨ j = 0x4B) → addr.toNat / 0x800000 = 1 →
      u.chargeHost (qspiCharged addr.toNat n) = some t → Goes (.qspiRead ⟨j, we⟩ addr n) s { t with port :=
        { t.port with readyByte := 0xA5, readData := (List.range n).map (fun k => t.read2 ((addr.toNat % 0x800000 + k) % 0x800000)) } }) ∧
    (∀ (j : Byte), s.straps.hsel = true → (j = 0x0B ∨ j = 0xAB ∨ j = 0x4B) →
      u.chargeHost (qspiCharged addr.toNat n) = none → ∃ t : State, Goes (.qspiRead ⟨j, we⟩ addr n) s t ∧
        t.port = { s.port with readyByte := 0x5A, readData := [] })

/-- The host link (R346, R359, R360, R413): PERST# low takes the link down with event 11 and disables MSI-X; its release begins
training; a change of the link's state raises event 11 with the generation and width, and no change raises nothing; a marked vector
whose table entry is not masked sends its message once MSI-X is enabled; an event lost is reported once the queue has room. -/
def Obligations.HostLinkEvents : Prop :=
  ∀ s : State, s.straps.hsel = false → s.md.mode.timed = true → s.md.bootDone = true →
    (∀ u t : State, s.host.gen ≠ 0 → u = { s with host := { s.host with gen := 0, x2 := false } } → t = u.raise 11 0 0 →
      Goes .perstAssert s { t with host := { t.host with perst := true }, irq := { t.irq with msixEnabled := false } }) ∧
    Goes .perstRelease s { s with host := { s.host with perst := false } } ∧
    (∀ (g : BitVec 2) (x2 : Bool), s.host.perst = false → g.toNat ≠ 0 → ¬ (s.host.gen = g.toNat ∧ s.host.x2 = x2) →
      Goes (.hostLink g x2) s (({ s with host := { s.host with gen := g.toNat, x2 := x2 } } : State).raise 11 (g.toNat + bitAt 2 x2) 0)) ∧
    (∀ (g : BitVec 2) (x2 : Bool), g.toNat ≠ 0 → s.host.gen = g.toNat → s.host.x2 = x2 → Goes (.hostLink g x2) s s) ∧
    (∀ (v : Fin 32) (q : Irq), s.host.gen ≠ 0 → s.irq.pba.testBit v.val = true → s.irq.vecMasked v.val = false → s.irq.seen v.val ≠ [] →
      q = { s.irq with msixEnabled := true, pba := putBit s.irq.pba v.val false, sent := Tbl.put s.irq.sent v.val (Tbl.get 0 s.irq.sent v.val + 1) } →
      Goes (.msixPendingSend v true) s { s with irq := q }) ∧
    (s.host.lost = 0 → Goes .eventLost s s) ∧
    (∀ u : State, s.host.lost ≠ 0 → s.host.evtCount ≠ 256 →
      u = { s with host := { s.host.pushEvt (eventWords 121 false s.straps.cid 0 s.host.lost s.now) with lost := 0 } } →
      Goes .eventLost s (u.signal 121))

/-! ## Events of the CAN ports -/

/-- The queues of a CAN port (R321 to R327, R331): the host's tail write returns an owned entry to the ring; the word window reads
the entry at the tail word by word and shows 0 where there is none; an entry whose `OWN` is set becomes the port's, its bytes charged to A6,
and where A6 does not take them they wait as writes of the host's port (R37, R351); a port that may
start offers its best entry; a frame sent gives its entry back with result 0, takes 1 off TEC and counts; a frame received at time t
ends what the port had on the bus, whose entry stays its own, and goes into the ring where a filter with action 1 takes it, and is counted as unmatched where none does. -/
def Obligations.CanQueueEvents : Prop :=
  ∀ (s : State) (n : Fin 2) (p : CanPort), p = s.canPort n.val → s.fullPort = true → s.env.firstKey = none →
    (∀ v q, p.rxOwned p.rxTail = true → p.lock = none → fld v 5 0 = (p.rxTail + 1) % 64 → p.rxTail < 64 →
      q = { p with rxMem := p.rxMem.writeWord (2072 * p.rxTail) (setFld (p.rxMem.readWord (2072 * p.rxTail)) 31 31 0),
                   rxTail := (p.rxTail + 1) % 64 } → Goes (.rxqTailWrite n v) s (s.setCan n.val q)) ∧
    (∀ v, p.rxOwned p.rxTail = false → Goes (.rxqTailWrite n v) s (s.setCan n.val p)) ∧
    (∀ (q : CanPort) (u : State), p.lock = none → p.rxOwned p.rxTail = true → q = { p with lock := some (p.rxTail, 1) } →
      u = s.setCan n.val q → Goes (.rxwRead n) s
        { u with port := { u.port with readData := wordBytes (p.rxMem.readWord (2072 * p.rxTail)) } }) ∧
    (p.lock = none → p.rxOwned p.rxTail = false → ∃ t : State, Goes (.rxwRead n) s t ∧
      t.port.readData = [0, 0, 0, 0] ∧ t.canPort n.val = p) ∧
    (∀ (i : Fin 32) (w0 w1 w2 w3 : Word) (data : List Byte) (m : Memory) (q : CanPort), p.active = false → bit w0 31 = true → i.val ∉ p.owned →
      m = (p.txMem.writeBytes (2064 * i.val + 16) data).writeBytes (2064 * i.val + 4)
        ([setFld w1 31 28 (fld (p.txW i.val 1) 31 28), w2, w3].flatMap wordBytes) →
      q = { p with txMem := m.writeWord (2064 * i.val) w0, owned := p.owned ++ [i.val] } →
      s.port.pcieHeld = [] → s.port.qspiHeld = [] → s.hostFits (16 + data.length) = true →
      Goes (.canTxEntryOwn n i w0 w1 w2 w3 data) s (({ s with budget := s.hostSpend (16 + data.length) } : State).setCan n.val q)) ∧
    (∀ (i : Fin 32) (w0 w1 w2 w3 : Word) (data : List Byte) (a : Nat), a = Config.canTxOffset n.val + 2064 * i.val →
      (s.port.pcieHeld ≠ [] ∨ s.port.qspiHeld ≠ [] ∨ s.hostFits (16 + data.length) = false) →
      Goes (.canTxEntryOwn n i w0 w1 w2 w3 data) s
        (((s.portWrite (a + 16) data).portWrite (a + 4) ([w1, w2, w3].flatMap wordBytes)).portWrite a (wordBytes w0))) ∧
    (∀ i, p.ready = true → p.owned.filter p.malformed = [] → (s.canCfg n.val).tt = false → p.best p.owned = some i →
      Goes (.canTxOffer n) s (s.setCan n.val { p with onBus := some (.entry i none) })) ∧
    (p.ready = false → Goes (.canTxOffer n) s s) ∧
    (∀ (i t : Nat) (w : Option Nat) (q r : CanPort) (u : State), p.onBus = some (.entry i w) → u = s.by t →
      q = ({ p with onBus := none, tec := p.tec - 1, ackRun := 0, noAck := false } : CanPort).giveBack i 0 →
      r = { q with cnt := { q.cnt with txOk := cadd q.cnt.txOk 1 } } → p.busOff = false → (decide (127 < r.tec) || decide (127 < r.rec_)) = r.passive →
      Goes (.canTxDone n t) s (u.setCan n.val r)) ∧
    (∀ (f : CanFrame) (t k : Nat) (u : State) (q : CanPort), p.listening = true → p.master = false → s.isSafeFrame n.val f = false → u = s.by t →
      q = { p with onBus := none } →
      (p.filter f = some (k, 1) → Goes (.canFrameReceived n f t) s { u.setCan n.val (q.store f k t s.free) with free := s.free + 1 }) ∧
      (p.filter f = none → Goes (.canFrameReceived n f t) s
        (u.setCan n.val { q with cnt := { q.cnt with noMatch := cadd q.cnt.noMatch 1 } })))

/-- The error counters of a CAN port (R328 to R330): a transmit error adds 8 to TEC; an ACK error does so on an active port; a receive error
adds 1 or 8 to REC, at most 255; a good receive takes 1 off, or leaves a value from 119 to 127 where REC stood above 127, which of
them the spec does not say; the port is error passive while a counter is above 127, and CAN_STATE (event 115 + 4n) tells of a change; TEC
above 255 is bus-off, with event 112 + 4n; the end of recovery starts the port again with both counters 0. -/
def Obligations.CanErrorEvents : Prop :=
  ∀ (s : State) (n : Fin 2) (p : CanPort), p = s.canPort n.val → p.listening = true →
    (p.busOff = false → p.onBus = none → p.tec ≤ 119 → p.rec_ ≤ 127 → p.passive = false → Goes (.canError n .transmit) s
      (s.setCan n.val { p with tec := p.tec + 8, ackRun := 0 })) ∧
    (p.busOff = false → p.onBus = none → 119 < p.tec → p.tec ≤ 247 → p.passive = false → ∃ t : State, Goes (.canError n .transmit) s t ∧
      (t.canPort n.val).tec = p.tec + 8 ∧ (t.canPort n.val).passive = true ∧ (t.canPort n.val).cause = 1) ∧
    (p.busOff = false → p.onBus = none → 247 < p.tec → ∃ t : State, Goes (.canError n .transmit) s t ∧
      (t.canPort n.val).tec = p.tec + 8 ∧ (t.canPort n.val).busOff = true ∧ (t.canPort n.val).active = false) ∧
    (p.busOff = false → p.onBus = none → p.passive = true → 127 < p.tec → p.tec ≤ 255 → p.ackRun ≠ 15 → Goes (.canError n .ack) s
      (s.setCan n.val { p with ackRun := p.ackRun + 1 })) ∧
    (p.busOff = false → p.tec ≤ 127 → p.rec_ ≤ 126 → p.passive = false → Goes (.canError n .receive) s
      (s.setCan n.val { p with rec_ := p.rec_ + 1 })) ∧
    (p.busOff = false → p.tec ≤ 127 → p.rec_ ≤ 119 → p.passive = false → Goes (.canError n .receive8) s
      (s.setCan n.val { p with rec_ := p.rec_ + 8 })) ∧
    (p.busOff = false → p.tec ≤ 127 → p.rec_ ≤ 127 → p.passive = false → Goes (.canError n .okReceive) s
      (s.setCan n.val { p with rec_ := p.rec_ - 1 })) ∧
    (p.busOff = false → 127 < p.rec_ → ∃ t : State, Goes (.canError n .okReceive) s t ∧ 119 ≤ (t.canPort n.val).rec_ ∧ (t.canPort n.val).rec_ ≤ 127) ∧
    (p.busOff = true → p.recovering = true → Goes (.canRecoveryDone n) s
      ((s.setCan n.val { p with busOff := false, recovering := false, tec := 0, rec_ := 0, passive := false, waitIdx := none }).canModes)) ∧
    (p.busOff = true → ∀ e, Goes (.canError n e) s s)

/-- Time-triggered operation of a CAN port (R332, R334, R335, R337, R338): the master begins its next basic cycle at the next multiple of
its length with its reference message; a slave takes the Sync_Mark, the cycle count and the global time from the reference message it
receives; an exclusive window that applies starts with its entry where the bus is free; a window whose entry never started counts a miss;
a potential master that has seen no reference message in time becomes the master; two cycles without one are reported once. -/
def Obligations.CanTimeTriggeredEvents : Prop :=
  ∀ (s u : State) (n : Fin 2) (p : CanPort) (c : CanCfg) (tt : CanTt), p = s.canPort n.val → c = s.canCfg n.val → tt = s.canTt n.val → c.tt = true →
    (∀ k v, p.active = true → p.master = true → p.onBus = none → tt.begun = true → tt.base < k * c.cycleNs → (k - 1) * c.cycleNs < s.now →
      0 < k → s.now ≤ k * c.cycleNs → 0 < c.cycleNs → u = s.to (k * c.cycleNs) →
      v = { tt with mark := k * c.cycleNs, base := k * c.cycleNs, late := false, count := (tt.count + 1) % c.matrix } →
      Goes (.ttBasicCycle n) s ((u.setTt n.val v).setCan n.val { p with onBus := some (.reference (refData v.count (k * c.cycleNs))) })) ∧
    (∀ (f : RefMessage) (t : Nat) (v : CanTt), p.listening = true → p.master = false → tt.lostRaised = false →
      foreignRef c f = false → u = s.by t →
      v = { tt with mark := t, count := (f.data.headD 0).toNat % 64, begun := true, late := false, lostRaised := false, refAt := t,
                    offset := ((beNat ((f.data.drop 2).take 2) : Nat) * 1000 : Int) - t } →
      Goes (.referenceMessage n f t) s ((u.setTt n.val v).setCan n.val { p with refOk := true, master := false, onBus := none })) ∧
    (∀ (f : RefMessage) (t : Nat), p.listening = true → foreignRef c f = true → u = s.by t →
      Goes (.referenceMessage n f t) s (u.canState n.val 7)) ∧
    (∀ w x, w < 64 → x = p.winW w → winKind x = 1 → p.active = true → p.busOff = false → p.onBus = none → tt.begun = true → winApplies x tt.count = true →
      p.owned.filter p.malformed = [] → winEntry x ∈ p.owned →
      u = s.to (tt.mark + winOff x * 1000) →
      Goes (.ttWindowStart n w true) s (u.startEntry n.val (winEntry x) (some w)) ∧
      (p.master = false → u.startEntry n.val (winEntry x) (some w) = u.setCan n.val { p with onBus := some (.entry (winEntry x) (some w)) })) ∧
    (∀ (w : Nat) (x : Word × Word) (v : CanTt), w < 64 → x = p.winW w → winKind x = 1 →
      v = (if p.busOff then tt.runOn c (winOff x * 1000 + 16 * c.nBit) s.now else tt) → p.active = true ∨ p.busOff = true →
      v.begun = true → winApplies x v.count = true → p.onBus = none → p.busOff = true ∨ winEntry x ∈ p.owned →
      u = s.to (v.mark + winOff x * 1000 + 16 * c.nBit) →
      Goes (.ttWindowMiss n w) s (u.setCan n.val { p with cnt := { p.cnt with winMiss := cadd p.cnt.winMiss 1 } })) ∧
    (∀ b v, c.canMaster = true → p.active = true → p.master = false → s.md.mode.heads = true → p.onBus = none → tt.begun = true →
      b = tt.mark + c.cycleNs + (16 + 16 * c.prio) * c.nBit → u = s.to b →
      v = { tt with mark := u.now, base := tt.mark + c.cycleNs, late := false, count := (tt.count + 1) % c.matrix } →
      Goes (.referenceTimeout n) s (((u.setTt n.val v).setCan n.val { p with master := true, onBus := some (.reference (refData v.count u.now)) }).canState n.val 3)) ∧
    (p.listening = true → p.master = false → tt.lostRaised = false → tt.begun = true →
      u = s.to (tt.mark + 2 * c.cycleNs) →
      Goes (.referencesLost n) s (((u.setTt n.val { tt with lostRaised := true }).setCan n.val { p with refOk := false }).canState n.val 5)) ∧
    (tt.lostRaised = true → Goes (.referencesLost n) s s)

/-! ## Events of the cycle, the windows and the chains -/

/-- What a head launches in a cycle (R14, R15, R26, R62, R69, R91, R92, R101, R106, R122, R400, R410): at a fixed cycle origin the
boundary begins the next cycle (on a device with no chain, axis, item, trace, twin, pending change or command it is counted and the
time base stands at it); an enabled cycle point fires once a cycle, at the first tick at or after its offset, raises event 32 + k and
drives its strobe; each window launches its frame at its opening: the service frame, host requests where some were filled in, the beacon
of a device in a mode that heads, a census 1 ms after the last; a frame that its window does not hold is not launched (R92); 2 µs before
a service or open window its slots are filled. Where no window of a kind may launch, nothing happens. -/
def Obligations.CycleAndWindowEvents : Prop :=
  ∀ (s u : State) (c : Fin 2) (k r : Nat) (mv : Option MovedAxis),
    (s.clk.fixed = true → s.md.mode.cycles = true → Goes (.cycleBoundary ⟨r, mv⟩) s ((s.arrives mv).crossBoundary r)) ∧
    (s.clk.fixed = false ∨ s.md.mode.cycles = false → Goes (.cycleBoundary ⟨r, mv⟩) s s) ∧
    (s.clk.fixed = true → s.md.mode = .safeHold → s.clk.begun = true → s.md.next = none → s.startup.phase = .idle →
      s.ch0.out = false → s.ch1.out = false → s.ch0.enabled = false → s.ch1.enabled = false → s.ch0.prevMap = [] → s.ch1.prevMap = [] →
      s.axes = [] → s.jobs = [] → s.sched.items = [] → s.sched.dropsNow = 0 → s.sched.timeoutsNow = 0 → s.faults.hbNow = true →
      s.trace.st = 0 → s.trace.armNew = false → s.twin.enable = false → s.twin.token = false → s.link.swapE = none → s.link.swap = none →
      s.pend.commit = none → s.pend.swap = none → s.pend.move = none → s.pend.shift = none → s.port.pcieHeld = [] → s.port.qspiHeld = [] →
      s.host.cmdCount = 0 →
      ∃ t, Goes (.cycleBoundary ⟨r, mv⟩) s t ∧ t.clk.cycle = s.clk.cycle + 1 ∧ t.clk.tb = (s.to s.bNext).now) ∧
    (∀ (n : Fin 8) (p q : CyclePt), p = Tbl.get {} s.pins.cp n.val → s.clk.begun = true → s.md.mode.cycles = true →
      bit p.now 24 = true → p.fired ≠ s.clk.cycle + 1 → s.bNow + fld p.now 23 0 < s.bNext →
      s.pins.convS.armed = false → s.pins.convP.armed = false →
      q = { p with fired := s.clk.cycle + 1, driveUntil := if bit p.now 25 then (s.to (s.bNow + fld p.now 23 0)).now + 100 else p.driveUntil } →
      u = { s.to (s.bNow + fld p.now 23 0) with pins := { s.pins with cp := Tbl.put s.pins.cp n.val q } } →
      Goes (.cyclePoint n) s (u.raise (32 + n.val) 0 (s.clk.cycle % 2 ^ 32))) ∧
    (∀ (n : Fin 8) (p : CyclePt), p = Tbl.get {} s.pins.cp n.val → (s.clk.begun = false ∨ s.md.mode.cycles = false ∨ bit p.now 24 = false ∨
      p.fired = s.clk.cycle + 1 ∨ s.bNext ≤ s.bNow + fld p.now 23 0) → Goes (.cyclePoint n) s s) ∧
    (s.windowOpen c.val 2 = some k → u = (s.to (s.windowAt c.val k)).updCh c.val Chain.dropAssigns →
      Goes (.serviceFrameLaunch c) s ((u.serviceFrame c.val k).countFrame c.val)) ∧
    (s.windowOpen c.val 2 = some k → ∃ (t : State) (f : TxFrame), Goes (.serviceFrameLaunch c) s t ∧ f.kind = 2 ∧ f.window = k ∧
      f.cycle = s.clk.cycle ∧ f.launchA = (s.to (s.windowAt c.val k)).now ∧ (t.ch c.val).filled = [] ∧
      ((s.ch c.val).gate f = true → (t.ch c.val).sent 2 = (s.ch c.val).addressed c.val f) ∧
      ((s.ch c.val).gate f = false → (t.ch c.val).tx = (s.ch c.val).tx)) ∧
    (s.windowOpen c.val 5 = some k → u = s.to (s.windowAt c.val k) →
      ((s.ch c.val).openFilled = [] → Goes (.openFrameLaunch c) s u) ∧
      ((s.ch c.val).openFilled ≠ [] → Goes (.openFrameLaunch c) s ((u.openFrame c.val k).countFrame c.val))) ∧
    (s.windowOpen c.val 5 = some k → (s.ch c.val).openFilled ≠ [] → ∃ (t : State) (f : TxFrame), Goes (.openFrameLaunch c) s t ∧
      f.kind = 2 ∧ f.window = k ∧ f.cycle = s.clk.cycle ∧ f.launchA = (s.to (s.windowAt c.val k)).now ∧ (t.ch c.val).openFilled = [] ∧
      ((s.ch c.val).gate f = true → (t.ch c.val).sent 2 = (s.ch c.val).addressed c.val f) ∧
      ((s.ch c.val).gate f = false → (t.ch c.val).tx = (s.ch c.val).tx)) ∧
    (∀ f : TxFrame, s.windowOpen c.val 4 = some k → s.md.mode.heads = true → u = s.to (s.windowAt c.val k) →
      f = { u.frame 6 k 16 with payload := u.beaconBytes } → Goes (.beaconLaunch c) s (u.launch c.val f) ∧
      ((s.ch c.val).gate f = true → ((u.launch c.val f).ch c.val).sent 6 = (s.ch c.val).addressed c.val f) ∧
      ((s.ch c.val).gate f = false → (u.launch c.val f).ch c.val = s.ch c.val)) ∧
    (∀ (x : Ring) (v : State) (f : TxFrame), s.windowOpen c.val 3 = some k → s.md.mode.heads = true → (s.ch c.val).ring.measuring = false →
      u = s.to (s.windowAt c.val k) → (s.ch c.val).ring.lastCensus + 1000000 ≤ u.now →
      x = { (s.ch c.val).ring with censuses := (s.ch c.val).ring.censuses + 1, lastCensus := u.now } →
      v = u.setCh c.val { s.ch c.val with ring := x } → f = { u.frame 4 k 516 with payload := List.replicate 516 0 } →
      Goes (.discoveryLaunch c) s (v.launch c.val f) ∧
      ((s.ch c.val).gate f = true → ((v.launch c.val f).ch c.val).sent 4 = (s.ch c.val).addressed c.val f) ∧
      ((v.launch c.val f).ch c.val).ring = x) ∧
    (∀ (z : State × List Nat), s.windowOpen c.val 5 = some k → u = s.to (s.windowAt c.val k - 2000) →
      z = (u.windowHolder c.val).fill c.val true → (Goes (.acyclicFill c true) s
        ((z.1.updCh c.val (fun x => { x with openFilled := z.2.filter (fun a => !x.filled.contains a) })).serve) ∧
      (z.1.host.cmdCount = 0 → ∃ t, Goes (.acyclicFill c true) s t ∧
        (t.ch c.val).openFilled = z.2.filter (fun a => !(z.1.ch c.val).filled.contains a)))) ∧
    (∀ (z : State × List Nat), s.windowOpen c.val 2 = some k → u = s.to (s.windowAt c.val k - 2000) →
      z = (((u.settle c.val).timeReports c.val).windowHolder c.val).fill c.val false → (Goes (.acyclicFill c false) s
        ((z.1.updCh c.val (fun x => { x with filled := z.2 })).serve) ∧
      (z.1.host.cmdCount = 0 → ∃ t, Goes (.acyclicFill c false) s t ∧ (t.ch c.val).filled = z.2))) ∧
    (s.isHead = false → Goes (.serviceFrameLaunch c) s s ∧ Goes (.openFrameLaunch c) s s ∧ Goes (.beaconLaunch c) s s ∧
      Goes (.discoveryLaunch c) s s ∧ Goes (.acyclicFill c true) s s ∧ Goes (.acyclicFill c false) s s)

/-- What comes back on a chain (R17, R19, R65, R81, R102, R106, R118, R165, R414): with items past their deadline expired first, a
complete spoke of an outstanding copy that echoes the sequence is a candidate, once per copy (the second copy of a spoke whose item is
posted is only kept); a copy that is whole is judged: one whose FCS is bad is counted as a link error or as marked, one that is not the
copy launched as foreign, and neither is used; at `MISS.AT` held items are posted for the spokes without a candidate, none where each
spoke has one; good service, census and delay copies are taken in. A device that does not head takes in none of them. -/
def Obligations.ReturningCopyEvents : Prop :=
  ∀ (s u : State) (c : Fin 2) (b : Bool) (i : CopyInfo) (t : Nat),
    (∀ (k : Fin 128) (fb : Feedback), u = (s.by t).expireBefore → u.merges = true → (u.ch c.val).out = true →
      ((u.ch c.val).copy b).state = .outstanding → u.due u.bNext = true → fb.status.toNat.testBit 15 = true →
      ((u.ch c.val).echoOk fb = true ∨ u.swapNow = true) →
      k.val ∈ u.live c.val → ((u.ch c.val).sp k.val).on b = none → Goes (.candidateSpoke c b k fb t) s (u.candidate c.val b k.val fb)) ∧
    (∀ (k : Fin 128) (fb : Feedback), u = (s.by t).expireBefore → u.merges = true → (u.ch c.val).out = true →
      ((u.ch c.val).copy true).state = .outstanding → u.due u.bNext = true → fb.status.toNat.testBit 15 = true →
      (u.ch c.val).echoOk fb = true → k.val ∈ u.live c.val → ((u.ch c.val).sp k.val).b = none → ((u.ch c.val).sp k.val).posted = true →
      Goes (.candidateSpoke c true k fb t) s (u.setCh c.val ((u.ch c.val).setSp k.val { (u.ch c.val).sp k.val with b := some fb, tb := u.now }))) ∧
    (∀ (k : Fin 128) (fb : Feedback), u = (s.by t).expireBefore → (fb.status.toNat.testBit 15 = false ∨ u.merges = false ∨
      (u.ch c.val).out = false) → Goes (.candidateSpoke c b k fb t) s u) ∧
    (u = (s.by t).expireBefore → u.merges = true → u.due u.bNext = true → Goes (.copyConfirm c b i t) s (u.copyReturns c.val b i)) ∧
    (u = (s.by t).expireBefore → u.merges = true → u.due u.bNext = true →
      (i.fcs ≠ .good → ((u.ch c.val).copy b).state ≠ .outstanding →
        Goes (.copyConfirm c b i t) s (u.setCh c.val ((u.ch c.val).badFcs i.fcs))) ∧
      (i.fcs = .good → u.swapNow = false → (u.ch c.val).ownCopy b i 1 = false →
        Goes (.copyConfirm c b i t) s (u.setCh c.val (u.ch c.val).foreign)) ∧
      (i.fcs = .good → u.swapNow = false → (u.ch c.val).ownCopy b i 1 = true → i.count.toNat = ((u.ch c.val).sent 1).count →
        i.fmt = ((u.ch c.val).sent 1).fmt → (u.ch c.val).out = true → ((u.ch c.val).copy b).state = .outstanding →
        Goes (.copyConfirm c b i t) s (u.confirmCopy c.val b i))) ∧
    (∀ l, s.merges = true → (s.ch c.val).out = true → s.due (s.bNow + s.missOffset c.val) = true →
      u = (s.to (s.bNow + s.missOffset c.val)).expireBefore →
      l = (u.spokesOf c.val).filter (fun k => ((u.ch c.val).sp k).a.isNone && ((u.ch c.val).sp k).b.isNone) →
      (Goes (.missInstant c) s (l.foldl (fun v k => v.postHeld c.val k) u) ∧ (l = [] → Goes (.missInstant c) s u))) ∧
    ((s.merges = false ∨ (s.ch c.val).out = false ∨ s.due (s.bNow + s.missOffset c.val) = false) → Goes (.missInstant c) s s) ∧
    (∀ (replies : List Reply) (safe : List Byte) (hops : Nat) (cs : List CensusRec) (ds : List DelayRec) (rd : Fin 16), s.isHead = true → u = s.by t →
      (i.fcs = .good → (u.ch c.val).ownCopy b i 2 = true → Goes (.serviceCopyReturn c b i replies safe t) s
        ((u.takeReplies c.val replies).safeRegionIn c.val safe).serve) ∧
      (i.fcs = .good → (u.ch c.val).ownCopy b i 2 = false → Goes (.serviceCopyReturn c b i replies safe t) s (u.setCh c.val (u.ch c.val).foreign)) ∧
      (i.fcs ≠ .good → Goes (.serviceCopyReturn c b i replies safe t) s (u.setCh c.val ((u.ch c.val).badFcs i.fcs)) ∧
        Goes (.discoveryCopyReturn c b i hops cs t) s (u.setCh c.val ((u.ch c.val).badFcs i.fcs)) ∧
        Goes (.delayCopyReturn c b i rd hops ds t) s (u.setCh c.val ((u.ch c.val).badFcs i.fcs))) ∧
      (i.fcs = .good → (u.ch c.val).ownCopy b i 4 = true → Goes (.discoveryCopyReturn c b i hops cs t) s (u.censusBack c.val b i hops cs)) ∧
      (i.fcs = .good → (u.ch c.val).ownCopy b i 4 = true → hops ≤ 64 → u.md.mode.heads = false → Goes (.discoveryCopyReturn c b i hops cs t) s
        (u.setCh c.val { u.ch c.val with ring := (u.ch c.val).ring.take b i hops cs })) ∧
      (i.fcs = .good → (u.ch c.val).ownCopy b i 4 = false → Goes (.discoveryCopyReturn c b i hops cs t) s (u.setCh c.val (u.ch c.val).foreign)) ∧
      (i.fcs = .good → (u.ch c.val).ownCopy b i 5 = true → (u.ch c.val).ring.round = rd.val →
        Goes (.delayCopyReturn c b i rd hops ds t) s (u.setCh c.val ((u.ch c.val).delayBack b i hops ds))) ∧
      (i.fcs = .good → (u.ch c.val).ring.round ≠ rd.val → Goes (.delayCopyReturn c b i rd hops ds t) s (u.setCh c.val (u.ch c.val).foreign))) ∧
    (∀ (replies : List Reply) (safe : List Byte) (hops : Nat) (cs : List CensusRec) (ds : List DelayRec) (rd : Fin 16), s.isHead = false →
      Goes (.serviceCopyReturn c b i replies safe t) s (s.by t) ∧ Goes (.discoveryCopyReturn c b i hops cs t) s (s.by t) ∧
      Goes (.delayCopyReturn c b i rd hops ds t) s (s.by t)) ∧
    (∀ x : Chain, s.isHead = true → x = { s.ch c.val with counters := { (s.ch c.val).counters with foreign := cadd (s.ch c.val).counters.foreign 1 } } →
      Goes (.foreignFrame c) s (s.setCh c.val x)) ∧
    (s.isHead = false → Goes (.foreignFrame c) s s)

/-- Links and forwarding (R58, R59, R63, R64, R66, R67, R70, R71, R80): a used port of an enabled chain whose link changes raises event
16 + 8c with the port and its new state, and a poll of the parallel ports does so for chain 0's left port where it is the only one;
where no port is parallel the poll does nothing; a pass-through member with no wrap sends a frame
that its other port receives out of the far port, one that wraps sends it back out of the port it came from and marks it wrapped;
a bad frame, and one that is no chain frame, leaves with its FCS inverted. A frame on a port whose link is down is not received. -/
def Obligations.LinkAndForwardEvents : Prop :=
  ∀ (s u : State) (c : Fin 2) (right : Bool) (t : Nat) (x : Chain), u = s.by t → x = s.ch c.val →
    (x.enabled = true → fld (x.portW right) 1 0 ≠ 0 → s.md.mode.timed = true → s.forwards c.val = false →
      (x.link right = false → Goes (.linkUp c right t) s ((u.setCh c.val (x.setLink right true)).raiseCh c.val 16 (b2n right + 2) 0)) ∧
      (x.link right = true → Goes (.linkUp c right t) s u) ∧
      (x.link right = true → Goes (.linkDown c right t) s ((u.setCh c.val (x.setLink right false)).raiseCh c.val 16 (b2n right) 0)) ∧
      (x.link right = false → Goes (.linkDown c right t) s u)) ∧
    (∀ up : BitVec 4, (∀ n : Fin 2, ∀ r : Bool, fld ((s.ch n.val).portW r) 1 0 < 2) → Goes (.phyStatusPoll up t) s u) ∧
    (∀ up : BitVec 4, 2 ≤ fld (s.ch0.portW false) 1 0 → fld (s.ch0.portW true) 1 0 < 2 → (∀ r : Bool, fld (s.ch1.portW r) 1 0 < 2) →
      s.ch0.enabled = true → s.ch0.link false = false → s.md.mode.timed = true → s.forwards 0 = false → up.toNat.testBit 0 = true →
      Goes (.phyStatusPoll up t) s ((u.setCh 0 (s.ch0.setLink false true)).raiseCh 0 16 2 0)) ∧
    (∀ f : PassFrame, s.forwards c.val = true → x.link f.right = true → (s.md.mode ≠ .runStandby ∨ f.kind ≠ 2 ∨ f.safe = []) →
      Goes (.passThroughForward c f t) s (u.setCh c.val (x.passFrame f (u.clk.extend f.cycle.toNat f.launch)))) ∧
    (∀ f : PassFrame, s.forwards c.val = true → x.link f.right = true → s.md.mode = .runStandby → f.kind = 2 → x.knows f = true → f.safe ≠ [] →
      Goes (.passThroughForward c f t) s ((u.setCh c.val (x.passFrame f (u.clk.extend f.cycle.toNat f.launch))).safeRegionIn c.val f.safe)) ∧
    (∀ f : PassFrame, (s.forwards c.val = false ∨ x.link f.right = false) → Goes (.passThroughForward c f t) s u) ∧
    (∀ (f : PassFrame) (n : Nat), x.linkL = true → x.linkR = true → ∃ y : Chain, y = x.passFrame f n ∧
      (x.pass.wrap = none → y.pass.outRight = !f.right ∧ y.pass.outWrapped = f.wrapped ∧
        y.pass.outInverted = decide (f.fcs ≠ .good ∨ f.etype.toNat ≠ fld x.cfg 15 0) ∧ y.pass.forwarded = x.pass.forwarded + 1) ∧
      (x.pass.wrap = some f.right → x.pass.closeAt = none → y.pass.outRight = f.right ∧ y.pass.outWrapped = true ∧
        y.pass.outInverted = decide (f.fcs ≠ .good ∨ f.etype.toNat ≠ fld x.cfg 15 0) ∧ y.pass.forwarded = x.pass.forwarded + 1) ∧
      (x.pass.wrap = some (!f.right) → x.pass.closeAt = none → y = x))

/-! ## Events of start-up, twin and cluster -/

/-- The claim and the time (R14, R104, R105, R113 to R116, R120, R288): 3 ms after entry into SYNC-UP the first claim leaves; at the end of each 1 ms
period a device that heard no claim counts it, and three make it the winner, otherwise the next claim leaves; a claim of lower rank
makes a device forward, one of higher rank does not, its own returning claim is dropped; an edge of the PPS input is noted, and steps a
waiting lead; a report, also one that comes while the device waits or forwards, and an order of the cluster decide the step. -/
def Obligations.ClaimAndTimeEvents : Prop :=
  ∀ (s u : State) (q : Startup) (t : Nat), q = s.startup →
    (s.md.mode = .syncUp → q.phase = .listen → u = s.to (3000000 + q.since) →
      Goes .listenEnd s ({ u with startup := { q with phase := .claim, since := q.since + 3000000 } } : State).launchClaim) ∧
    (s.md.mode = .syncUp → q.phase = .claim → q.silent = 0 → u = s.to (1000000 + q.since) →
      (q.heard = true → Goes .claimPeriod s
        ({ u with startup := { q with since := q.since + 1000000, heard := false, quiet := 0 } } : State).launchClaim) ∧
      (q.heard = false → q.quiet < 2 → Goes .claimPeriod s
        ({ u with startup := { q with since := q.since + 1000000, heard := false, quiet := q.quiet + 1 } } : State).launchClaim) ∧
      (q.heard = false → 2 ≤ q.quiet → Goes .claimPeriod s
        ({ u with startup := { q with since := q.since + 1000000, heard := false, quiet := q.quiet + 1 } } : State).claimWon)) ∧
    (∀ (c : Fin 2) (f : ClaimFrame) (x : Chain) (r : Nat), x = s.ch c.val → x.enabled = true → s.claiming = true →
      r = at_ 32 (b2n f.side) + f.hash.toNat → u = s.by t →
      (r = s.rank → f.launch ∈ q.stamps → Goes (.claimFrameReceived c f t) s u) ∧
      (r < s.rank → Goes (.claimFrameReceived c f t) s (u.setCh c.val (x.noteMember f.src)).claimLost) ∧
      (s.rank < r → Goes (.claimFrameReceived c f t) s (u.setCh c.val (x.noteMember f.src)))) ∧
    (u = s.by t → s.md.mode.timed = true → s.clk.waitPps = false ∨ s.md.mode ≠ .syncUp →
      Goes (.ppsEdge t) s { u with clk := { u.clk with ppsLast := some u.now } }) ∧
    (u = s.by t → s.md.mode = .syncUp → s.clk.waitPps = true →
      Goes (.ppsEdge t) s ({ u with clk := { u.clk with ppsLast := some u.now } } : State).stepCluster) ∧
    (u = s.by t → s.md.mode.timed = false → Goes (.ppsEdge t) s u ∧ Goes .rateStep s s) ∧
    (∀ r : Int, s.md.mode.timed = true → r = (if s.clk.rateReq < s.clk.rate - 214748 then s.clk.rate - 214748
      else if s.clk.rate + 214748 < s.clk.rateReq then s.clk.rate + 214748 else s.clk.rateReq) →
      Goes .rateStep s { s with clk := { s.clk with rate := r } }) ∧
    (∀ (m : Fin 4) (won : Bool), s.straps.lead = true → s.md.mode = .syncUp → s.others.testBit m.val = true →
      s.claiming = true ∨ q.phase = .won ∨ q.phase = .forward → Goes (.claimReport m won) s (s.decideClaim m.val won)) ∧
    (∀ v : Option Nat, s.straps.lead = false → s.md.mode = .syncUp → q.phase = .won → Goes (.claimOrder true v) s (s.stepTime v)) ∧
    (s.straps.lead = false → s.md.mode = .syncUp → s.claiming = true ∨ q.phase = .won →
      u = { s with startup := { q with phase := .forward, since := s.now }, clk := { s.clk with waitPps := false } } →
      (s.twin.valid = false → Goes (.claimOrder false none) s u) ∧
      (s.twin.valid = true → s.twin.enable = true → Goes (.claimOrder false none) s u.followPair))

/-- The token and silence (R293 to R297): 3 µs after the boundary a heading device whose health holds renews the token of the cycle before, with
the next sequence number; one whose health fails counts the failure and does not; an unrenewed token lapses at its boundary, with
CONFIGURE dark; on the standby a heartbeat of the next sequence, or a newer beacon, counts for its cycle up to D(n); a cycle without
one is counted silent, and L + 2 of them make a ready standby take over. -/
def Obligations.TokenAndSilenceEvents : Prop :=
  ∀ (s u : State) (w : Twin) (t : Nat), w = s.twin →
    (s.md.mode.heads = true → s.clk.begun = true → w.renewed ≠ s.clk.cycle + 1 → u = s.to (3000 + s.bNow) →
      (s.unhealthy = 0 → Goes .leaseRenewal s { u with twin :=
        { w with leaseSeq := (w.leaseSeq + 1) % 2 ^ 32, renewed := s.clk.cycle + 1, token := true, count := 0, failed := 0 } }) ∧
      (s.unhealthy ≠ 0 → Goes .leaseRenewal s { u with twin := { w with failed := s.unhealthy, count := cadd w.count 1 } })) ∧
    (s.clk.begun = true → w.token = true → s.isHead = true → w.renewed - 1 + w.l ≤ s.clk.cycle + 1 →
      u = { s.to s.bNext with clk := { (s.to s.bNext).clk with cycle := s.clk.cycle + 1 } } → Goes .leaseLapse s u.lapse) ∧
    (s.clk.begun = true → w.token = true → s.isHead = true → s.clk.cycle + 1 < w.renewed - 1 + w.l → Goes .leaseLapse s s) ∧
    (∀ q : Word, s.md.mode = .runStandby → s.clk.begun = true → w.checked ≠ s.clk.cycle + 1 → u = s.by t → u.due u.dNow = true →
      q.toNat = (w.leaseSeq + 1) % 2 ^ 32 →
      Goes (.heartbeatReceived q t) s { u with twin := { w with leaseSeq := q.toNat, heard := true } }) ∧
    (∀ (c : Fin 2) (f : BeaconFrame), s.md.mode = .runStandby → s.clk.begun = true → w.checked ≠ s.clk.cycle + 1 → u = s.by t → u.due u.dNow = true →
      (s.ch c.val).enabled = true → f.fcs = .good → f.twin = true → f.lease = true →
      0 < sgn 32 (f.leaseSeq.toNat + 2 ^ 32 - w.leaseSeq) →
      Goes (.beaconReceived c f t) s { u with twin := { w with leaseSeq := f.leaseSeq.toNat, heard := true } }) ∧
    (s.md.mode = .runStandby → s.clk.begun = true → w.checked ≠ s.clk.cycle + 1 → u = s.to s.dNow →
      (w.heard = true → Goes .silenceCheck s
        ({ u with twin := { w with checked := s.clk.cycle + 1, heard := false, count := 0 } } : State).judgeCopy) ∧
      (w.heard = false → w.enable = false ∨ s.straps.lead = false → Goes .silenceCheck s
        { u with twin := { w with checked := s.clk.cycle + 1, heard := false, count := cadd w.count 1 } })) ∧
    (s.md.mode = .runStandby → w.enable = true → w.ready = true → w.valid = true → w.timeLock = true → w.cfgCurrent = true → w.applied = true →
      w.l + 2 ≤ w.count → u = s.to (2000 + s.bNow + (s.tc + 1) / 2) →
      Goes .takeover s { u with twin := { w with takeover := true } }) ∧
    (w.count < w.l + 2 → Goes .takeover s s)

/-- The sync link and the state copy (R25, R287, R289, R291, R295, R301, R302, R305): a pair whose identities agree becomes valid and its
twin a pass-through member, one after a lapse stays down (the model's choice, log entry 111), one that differs raises event 103 with what differs; an active's change of lanes raises event 102; a complete copy of the cycle in hand is kept for the
boundary, a damaged one is counted, one of another cycle discarded; a change one generation above the last is taken in, at once or for
its boundary; with a gap the standby is no longer current and asks for a refresh. -/
def Obligations.SyncLinkEvents : Prop :=
  ∀ (s u : State) (w : Twin) (t : Nat), w = s.twin →
    (∀ p : PairId, s.md.lapsed = true → Goes (.syncLinkLock p) s s) ∧
    (∀ (p : PairId) (d : Nat), s.md.lapsed = false → w.lanes = 3 → d = pairDiffers s.pairId p → s.md.mode.heads = true →
      (d = 0 → Goes (.syncLinkLock p) s
        (({ s with twin := { w with peer := some p, peerOff := (p.time : Int) - s.now, valid := true } } : State).notePeer p.src)) ∧
      (d ≠ 0 → w.ready = false → Goes (.syncLinkLock p) s
        (({ s with twin := { w with peer := some p, peerOff := (p.time : Int) - s.now, valid := false, timeLock := false, rx := none } } : State).raise 103 d 0))) ∧
    (s.md.lapsed = false → w.lanes ≠ 3 → Goes (.syncLinkChange 3) s (({ s with twin := { w with lanes := 3 } } : State).raise 102 3 0)) ∧
    (∀ (cb : ControlBlock) (rs : List AxisRec) (ps : List ProfileRec), w.valid = true → s.md.mode = .runStandby → s.clk.fixed = true → u = s.by t →
      (cb.crcOk = true → cb.cycle = s.clk.cycle → cb.gear.toNat = s.clk.gear → cb.shiftGear = 0 → cb.cfgGen.toNat = s.link.cfgGen →
        Goes (.copyControlBlock cb rs ps t) s { u with twin := { w with rx := some { cb := cb, recs := rs, precs := ps } } }) ∧
      (cb.crcOk = true → cb.cycle ≠ s.clk.cycle → Goes (.copyControlBlock cb rs ps t) s u) ∧
      (cb.crcOk = false → Goes (.copyControlBlock cb rs ps t) s u.copyIncomplete)) ∧
    (∀ q : Word, w.enable = true → s.md.mode.heads = true → w.valid = true → s.link.refresh = true →
      Goes (.copyAcknowledge q) s (s.ackCopy q.toNat)) ∧
    (∀ (g : Word) (x : Forwarded) (l : TwinLink), w.valid = true → s.md.mode = .runStandby → s.link.refresh = false → u = s.by t →
      l = { s.link with cfgGen := g.toNat } →
      (g.toNat ≠ (s.link.cfgGen + 1) % 2 ^ 32 → Goes (.forwardedChange g x t) s u.notCurrent) ∧
      (g.toNat = (s.link.cfgGen + 1) % 2 ^ 32 → x.effect = 0 → Goes (.forwardedChange g x t) s (({ u with link := l } : State).changeNow x)) ∧
      (g.toNat = (s.link.cfgGen + 1) % 2 ^ 32 → s.clk.cycle < x.effect → Goes (.forwardedChange g x t) s (({ u with link := l } : State).pendChange x))) ∧
    (∀ g : Word, s.md.mode.heads = true → Goes (.configRefreshDone g) s { s with link := { s.link with refresh := false, changes := [] } }) ∧
    (∀ g : Word, s.md.mode = .runStandby → w.valid = true → Goes (.configRefreshDone g) s
      (({ s with twin := { w with cfgCurrent := true }, link := { s.link with cfgGen := g.toNat, refresh := false } } : State).readiness)) ∧
    (s.md.mode.heads = true → w.valid = true → w.ready = true → Goes .refreshRequest s
      (({ s with link := { s.link with refresh := true, changes := s.refreshed }, twin := { w with ready := false } } : State).raise 99 0 0))

/-- The planned swap and mirrored events (R307, R309, R310): a ready standby notes the swap cycle and acknowledges it; the active notes
the acknowledgement; the swap falls due a whole interval after the last, with event 105 and the hours; an event of the active enters
the standby lead's queue marked as mirrored. -/
def Obligations.PlannedSwapEvents : Prop :=
  ∀ s u : State,
    (∀ e, s.md.mode = .runStandby → s.standbyReady = true → s.clk.cycle < e →
      Goes (.swapNotice e) s { s with link := { s.link with swapE := some e, ackSent := some e } }) ∧
    (∀ e, s.clk.cycle ≥ e → Goes (.swapNotice e) s s) ∧
    (∀ e w, s.link.swap = some w → w.e = some e → s.md.mode = .runActive →
      Goes (.swapAck e) s { s with link := { s.link with swap := some { w with acked := true }, swapE := some e } }) ∧
    (∀ h due, h = fld s.twin.cfg 23 16 → due = s.link.hoursFrom + (s.link.reminders + 1) * h * 3600000000000 → h ≠ 0 → s.md.mode.heads = true →
      s.twinReady = true → u = { s.to due with link := { s.link with reminders := s.link.reminders + 1 } } →
      Goes .swapDue s (u.raise 105 0 (min ((u.now - s.link.hoursFrom) / 3600000000000) 0xFFFFFFFF))) ∧
    (∀ (m : Fin 4) (n : Fin 128) (a : BitVec 16) (b : Word) (t : Nat), s.straps.lead = true → s.md.bootDone = true → s.md.mode = .runStandby →
      Goes (.mirroredEvent m n a b t) s (s.post n.val (eventWords n.val true m.val a.toNat b.toNat t)))

/-- The cluster (R52, R291, R294, R307, R311 to R314, R371): the lead keeps each member's health; a member keeps the lead's grant and
steers to the lead's time base, or steps to it in CONFIGURE; a member whose versions agree joins a lead in CONFIGURE, with event 108; a lost one raises event 109 and its open commands answer TIMEOUT; traffic
that takes the other way round raises event 110; a member's event enters the lead's queue under its number; a response from a member
answers its command; a command forwarded to a member is carried out there as any other, past the header checks. A shift, a move and a swap without a payload
take back the one accepted, and a swap of two words names its cycle (how the bridge spells both is the model's choice, log entry 112);
a member whose part of a planned swap has failed ends it. -/
def Obligations.ClusterEvents : Prop :=
  ∀ (s u : State) (c : Cluster) (m : Fin 4) (t : Nat), c = s.clu →
    (∀ (ok : BitVec 5) (k : Cluster), s.straps.lead = true → s.others.testBit m.val = true → u = s.by t →
      (∀ cyc, k = { c with healthAt := Tbl.put c.healthAt m.val (cyc + 1), health := Tbl.put c.health m.val (31 - ok.toNat) } →
        Goes (.memberHealth m ok cyc t) s (({ u with clu := k } : State).grantDue))) ∧
    (∀ cyc off, s.straps.lead = false → u = s.by t →
      (s.md.mode ≠ .configure → s.md.mode ≠ .syncUp → Goes (.leaseGrant ⟨cyc, off⟩ t) s
        { u with clu := { c with grant := cyc + 1 }, clk := u.clk.steer off }) ∧
      (s.md.mode = .configure → s.clk.fixed = false → Goes (.leaseGrant ⟨cyc, off⟩ t) s
        (({ u with clu := { c with grant := cyc + 1 } } : State).setTime ((u.now : Int) - off).toNat))) ∧
    (∀ cyc off, s.straps.lead = true → Goes (.leaseGrant ⟨cyc, off⟩ t) s (s.by t)) ∧
    (∀ (o : Outgoing) (l : List Outgoing) (st : Byte) (p : List Word), c.out = o :: l → o.member = m.val → o.ref.opcode < 65536 →
      Goes (.bridgeResponse m o.ref.tag (BitVec.ofNat 16 o.ref.opcode) st p) s
        ((({ s with clu := { c with out := l } } : State).respondAs m.val o.ref st.toNat p).bridgeDone)) ∧
    (∀ (g : Gather) (st : Byte) (p : List Word), c.out = [] → c.gather = some g → g.waiting.testBit m.val = true → g.ref.opcode < 65536 →
      Goes (.bridgeResponse m g.ref.tag (BitVec.ofNat 16 g.ref.opcode) st p) s (s.gatherStatus g m.val st.toNat)) ∧
    (∀ (tag st : Byte) (p : List Word), c.out = [] → c.gather = none → st ≠ 0 → Goes (.bridgeResponse m tag 0x0F03 st p) s s.swapFails) ∧
    (∀ (h : Hdr) (p : List Word), s.straps.lead = false → h.len = 0 →
      (∀ k, s.pend.shift = some k → Goes (.forwardedCommand h 0x0303 p) s { s with pend := { s.pend with shift := none } }) ∧
      (∀ k, s.pend.move = some k → Goes (.forwardedCommand h 0x1003 p) s { s with pend := { s.pend with move := none } }) ∧
      (∀ k, s.link.swap = some k → Goes (.forwardedCommand h 0x0F03 p) s s.swapFails)) ∧
    (∀ (h : Hdr) (p : List Word) (k : TwinSwap), s.straps.lead = false → h.len = 2 → s.link.swap = some k →
      Goes (.forwardedCommand h 0x0F03 p) s
        { s with link := { s.link with swap := some { k with e := some (w64 (pw p 0) (pw p 1)) } } }) ∧
    (∀ (op : BitVec 16) (h : Hdr) (p : List Word), s.straps.lead = false → h.len ≠ 0 ∨ (s.pend.shift = none ∧ s.pend.move = none ∧
      s.link.swap = none) → op ≠ 0x0F03 ∨ h.len ≠ 2 → cmdOf op.toNat = none →
      Goes (.forwardedCommand h op p) s (s.respond { refOf op.toNat h with viaBridge := true } stBadOpcode [])) ∧
    (∀ (op : BitVec 16) (h : Hdr) (p : List Word) (d : HostCmd), s.straps.lead = false → h.len ≠ 0 ∨ (s.pend.shift = none ∧
      s.pend.move = none ∧ s.link.swap = none) → op ≠ 0x0F03 ∨ h.len ≠ 2 → cmdOf op.toNat = some d →
      Goes (.forwardedCommand h op p) s (d.bridged h p s)) ∧
    (∀ (n : Fin 128) (a : BitVec 16) (b : Word), s.straps.lead = true → s.md.bootDone = true → s.twin.valid = false →
      Goes (.memberEvent m n a b t) s (s.post n.val (eventWords n.val false m.val a.toNat b.toNat t))) ∧
    (s.straps.lead = false ∨ s.others.testBit m.val = true → c.lost.testBit m.val = false → m.val ≠ s.straps.cid →
      u = ({ s with clu := { c with joined := putBit c.joined m.val false, lost := putBit c.lost m.val true } } : State).raise 109 m.val 0 →
      (u.timeOut m.val).twin.enable = true ∨ (u.timeOut m.val).md.mode.cycles = false → Goes (.memberLost m) s (u.timeOut m.val)) ∧
    (∀ id : PairId, s.straps.lead = true → s.md.mode = .configure → m.val ≠ s.straps.cid → bit c.cfg m.val = true → c.joined.testBit m.val = false →
      id.stepping = s.pairId.stepping → id.fwMajor = s.pairId.fwMajor → id.fwMinor = s.pairId.fwMinor → id.protocol = s.pairId.protocol →
      u = { s with clu := { c with joined := putBit c.joined m.val true, lost := putBit c.lost m.val false, offset := Tbl.put c.offset m.val 0 } } →
      Goes (.memberJoined m id false) s (u.raise 108 m.val 0)) ∧
    (∀ id : PairId, s.straps.lead = false → s.md.mode = .configure → id.stepping = s.pairId.stepping → id.fwMajor = s.pairId.fwMajor →
      id.fwMinor = s.pairId.fwMinor → id.protocol = s.pairId.protocol → Goes (.memberJoined m id false) s (s.followLead ((s.now : Int) - id.time))) ∧
    (∀ id : PairId, s.straps.lead = true → s.md.mode = .configure → Goes (.memberJoined m id true) s (s.raise 109 (0x100 + m.val) 0)) ∧
    (∀ b : Bool, c.otherWay ≠ b → Goes (.bridgeChange b) s (({ s with clu := { c with otherWay := b } } : State).raise 110 (b2n b) 0)) ∧
    (Goes (.bridgeChange c.otherWay) s s)

/-! ## Events of the scheduler and the ports -/

/-- The scheduler (R35, R37, R143, R185, R187 to R192, R414): a free executor starts the item chosen for it where the charge fits the
budget of its activity, drops an A0 or A1 item that does not fit and defers another; a freed hardware entry takes the oldest spilled
item of its level; a completed item goes to its completion and a flow is released in order; at a deadline the items of levels 0 and 1
that have not been released fail and no spoke due by then waits any longer; a core that does not acknowledge within 100 ns, that runs
for twice the charge, or whose result fails its residue check, is fenced. Where nothing waits, runs or is ready, nothing happens. -/
def Obligations.SchedulerEvents : Prop :=
  ∀ (s u : State) (x : Executor) (t : Nat),
    (∀ it, u = s.expireBefore → u.execFree x = true → (∀ k, x = .core k → u.sched.inService.testBit k.val = true) → u.choose x = some it →
      (2 < it.level ∨ (u.ax it.axis).discards it.level = false) →
      (u.chargeFits it = true → Goes (.dispatch x) s (u.start it x) ∧
        Tbl.get 0 (u.start it x).budget.left it.kind.act = Tbl.get 0 u.budget.left it.kind.act - it.charge) ∧
      (u.chargeFits it = false → it.level ≤ 1 → Goes (.dispatch x) s ((u.dropItem it).dispatchFor x u.sched.items.length)) ∧
      (u.chargeFits it = false → 2 ≤ it.level → Goes (.dispatch x) s
        (((u.countDefer it.kind.act).putItem it { it with passed := true }).dispatchFor x u.sched.items.length))) ∧
    (u = s.expireBefore → u.choose x = none → Goes (.dispatch x) s u) ∧
    (u = s.expireBefore → u.execFree x = false → Goes (.dispatch x) s u) ∧
    (∀ (l : Fin 8) (it : Item), s.sched.items.find? (fun y => y.level == l.val && y.stage == .spilled) = some it →
      (s.sched.items.filter (fun y => y.level == l.val && y.stage == .queued)).length < 128 →
      Goes (.spillReturn l) s { s with sched := { s.sched with
        items := s.sched.items.map (fun y => if y = it then { it with stage := .queued } else y) } }) ∧
    (∀ l : Fin 8, s.sched.items.find? (fun y => y.level == l.val && y.stage == .spilled) = none → Goes (.spillReturn l) s s) ∧
    (∀ (it : Item) (since occ : Nat) (r : Bool), u = (s.by t).expireBefore → u.runningOn x = some (it, since) →
      Goes (.itemComplete x occ r t) s (u.complete x it since occ r)) ∧
    (∀ (it : Item) (since occ : Nat) (r : Bool) (v : State), u = (s.by t).expireBefore → x = .filter ∨ x = .supervisor →
      u.runningOn x = some (it, since) → v = { u.chargeMeasured it since occ with sched :=
        { u.sched with idleSince := Tbl.put u.sched.idleSince 16 u.now } } → 2 < it.level → it.dead = false →
      (it.kind = .filter → Goes (.itemComplete x occ r t) s { v with sched := { v.sched with
        items := v.sched.items.map (fun y => if y = it then { it with stage := .done } else y) } }) ∧
      (it.kind = .house → Goes (.itemComplete x occ r t) s { v with sched := { v.sched with
        items := v.sched.items.filter (fun y => y != it) } })) ∧
    (∀ (k : Fin 16) (it : Item) (since occ : Nat) (v : State), u = (s.by t).expireBefore → u.runningOn (.core k) = some (it, since) →
      v = { u.chargeMeasured it since occ with sched := { u.sched with idleSince := Tbl.put u.sched.idleSince k.val u.now } } →
      it.level ≤ 2 → Goes (.itemComplete (.core k) occ false t) s (v.fence k.val 1 none)) ∧
    (∀ (occ : Nat) (r : Bool), u = (s.by t).expireBefore → u.runningOn x = none → Goes (.itemComplete x occ r t) s u) ∧
    (∀ f : Fin 64, u = (s.by t).expireBefore → Goes (.release f t) s (u.releaseFlow f.val) ∧
      (f.val < 2 → u.releasable f.val = none → Goes (.release f t) s u) ∧ (f.val = 3 → Goes (.release f t) s u) ∧
      (f.val < 2 → ∀ it, u.releasable f.val = some it → Goes (.release f t) s ((((u.releaseChain it).delItem it).markFlow it).accountOf it)) ∧
      (f.val = 2 → Goes (.release f t) s u.tryClose) ∧
      (4 ≤ f.val → ∀ it, u.sched.items.find? (fun y => y.flow == some f.val && y.stage == .done && y.fseq == Tbl.get 0 u.sched.heads f.val) = some it →
        Goes (.release f t) s (((u.delItem it).markFlow it).chunkDone (f.val - 4)))) ∧
    (∀ d, s.deadlines.min? = some d → u = s.to d → Goes .itemDeadline s (u.expire d) ∧
      (∀ (c : Fin 2) (k : Nat), k ∈ ((u.expire d).ch c.val).due →
        d < (u.expire d).firstByte c.val (u.expire d).clk.cycle k)) ∧
    (s.deadlines = [] → Goes .itemDeadline s s) ∧
    (∀ (k : Fin 16) (it : Item) (since : Nat), s.runningOn (.core k) = some (it, since) →
      (u = s.to (100 + since) → Goes (.dispatchAckTimeout k) s (u.fence k.val 3 none)) ∧
      (u = s.to (since + 2 * it.charge) → Goes (.occupancyLimit k) s (u.fence k.val 2 none))) ∧
    (∀ k : Fin 16, s.runningOn (.core k) = none → Goes (.dispatchAckTimeout k) s s ∧ Goes (.occupancyLimit k) s s)

/-- Limits, pulse inputs, step outputs and captures (R211, R214, R217, R219, R455): a level that has held for so many µs counts wherever
the filter asks for no more; a step
counts by its direction, sets the time and the period of the last step and whether two steps agree; both lines at once count an error
in A/B mode only; a pulse is counted, or suppressed at an active limit; a cycle after the last release the output stands still; the
selected edge is stamped and counted. -/
def Obligations.PinEvents : Prop :=
  ∀ (s u : State) (n : Fin 16) (t : Nat), s.pinsLive = true →
    (∀ (level : Bool) (held : Byte) (a b : Nat), a = levelHeld (s.limp n.val).p level held.toNat → b = levelHeld (s.limp n.val).n level held.toNat →
      Goes (.limitDebounced n true ⟨level, held⟩) s { s with pins := { s.pins with lim := Tbl.put s.pins.lim n.val { s.limp n.val with p := a } } } ∧
      Goes (.limitDebounced n false ⟨level, held⟩) s { s with pins := { s.pins with lim := Tbl.put s.pins.lim n.val { s.limp n.val with n := b } } } ∧
      (∀ j, a.testBit j = (if j ≤ held.toNat then level else (s.limp n.val).p.testBit j)) ∧
      (∀ j, b.testBit j = (if j ≤ held.toNat then level else (s.limp n.val).n.testBit j))) ∧
    (∀ (p : PulseIn) (d : Int), p = s.pin n.val → u = s.by t →
      ((d = if bit p.cfg 1 then -1 else 1) → Goes (.pulseInputStep n .forward t) s (u.setPin n.val
        { p with count := p.count + d, lastDir := d, tLast := u.now, period := u.now - p.tLast, steps := min 2 (p.steps + 1), agree := decide (p.lastDir = d) })) ∧
      ((d = if bit p.cfg 1 then 1 else -1) → Goes (.pulseInputStep n .backward t) s (u.setPin n.val
        { p with count := p.count + d, lastDir := d, tLast := u.now, period := u.now - p.tLast, steps := min 2 (p.steps + 1), agree := decide (p.lastDir = d) })) ∧
      (bit p.cfg 0 = true → Goes (.pulseInputStep n .both t) s
        ((u.setPin n.val { p with steps := 0, agree := false, errs := cadd p.errs 1 }).occur 9 n.val (fun st => some (68, n.val, st)))) ∧
      (bit p.cfg 0 = false → Goes (.pulseInputStep n .both t) s u)) ∧
    (∀ (p q : StepPort) (at_ : Nat), p = s.stp n.val → p.due s.tc = some at_ → u = s.to at_ →
      q = { p with acc := p.acc + p.rate.natAbs * (min u.now p.expiry - p.since) - 65536 * s.tc, since := max p.since (min u.now p.expiry)
                   lastPulse := some u.now } →
      (s.gated n.val p.dirNeg = true → Goes (.stepPulse n) s (u.setStp n.val { q with suppressed := cadd p.suppressed 1 })) ∧
      (s.gated n.val p.dirNeg = false → Goes (.stepPulse n) s
        (u.setStp n.val { q with pos := sgn 32 (ubits 32 (p.pos + if p.dirNeg then -1 else 1)) }))) ∧
    (∀ p : StepPort, p = s.stp n.val →
      (p.rate ≠ 0 → u = s.to p.expiry → Goes (.stepRateExpiry n) s (u.setStp n.val
        { p with acc := p.acc + p.rate.natAbs * (p.expiry - p.since), since := p.expiry, rate := 0 })) ∧
      (p.rate = 0 → Goes (.stepRateExpiry n) s s ∧ (p.acc < 65536 * s.tc → Goes (.stepPulse n) s s))) ∧
    (∀ (k : Fin 4) (level : Bool) (c d : Capture), c = Tbl.get {} s.pins.cap k.val →
      u = s.by t → d = { c with time := u.now, count := cadd c.count 1, level := level, more := c.more || c.seen, seen := true } →
      (c.edgeNow.testBit (if level then 0 else 1) = true → Goes (.captureEdge k level t) s
        { u with pins := { s.pins with cap := Tbl.put s.pins.cap k.val d } }) ∧
      (c.edgeNow.testBit (if level then 0 else 1) = false → Goes (.captureEdge k level t) s u))

/-- The feedback ports (R224 to R237): a port requests once per cycle at its offset, a standby takes the active's request edge; the start
edge is on time up to the timeout; without one the result is marked; the word's result reaches the port's axes; an edge of an
incremental port counts by its direction; the latch at the offset completes 10 ns later; an index edge copies the count and, where it
clears, sets it to 0 with event 73; an A/B edge of the same tick is in what the index edge copied. -/
def Obligations.FeedbackEvents : Prop :=
  ∀ (s u : State) (n : Fin 16) (f : FbPort) (t : Nat), f = s.fbp n.val →
    (s.clk.begun = true → s.md.mode.heads = true → f.mode = 1 → f.complete = false → f.request = none → s.due (s.bNow + f.offset) = true →
      u = s.to (s.bNow + f.offset) → Goes (.encoderRequest n) s (u.setFb n.val { f with request := some u.now, start := none, complete := false })) ∧
    (s.clk.begun = true → s.md.mode = .runStandby → f.mode = 1 → f.complete = false → f.request = none → u = s.by t → s.bNow + f.offset ≤ u.now →
      u.due (s.bNow + f.offset + f.timeoutNs) = true →
      Goes (.encoderRequestEdge n t) s (u.setFb n.val { f with request := some u.now, start := none, complete := false })) ∧
    (∀ r, f.request = some r → f.start = none → u = s.by t → r ≤ u.now →
      (u.due (r + f.timeoutNs) = true → Goes (.encoderStartEdge n t) s (u.setFb n.val { f with start := some u.now })) ∧
      (u.due (r + f.timeoutNs) = false → Goes (.encoderStartEdge n t) s u)) ∧
    (∀ r, f.request = some r → f.start = none → u = s.to (r + f.timeoutNs) → Goes (.encoderTimeout n) s
      ((u.setFb n.val { f with
        complete := true, faulty := true, goodPrev := false, request := none, start := none
        res := { f.res with pos := wd f.q32, vel := 0, valid := false, crcErr := false, encErr := false, timeout := true
                            doubleEdge := false, dirChg := false, discarded := false } }).portDone n.val f.single.isNone)) ∧
    (∀ (r st : Nat) (bits : List Bool), f.request = some r → f.start = some st → u = s.to (st + f.wordNs) →
      Goes (.encoderWordDone n bits) s ((u.setFb n.val (f.wordDone bits)).portDone n.val f.single.isNone)) ∧
    (s.pinsLive = true → 2 ≤ f.mode → u = s.by t →
      (∀ e d c, (e = QuadEdge.forward ∧ d = (if f.dirInv then (-1 : Int) else 1)) ∨ (e = QuadEdge.backward ∧ d = (if f.dirInv then (1 : Int) else -1)) →
        (f.lastSign = 0 ∨ f.lastSign = d) →
        (f.zAt ≠ some u.now → c = sgn 32 (ubits 32 (f.count + d)) → Goes (.quadratureEdge n e t) s
          (u.setFb n.val { f with count := c, ce := c, te := u.now, lastSign := d, edge := true, revLast := false })) ∧
        (f.zAt = some u.now → c = (if f.mode = 3 ∧ f.zClear = true then f.count else sgn 32 (ubits 32 (f.count + d))) →
          Goes (.quadratureEdge n e t) s (u.setFb n.val { f with
            count := c, ce := c, te := u.now, lastSign := d, edge := true, revLast := false
            res := { f.res with zCount := wdi (f.res.zCount.toInt + d) } }))) ∧
      Goes (.quadratureEdge n .double t) s ((u.setFb n.val { f with dbl := true }).occur 12 n.val (fun st => some (71, n.val, st))) ∧
      (f.mode = 3 → f.zClear = true → Goes (.indexEdge n t) s ((u.setFb n.val
        { f with count := 0, zAt := some u.now, res := { f.res with zCount := wdi f.count, zSeen := true } }).raise 73 n.val (ubits 32 f.count))) ∧
      (f.zClear = false → Goes (.indexEdge n t) s
        (u.setFb n.val { f with zAt := some u.now, res := { f.res with zCount := wdi f.count, zSeen := true } }))) ∧
    (s.portCycle = true → 2 ≤ f.mode → f.complete = false → s.due (s.bNow + f.offset) = true → t = (s.to (s.bNow + f.offset)).now →
      u = s.to (t + 10) → Goes (.incrementalLatch n) s ((u.setFb n.val (f.latch t s.tc)).portDone n.val true))

/-- The integrating converters (R238, R240, R243 to R246): at a programmed time an idle armed converter starts its sequence and a running
one counts a skipped start, unless its last conversion ends in that tick; a conversion ends after its integration time and 50 µs in a result, an open wire an occurrence of class 13,
the end of the sequence an event; a crossing that comes too late, or none for two periods, ends the lock; a settled reference raises
event 77 and counts for an integration that starts in the same tick. -/
def Obligations.ConverterEvents : Prop :=
  ∀ (s u : State) (x : Fin 2) (c : Conv) (t : Nat), c = s.conv x.val → s.pinsLive = true →
    (∀ (t0 : Nat) (nx : Option Nat) (r : ConvRun), c.off = false → c.armed = true → c.trig = 2 → c.next = some t0 →
      nx = (if c.w4.toNat * 1000 = 0 then none else some (t0 + c.w4.toNat * 1000)) →
      u = s.to t0 → r = { idx := 0, w0 := c.w0, w1 := c.w1, seq := c.seq } →
      (∀ k, c.run = some k → u.now < k.until_ ∨ k.idx + 1 < Conv.seqLen k.w0 ∨ c.again ≠ none →
        Goes (.adcTimeTrigger x) s (u.setConv x.val { c with next := nx, skip := cadd c.skip 1 })) ∧
      (∀ k, c.run = some k → k.until_ ≤ u.now → Conv.seqLen k.w0 ≤ k.idx + 1 → c.again = none →
        Goes (.adcTimeTrigger x) s (u.setConv x.val { c with next := nx, again := some u.now })) ∧
      (c.run = none → Goes (.adcTimeTrigger x) s (u.setConv x.val { c with
        next := nx, run := some { r with
          refBad := !c.refOk, mainsBad := bit c.w0 3 && !c.lock, begun := u.now
          until_ := (u.now + c.entryTime r s.mainsNominal + 4) / 5 * 5 } }))) ∧
    (∀ (r : ConvRun) (v : Conversion) (o : ConvOut), c.run = some r → u = s.to r.until_ → o = c.done x.val r v s.mainsNominal u.now →
      (o.openWire = none → Goes (.conversionDone x v) s ((u.setConv x.val o.c).raiseAll o.ev)) ∧
      (∀ e, o.openWire = some e → Goes (.conversionDone x v) s
        (((u.setConv x.val o.c).occur 13 (x.val + 2 * e) (fun st => some (76, x.val + at_ 1 e + at_ 8 (fld (Tbl.get 0 r.seq e) 23 16), st))).raiseAll o.ev))) ∧
    (u = s.by t →
      (c.cross = none → Goes (.mainsCrossing x t) s (u.setConv x.val { c with cross := some u.now })) ∧
      (∀ t0, c.cross = some t0 → c.lock = false → 105 * s.mainsNominal < 100 * (u.now - t0) → Goes (.mainsCrossing x t) s
        (u.setConv x.val { c with cross := some u.now, intervals := ((u.now - t0) :: c.intervals).take 8, lock := false, period := 0 })) ∧
      (∀ t0, c.cross = some t0 → c.lock = true → 105 * s.mainsNominal < 100 * (u.now - t0) → Goes (.mainsCrossing x t) s
        ((u.setConv x.val { c with cross := some u.now, intervals := ((u.now - t0) :: c.intervals).take 8, lock := false, period := 0 }).raise 78 x.val 0))) ∧
    (∀ t0, c.cross = some t0 → u = s.to (t0 + 2 * s.mainsNominal) →
      (c.lock = true → Goes (.mainsLockTimeout x) s ((u.setConv x.val { c with lock := false, intervals := [], period := 0 }).raise 78 x.val 0)) ∧
      (c.lock = false → Goes (.mainsLockTimeout x) s (u.setConv x.val { c with lock := false, intervals := [], period := 0 }))) ∧
    (c.off = false → c.refOk = false → c.run = none → Goes (.refSettled x) s ((s.setConv x.val { c with refOk := true }).raise 77 (x.val + 2) 0)) ∧
    (∀ r, c.off = false → c.refOk = false → c.run = some r → Goes (.refSettled x) s ((s.setConv x.val { c with
      refOk := true, run := some { r with refBad := r.refBad && decide (r.begun ≠ s.now) } }).raise 77 (x.val + 2) 0)) ∧
    (c.refOk = true → Goes (.refSettled x) s s)

/-! ## Events of the safety unit, the arbiter and the records -/

/-- The safe cycle and its tests (R260, R262, R267, R271 to R276, R281): at S(j) a configured head sends the head PDU of cycle j, and a
count of the RC oscillator off by more than 5 % is an internal fault; E(j) is
evaluated, and where the exchange fails 100 µs later it is an internal fault; the inputs are sampled; contacts that differ for too
long are a discrepancy, event 89; a press of RESTART that both channels measure between 50 ms and 3 s, released on both within 1 ms,
re-arms at its release, a longer one is event 92; an energised side is pulsed where a pulse is due or its pair under test, and a
read-back that is not as it must be fails the pair. -/
def Obligations.SafeEvents : Prop :=
  ∀ (s u : State) (f : Safe), f = s.safe →
    (∀ (j rc n : Nat) (v : State) (g : Safe), s.safeRuns = true → j = f.nextCycle s.now → f.test.pairs = 0 → u = s.to (f.sAt j) → n = 16000 * max f.tSafe 1 →
      (f.begun = false ∨ (95 * n ≤ 100 * rc ∧ 100 * rc ≤ 105 * n) →
        (s.md.mode.heads = true → f.configured = true → f.internal = false ∨ s.faults.stopLease = false → Goes (.safeCycleStart rc) s { u with safe :=
          { f with cycle := j, begun := true, evaluated := false, rep1 := [], rep2 := [], sent := 0, stoAtS := f.sto, ss1AtS := f.ss1, pduSeen := false, headPdu := f.pdu j } }) ∧
        (s.md.mode = .runStandby → Goes (.safeCycleStart rc) s { u with safe :=
          { f with cycle := j, begun := true, evaluated := false, rep1 := [], rep2 := [], sent := 0, stoAtS := f.sto, ss1AtS := f.ss1, pduSeen := false, headPdu := [] } })) ∧
      (f.begun = true → (100 * rc < 95 * n ∨ 105 * n < 100 * rc) → v = u.internalFault 3 → g =
          { v.safe with cycle := j, begun := true, evaluated := false, rep1 := [], rep2 := [], sent := 0, stoAtS := v.safe.sto, ss1AtS := v.safe.ss1, pduSeen := false } →
        (v.md.mode.heads = true → g.configured = true → g.internal = false ∨ v.faults.stopLease = false →
          Goes (.safeCycleStart rc) s { v with safe := { g with headPdu := g.pdu j } }) ∧
        (v.md.mode.heads = false ∨ g.configured = false ∨ (g.internal = true ∧ v.faults.stopLease = true) →
          Goes (.safeCycleStart rc) s { v with safe := { g with headPdu := [] } }))) ∧
    (∀ v : SafeExchange, s.safeRuns = true → f.begun = true → f.evaluated = false →
      (u = s.to (f.eAt f.cycle) → Goes (.safeEvaluation v) s (u.evaluate v)) ∧
      (u = s.to (100000 + f.eAt f.cycle) → Goes .safeExchangeTimeout s
        (({ u with safe := { f with evaluated := true, lastSeq := f.cycle % 65536 } } : State).internalFault 1))) ∧
    (∀ (a b : Byte) (g : Safe), s.md.mode = .configure → g = { f with input := (List.range 8).foldl (fun t m =>
        Tbl.upd {} t m (fun x => x.sample (a.toNat.testBit m) (b.toNat.testBit m) (f.siw m) s.now)) f.input } →
      Goes (.safeInputSample a b) s { s with safe := g }) ∧
    (∀ (a b : Byte) (g : Safe), s.md.mode = .runStandby → g = { f with input := (List.range 8).foldl (fun t m =>
        Tbl.upd {} t m (fun x => x.sample (a.toNat.testBit m) (b.toNat.testBit m) (f.siw m) s.now)) f.input } →
      Goes (.safeInputSample a b) s ((({ s with safe := g } : State).enterSto (g.demanded 1) 2).enterSs1 (g.demanded 2) 2)) ∧
    (∀ (a b : Byte) (g : Safe) (v : State), s.md.mode.heads = true → g = { f with input := (List.range 8).foldl (fun t m =>
        Tbl.upd {} t m (fun x => x.sample (a.toNat.testBit m) (b.toNat.testBit m) (f.siw m) s.now)) f.input } →
      v = (({ s with safe := g } : State).enterSto (g.demanded 1) 2).enterSs1 (g.demanded 2) 2 →
      Goes (.safeInputSample a b) s ((v.enterSto g.hostSto 5).enterSs1 g.hostSs1 5)) ∧
    (∀ (m : Fin 8) (x : SafeIn) (t : Nat), x = Tbl.get {} f.input m.val → x.since = some t → fld (f.siw m.val) 1 0 ≠ 0 → x.disc = false →
      x.a.closed ≠ x.b.closed →
      u = { s.to (t + fld (f.siw m.val) 19 10 * 1000000) with
        safe := { f with input := Tbl.put f.input m.val { x with disc := true, bothOpen := false, since := none } } } →
      (s.safeRuns = true → Goes (.siDiscrepancy m) s (((u.raise 89 m.val 0).fixedFault 33 m.val 2).enterSto (fld (f.siw m.val) 9 2) 3)) ∧
      (s.safeRuns = false → Goes (.siDiscrepancy m) s ((u.raise 89 m.val 0).fixedFault 33 m.val 2))) ∧
    (s.md.mode.timed = true → f.press1 = {} → f.press2 = {} → f.held = false → Goes (.restartSample ⟨true, true⟩) s
      { s with safe := { f with press1 := { since := some s.now }, press2 := { since := some s.now } } }) ∧
    (∀ t1 t2 : Nat, s.md.mode.heads = true → f.press1.since = some t1 → f.press2.since = some t2 → f.held = false →
      u = { s with safe := { f with press1 := {}, press2 := {}, stuck := false } } →
      (t1 + 50000000 ≤ s.now → s.now ≤ t1 + 3000000000 → t2 + 50000000 ≤ s.now → s.now ≤ t2 + 3000000000 →
        Goes (.restartSample ⟨false, false⟩) s u.rearm.serve) ∧
      (s.now < t1 + 50000000 ∨ t1 + 3000000000 < s.now ∨ s.now < t2 + 50000000 ∨ t2 + 3000000000 < s.now →
        Goes (.restartSample ⟨false, false⟩) s u)) ∧
    (∀ t1 e1 t2 : Nat, s.md.mode.heads = true → f.press1.since = none → f.press1.last = some (t1, e1) → f.press2.since = some t2 → f.held = false →
      u = { s with safe := { f with press1 := {}, press2 := {}, stuck := false } } → e1 + 1000000 < s.now →
      Goes (.restartSample ⟨false, false⟩) s u) ∧
    (∀ t1 : Nat, s.md.mode.timed = true → f.press1.since = some t1 → f.press2 = {} → f.held = false → Goes (.restartSample ⟨false, false⟩) s
      { s with safe := { f with press1 := { last := some (t1, s.now) }, stuck := false } }) ∧
    (∀ t, f.pressedSince = some t → f.stuck = false → u = { s.to (3000000000 + t) with safe := { f with stuck := true } } →
      Goes .restartStuck s (u.raise 92 0 0)) ∧
    (f.pressedSince = none → Goes .restartStuck s s) ∧
    (∀ (p : Fin 4) (b : Bool) (t : Nat) (r : Readback), t = r.start → u = s.by (100000 + t + fld f.w1 25 16 * 1000) →
      (if b then f.sideB else f.sideA).testBit p.val = true →
      (f.test.pairs = 0 → f.pulseDue p.val b t = true →
        (f.pulseOk r = false → Goes (.offPulseTest p b r) s (u.outFail p.val b)) ∧ (f.pulseOk r = true → Goes (.offPulseTest p b r) s u)) ∧
      (f.test.pairs = 0 → f.pulseDue p.val b t = false → Goes (.offPulseTest p b r) s u) ∧
      (f.test.pairs.testBit p.val = true → u.now ≤ f.test.until_ →
        (f.pulseOk r = false → Goes (.offPulseTest p b r) s (u.outFail p.val b)) ∧
        (f.pulseOk r = true → Goes (.offPulseTest p b r) s (u.testPassed p.val b)))) ∧
    (∀ (p : Fin 4) (b x : Bool), s.md.mode.timed = true →
      (f.pairFault.testBit p.val = false → x ≠ (if b then f.sideB else f.sideA).testBit p.val → Tbl.get 0 f.changedAt p.val + 100000 ≤ s.now →
        Goes (.outTestFail p b x) s (s.outFail p.val b)) ∧
      (f.pairFault.testBit p.val = true ∨ x = (if b then f.sideB else f.sideA).testBit p.val ∨ s.now < Tbl.get 0 f.changedAt p.val + 100000 →
        Goes (.outTestFail p b x) s s))

/-- The arbiter, the records and what a command waits for (R193, R363, R365, R374, R384, R390, R392, R400, R401, R403, R411): the nearest
deadline is granted a free resource, to a requester that holds none; a holder past its limit is cut off, a window at its next fill; the oldest staged record goes to
the ring, or is counted as deferred where A5 does not allow it; an entry of the fault log goes into the slot after the newest; a flash
write, a verification, a core test and a wait for the re-arming edge answer their commands. -/
def Obligations.ArbiterLogAndStageEvents : Prop :=
  ∀ (s u : State),
    (∀ (r : Fin 4) (x : ArbRes), x = s.arb.get r.val → r.val ≠ 0 → x.holder = none →
      (∀ q y, bestReq s.now (x.raised.filter (fun q => !x.ignored.contains q.who && !s.arb.holds q.who)) = some q →
        y = { x with holder := some q.who, since := s.now, frames := 0, cut := false, raised := x.raised.filter (fun y => y.who != q.who) } →
        Goes (.arbiterGrant r) s { s with arb := s.arb.put r.val y }) ∧
      (bestReq s.now (x.raised.filter (fun q => !x.ignored.contains q.who && !s.arb.holds q.who)) = none → Goes (.arbiterGrant r) s s)) ∧
    (∀ (x y : ArbRes) (q : ArbReq) (w : State), x = s.arb.get 0 → x.holder = none →
      bestReq s.now (x.raised.filter (fun q => !x.ignored.contains q.who && !s.arb.holds q.who)) = some q →
      y = { x with holder := some q.who, since := s.now, frames := 0, cut := false, raised := x.raised.filter (fun y => y.who != q.who) } →
      w = { s with arb := s.arb.put 0 y } → Goes (.arbiterGrant 0) s w.runHolder) ∧
    (∀ (r : Fin 4) (x : ArbRes) (w : Nat), r.val = 1 ∨ r.val = 2 → x = s.arb.get r.val → x.holder = some w →
      (fld s.arb.w1 15 0 ≤ x.frames → Goes (.arbCutoff r) s { s with arb := s.arb.put r.val { x with cut := true } }) ∧
      (x.frames < fld s.arb.w1 15 0 → Goes (.arbCutoff r) s s)) ∧
    (∀ (x : ArbRes) (w : Nat), x = s.arb.get 0 → x.holder = some w → u = s.to (x.since + fld s.arb.w0 15 0 * 100000) →
      Goes (.arbCutoff 0) s ((((u.arbCut 0 w).reraise (w - 2)).arbGrant 0).runHolder)) ∧
    (∀ (x : ArbRes) (w : Nat), x = s.arb.get 3 → x.holder = some w → u = s.to (x.since + fld s.arb.w2 15 0 * 1000) →
      Goes (.arbCutoff 3) s ((((u.arbCut 3 w).heed 3 w).agentRaise w).arbGrant 3)) ∧
    (∀ (r : StagedRec) (l : List StagedRec) (k : Trace), s.trace.stage = r :: l → s.chargeBytes 5 s.trace.recLen = some u → s.trace.st = 2 →
      s.trace.trigSlot = none → s.trace.trigSample = none →
      k = { s.trace with stage := l, slots := s.trace.slots + 1, gaps := s.trace.gaps + b2n r.gap } →
      Goes .traceRecordWrite s { u with
        mem := { u.mem with trace := u.mem.trace.writeBytes (s.trace.slots % s.trace.slotCount * s.trace.recLen) (s.trace.slotData r false) }, trace := k }) ∧
    (∀ (r : StagedRec) (l : List StagedRec), s.trace.stage = r :: l → s.chargeBytes 5 s.trace.recLen = none → Goes .traceRecordWrite s (s.countDefer 5)) ∧
    (s.trace.stage = [] → Goes .traceRecordWrite s s) ∧
    (∀ (q : LogReq) (l : List LogReq), s.faults.log = q :: l → u = { s with faults := { s.faults with log := l } } →
      (∀ e, s.bbr.lastLog = some e → Goes .faultLogWrite s
        (u.bbrWrite 2 (0x300 + 4 * ((e + 1) % 32)) (q.words s.straps.cid (fld (s.bbr.logW e 3) 15 0 + 1)))) ∧
      (s.bbr.lastLog = none → Goes .faultLogWrite s (u.bbrWrite 2 0x300 (q.words s.straps.cid 0)))) ∧
    (∀ (b : Bool) (off : Nat) (d : List Word) (m : MsgRef) (f : Fw), s.fw.stage = some (.write b off d, m) → f = { s.fw with stage := none } →
      Goes (.flashOperationDone .done) s (({ s with fw := f.program b off d } : State).respond m stOk []).serve) ∧
    (∀ (b : Bool) (m : MsgRef) (f : Fw) (h : ImageHeader), s.fw.stage = some (.verify b, m) → f = { s.fw with stage := none } →
      u = { s with fw := f.setSlot b ((f.slot b).checked h) } →
      (imageOk h = true → Goes (.flashOperationDone (.checked h)) s
        (u.respond m stOk [wd (h.version.toNat + at_ 16 h.svn.toNat), h.seq, h.length]).serve) ∧
      (imageOk h = false → Goes (.flashOperationDone (.checked h)) s (u.respond m stAuthFail []).serve)) ∧
    (∀ (k : Fin 16) (m : MsgRef), s.power.coreTest = some (k.val, m) →
      (u = { s with power := { s.power with coreTest := none }, sched := { s.sched with inService := putBit s.sched.inService k.val true } } →
        Goes (.coreTestDone k true) s (u.respond m stOk [wd (1 + bitAt 1 (u.sched.inService.testBit k.val))]).serve) ∧
      (u = ({ s with power := { s.power with coreTest := none } } : State).fence k.val 5 none →
        Goes (.coreTestDone k false) s (u.respond m stOk [wd (bitAt 1 (u.sched.inService.testBit k.val))]).serve)) ∧
    (∀ (m : MsgRef) (t : Nat), s.safe.waitArm = some (m, t) →
      u = { s.to (30000000000 + t) with safe := { s.safe with waitArm := none } } →
      Goes .modeSetTimeout s (u.respond m stTimeout []).serve)

/-! ## Events of the detectors, power and boot -/

/-- The supervisors and the detectors (R28, R281, R409, R415, R426): the firmware's heartbeat is noted with its cycle; without one and
without a ready twin the watchdog makes a recovery reset; a lost or wrong oscillator turns the pairs off, event 3, and enters the fault
log; a rail, the junction temperature and VBAT are judged against their thresholds with their hysteresis; corrected words are counted
by area, an uncorrectable one in the safety processor is an internal fault. -/
def Obligations.DetectorEvents : Prop :=
  ∀ (s u v : State),
    (s.host.fwRunning = true → Goes .supervisorHeartbeat s
      { s with faults := { s.faults with hbNow := true, hbCycle := s.clk.cycle, hbMissed := 0, hbTime := s.now } }) ∧
    (s.host.fwRunning = false → Goes .supervisorHeartbeat s s ∧ Goes .hardwareWatchdog s s) ∧
    (s.md.mode.timed = true → s.host.fwRunning = true → s.twinReady = false → Goes .hardwareWatchdog s (s.enterReset true false)) ∧
    (s.twinReady = true → Goes .hardwareWatchdog s s) ∧
    (∀ (lost : Bool) (ppm : Int), s.md.mode.timed = true → s.faults.oscBad = false → u = { s with faults := { s.faults with oscBad := true } } →
      (lost = true ∨ 5000 < ppm.natAbs) → Goes (.oscFault lost ppm) s
        ((u.drivePairs.raise 3 (bitAt 0 lost + bitAt 1 (decide (5000 < ppm.natAbs))) (ubits 32 ppm)).fixedFault 22 0 5)) ∧
    (∀ ppm : Int, ppm.natAbs ≤ 5000 → Goes (.oscFault false ppm) s s) ∧
    (∀ mv, s.md.mode.timed = true → u = { s with power := { s.power with railWarn := putBit s.power.railWarn 0 true, railFault := putBit s.power.railFault 0 false } } →
      720 ≤ mv → mv < 760 → s.power.railWarn.testBit 0 = false → Goes (.supplyDetector 0 mv) s (u.raise 4 0 mv)) ∧
    (∀ mv, s.md.mode.timed = true → u = { s with power := { s.power with railWarn := putBit s.power.railWarn 2 true, railFault := putBit s.power.railFault 2 true } } →
      mv < 2970 → s.power.railWarn.testBit 2 = true → s.power.railFault.testBit 2 = false →
      Goes (.supplyDetector 2 mv) s (u.occur 19 2 (fun _ => some (5, 2, mv)))) ∧
    (∀ (r : Fin 6) (mv : Nat), s.md.mode.timed = true → railWarns r.val mv = false → railFails r.val mv = false →
      Goes (.supplyDetector r mv) s
        { s with power := { s.power with railWarn := putBit s.power.railWarn r.val false, railFault := putBit s.power.railFault r.val false } }) ∧
    (∀ tj : Int, s.md.mode.timed = true → s.power.tempFault = false →
      (1150 ≤ tj → tj ≤ 1230 → s.power.tempWarn = false → u = { s with power := { s.power with tempWarn := true } } →
        Goes (.tempDetector tj) s (u.raise 6 1 (ubits 32 tj))) ∧
      (tj ≤ 1100 → s.power.tempWarn = true → u = { s with power := { s.power with tempWarn := false } } →
        Goes (.tempDetector tj) s (u.raise 6 0 (ubits 32 tj))) ∧
      (1100 < tj → tj < 1150 → Goes (.tempDetector tj) s s) ∧
      (1280 ≤ tj → s.power.tempWarn = true → u = { s with power := { s.power with tempFault := true } } →
        Goes (.tempDetector tj) s (u.occur 20 0 (fun _ => some (7, 1, ubits 32 tj))))) ∧
    (∀ mv, s.md.mode.timed = true →
      (mv < 1900 → s.power.vbatLow = false → Goes (.vbatLow mv) s (({ s with power := { s.power with vbatLow := true } } : State).raise 8 0 mv)) ∧
      (1900 ≤ mv → Goes (.vbatLow mv) s { s with power := { s.power with vbatLow := false } })) ∧
    (∀ (a : Fin 5) (off : Nat), s.md.mode.timed = true →
      (a.val < 4 → u = { s with power := { s.power with eccCorr := Tbl.put s.power.eccCorr a.val (cadd (Tbl.get 0 s.power.eccCorr a.val) 1) } } →
        Goes (.memEccError a false off) s (u.occur 17 a.val (fun st => some (126, a.val, st)))) ∧
      (a.val < 4 → v = { s with power := { s.power with eccUnc := cadd s.power.eccUnc 1 } } →
        Goes (.memEccError a true off) s (v.occur 18 a.val (fun _ => some (127, a.val, off % 2 ^ 32)))) ∧
      (Goes (.memEccError 4 true off) s (s.internalFault 4)) ∧
      (Goes (.scrubPass [a]) s (s.corrected a.val) ∧ Goes (.scrubPass []) s s))

/-- Power and resets (R420, R422, R423, R425, R428, R436, R444, R447): PORST, the response of a reset command and leaving EXTEST enter
RESET with everything cleared that a reset clears; in DORMANT the level of PORST is noted; when RESET ends the straps are sampled and
BOOT begins; losing a rail is DORMANT at once, with the BBR kept where VBAT stands; the rails in range end DORMANT; the BBR change
supply without loss, and VBAT's own clear empties them; EXTEST puts every bank to sleep. -/
def Obligations.PowerEvents : Prop :=
  ∀ (s t : State),
    (s.md.mode ≠ .dormant → t = s.cleared s.settleBbr →
      Goes .porstLow s { t with md := { mode := .reset, retained := false, asleep := false, porst := true } }) ∧
    (s.md.mode = .dormant → Goes .porstLow s { s with md := { s.md with porst := true } }) ∧
    (∀ x : StrapLevels, s.md.mode = .reset → Goes (.resetEnd x) s { s with
      straps := { cid := x.cid.val, lead := x.lead, hsel := x.hsel, side := x.side, bootsel := x.bootsel.val }
      md := { s.md with mode := .boot, porst := false, clearing := true } }) ∧
    (∀ x : StrapLevels, s.md.mode ≠ .reset → Goes (.resetEnd x) s s) ∧
    (∀ (r : Bool) (d : Nat), s.md.sysReset = some (r, d) → t = s.cleared s.settleBbr →
      Goes .sysResetExpiry s { t with md := { mode := .reset, retained := r, asleep := r, porst := false } }) ∧
    (s.md.sysReset = none → Goes .sysResetExpiry s s) ∧
    (s.md.mode ≠ .dormant →
      (t = s.cleared { s.bbr with running := none, onVbat := true } → Goes (.railPowerFail true) s { t with
        md := { mode := .dormant, porst := s.md.porst }, power := { railsOk := false }, host := { perst := s.host.perst }, can := {}, mem := {} }) ∧
      (t = s.cleared s.lostBbr → Goes (.railPowerFail false) s { t with
        md := { mode := .dormant, porst := s.md.porst }, free := s.free + 1024
        power := { railsOk := false }, host := { perst := s.host.perst }, can := {}, mem := {} })) ∧
    (∀ b, s.md.mode = .dormant → Goes (.railPowerFail b) s s) ∧
    (s.md.mode = .dormant → Goes .railsInRange s
      { s with md := { s.md with mode := .reset, retained := false }, power := { s.power with railsOk := true } }) ∧
    (s.md.mode ≠ .dormant → Goes .railsInRange s s ∧ Goes .vbatPowerOnClear s s) ∧
    (∀ b, Goes (.bbrSupplyChangeover b) s { s with bbr := { s.bbr with onVbat := b } }) ∧
    (s.md.mode = .dormant → Goes .vbatPowerOnClear s { s with bbr := { s.bbr with words := [] } }) ∧
    (s.md.mode ≠ .dormant → Goes .extestEntry s { s with md := { s.md with extest := true, asleep := true } }) ∧
    (s.md.extest = true → t = s.cleared s.settleBbr →
      Goes .extestExit s { t with md := { mode := .reset, retained := true, asleep := true, porst := false } }) ∧
    (s.md.extest = false → Goes .extestExit s s)

/-- BOOT (R361 to R364, R402, R423, R427, R428, R434): the banks wake; the memories are cleared, after a recovery reset kept; with BOOTSEL 3
the loader is entered at once; a good image ends the trials, a bad one is marked tried, and where every permitted one is bad the loader
is entered; the self-test's result is kept, a core that fails is fenced, a safety processor that fails is internal fault 4 and one whose
hardwired part fails is 5; when BOOT is done the envelope limits and the settings take effect, the slack words
read the gear's cycle, the mailbox is ready, event 1 is raised, the seals are checked, and what the self-test found and a link already up
are told. -/
def Obligations.BootEvents : Prop :=
  ∀ (s u v : State), s.md.mode = .boot →
    (Goes .bankWake s { s with md := { s.md with asleep := false } }) ∧
    (s.md.clearing = true → s.md.asleep = false → s.md.retained = true → s.straps.bootsel ≠ 3 →
      Goes .memoryClearDone s { s with md := { s.md with clearing := false } }) ∧
    (s.md.clearing = true → s.md.asleep = false → s.md.retained = false →
      u = { s with
        md := { s.md with clearing := false }, mem := {}, host := { s.host with cmdMem := [], rspMem := [], evtMem := [] }
        can := { s.can with p0 := { s.can.p0 with txMem := [], rxMem := [] }, p1 := { s.can.p1 with txMem := [], rxMem := [] } } } →
      (s.straps.bootsel ≠ 3 → Goes .memoryClearDone s u) ∧ (s.straps.bootsel = 3 → Goes .memoryClearDone s u.enterLoader)) ∧
    (∀ h : ImageHeader, s.md.clearing = false → s.host.loader = false → s.md.imageOk = false → s.imageDue h.slotB = true →
      (imageOk h = true → Goes (.imageVerified h) s { s with
        fw := s.fw.setSlot h.slotB ((s.fw.slot h.slotB).checked h)
        md := { s.md with imageOk := true }, host := { s.host with imageB := h.slotB, fallback := s.md.tried != 0 } }) ∧
      (imageOk h = false → u = { s with
          fw := s.fw.setSlot h.slotB ((s.fw.slot h.slotB).checked h)
          md := { s.md with tried := putBit s.md.tried (b2n h.slotB) true } } →
        (u.allTried = true → Goes (.imageVerified h) s u.enterLoader) ∧ (u.allTried = false → Goes (.imageVerified h) s u))) ∧
    (∀ f : SelfTest, s.md.imageOk = true → s.md.tested = false → v = (setBits 16 f.cores.toNat).foldl (fun t k => t.fence k 4 none) s →
      u = { v with
        md := { v.md with
          tested := true, safetyBad := f.safety, hardwired := f.hardwired
          selfTest := f.cores.toNat + bitAt 16 f.convS + bitAt 17 f.convP }
        pins := { v.pins with convS := { v.pins.convS with off := f.convS }, convP := { v.pins.convP with off := f.convP } } } →
      (f.safety = false → f.hardwired = false → Goes (.selfTestDone f) s u) ∧
      (f.safety = true → Goes (.selfTestDone f) s (u.internalFault 4)) ∧
      (f.safety = false → f.hardwired = true → Goes (.selfTestDone f) s (u.internalFault 5))) ∧
    (∀ (g : Nat) (b : Arbiter), s.md.tested = true → s.host.loader = false → g = s.bootGear → b = s.arbLimits →
      s.limitsOk g s.ch0.active s.ch1.active = true → s.curAxesOk g = true →
      u = ({ s with
        md := { s.md with bootDone := true }
        host := { s.host with fwRunning := true, mbxReady := true }
        env := { s.env with inForce := (List.range 512).map (fun k => (k, s.bbr.word (0x100 + k))) }
        arb := b, clk := { s.clk with gear := g }
        room := { s.room with slackLast := (tcOf g : Nat), slackMin := (tcOf g : Nat), projLast := (tcOf g : Nat), projMin := (tcOf g : Nat) }
        faults := { s.faults with hbTime := s.now, hbNow := false } } : State).enter .configure 6 →
      v = (u.raise 1 (bitAt 0 u.host.imageB + bitAt 1 u.host.fallback + bitAt 2 u.md.retained) u.md.selfTest) →
      (∀ w x, w = [0, 1, 2, 3].foldl (fun t r => t.checkSeal r true) v →
        x = w.raiseAll ((if w.md.safetyBad then [(93, 4, 0)] else []) ++ (if w.md.hardwired then [(93, 5, 0)] else [])) →
        (x.md.linkSeen = false → Goes .bootDone s x) ∧
        (x.md.linkSeen = true → Goes .bootDone s (x.raise 11 (x.host.gen + bitAt 2 x.host.x2) 0))))

/-! ## Reset values, rules and frames -/

/-- Right after a reset the queues are empty and the mailbox is not ready, every event is masked and routed to vector 0, every zone is in
STO with no pair energised, `EMPTY_TH` is 16, and both memories read 0 (R61, R259, R268, R352, R360, R361, R427). -/
def Obligations.ResetValues : Prop :=
  State.reset.pending = [] ∧ State.reset.host.mbxReady = false ∧ State.reset.host.cmdCount = 0 ∧ State.reset.host.evtCount = 0 ∧
  State.reset.host.rspHead = State.reset.host.rspTail ∧ State.reset.irq.mask = 2 ^ 128 - 1 ∧ State.reset.irq.pend = 0 ∧
  State.reset.irq.route = [] ∧ (∀ e, State.reset.irq.vector e = 0) ∧ State.reset.safe.sto = 0xFF ∧ State.reset.safe.sideA = 0 ∧
  State.reset.safe.sideB = 0 ∧ State.reset.ch0.emptyTh = 16 ∧ State.reset.ch1.emptyTh = 16 ∧ PairsSafe State.reset ∧
  (∀ a, State.reset.mem.trace.read a = 0 ∧ State.reset.mem.exch.read a = 0)

/-- When the event queue is full, a new entry is not written, its pending bit is still set, and `HS.EVT_LOST` is set. When space returns,
the device first writes one entry with event 121, whose `ARG32` gives the number of entries lost; it writes later events only after
that entry (R359). -/
def Obligations.EventQueueOverflow : Prop :=
  ∀ (s t : State) (n : Nat) (w : List Word),
    (s.host.evtCount = 256 → t = s.post n w → t.host.evtMem = s.host.evtMem ∧ t.host.evtTail = s.host.evtTail ∧ t.irq.pend.testBit n = true ∧
      t.host.evtLost = true ∧ t.host.lost = cadd s.host.lost 1) ∧
    (s.host.lost ≠ 0 → s.host.evtCount ≠ 256 → Goes .eventLost s t →
      t.host.evtMem = evtInsert s.host.evtMem s.host.evtTail (eventWords 121 false s.straps.cid 0 s.host.lost s.now) s.host.evtCount ∧
      t.host.evtTail = (s.host.evtTail + 1) % 512 ∧ t.host.lost = 0 ∧ t.irq.pend.testBit 121 = true ∧ s.post n w = t.post n w) ∧
    (s.host.lost ≠ 0 → s.host.evtCount ≠ 256 → ∃ u, Goes .eventLost s u) ∧
    (∀ (mem : Tbl Word) (tail k : Nat), fld (pw (Tbl.getRange 0 mem (4 * ((tail + 511) % 256)) 4) 0) 6 0 = 121 →
      evtInsert mem tail w k = Tbl.putRange mem (4 * (tail % 256)) w)

/-- A write to a host-written index is ignored, and `HS.DB_ERR` is set, where it would make a queue hold more than its size, would move
the consumer index beyond the producer index, or has non-zero bits above the index field; any other write moves the index and leaves
`HS.DB_ERR` as it was; a write of `CMDQ_TAIL` starts command processing (R353). The port is open and the mailbox ready (R361). -/
def Obligations.IndexWriteRules : Prop :=
  ∀ (s u : State) (v : Word), s.portOpen = true → u = s.bar0Write → u.host.mbxReady = true →
    (128 ≤ v.toNat ∨ 64 < (v.toNat + 128 - u.host.cmdHead) % 128 →
      Goes (.cmdqTailWrite v) s ({ u with host := { u.host with dbErr := true } } : State).serve) ∧
    (v.toNat < 128 → (v.toNat + 128 - u.host.cmdHead) % 128 ≤ 64 →
      Goes (.cmdqTailWrite v) s ({ u with host := { u.host with cmdTail := v.toNat } } : State).serve) ∧
    (128 ≤ v.toNat ∨ (u.host.rspTail + 128 - u.host.rspHead) % 128 < (v.toNat + 128 - u.host.rspHead) % 128 →
      Goes (.rspqHeadWrite v) s ({ u with host := { u.host with dbErr := true } } : State).serve) ∧
    (v.toNat < 128 → (v.toNat + 128 - u.host.rspHead) % 128 ≤ (u.host.rspTail + 128 - u.host.rspHead) % 128 →
      Goes (.rspqHeadWrite v) s ({ u with host := { u.host with rspHead := v.toNat } } : State).serve) ∧
    (512 ≤ v.toNat ∨ (u.host.evtTail + 512 - u.host.evtHead) % 512 < (v.toNat + 512 - u.host.evtHead) % 512 →
      Goes (.evtqHeadWrite v) s { u with host := { u.host with dbErr := true } }) ∧
    (v.toNat < 512 → (v.toNat + 512 - u.host.evtHead) % 512 ≤ (u.host.evtTail + 512 - u.host.evtHead) % 512 →
      Goes (.evtqHeadWrite v) s { u with host := { u.host with evtHead := v.toNat } })

/-- When A and B both change in the same sample, the count is unchanged, DOUBLE_EDGE is counted, and the velocity of that cycle is not
measured: the last velocity stands and `SPEED_DISCARDED` is set; the next cycle measures from the last single edge of this cycle, or
from this cycle's latch when there was none (R230). -/
def Obligations.DoubleEdge : Prop :=
  ∀ (s u : State) (n : Fin 16) (f : FbPort) (t : Nat), s.pinsLive = true → 2 ≤ f.mode → f = s.fbp n.val → u = s.by t →
    Goes (.quadratureEdge n .double t) s ((u.setFb n.val { f with dbl := true }).occur 12 n.val (fun st => some (71, n.val, st))) ∧
    (∀ (g : FbPort) (ts tc : Nat), f.dbl = true → g = f.latch ts tc →
      g.count = f.count ∧ g.res.discarded = true ∧ g.res.doubleEdge = true ∧
      (f.firstLatch = false → g.vPrev = f.vPrev ∧ g.res.vel = wdi f.vPrev) ∧
      (f.edge = true → g.cr = f.ce ∧ g.tr = f.te) ∧ (f.edge = false → g.cr = f.count ∧ g.tr = ts) ∧
      (∀ (e : FbPort) (ts' tc' : Nat), e.cr = g.cr → e.tr = g.tr → e.edge = true → e.dbl = false → e.revLast = false → e.firstLatch = false →
        (e.latch ts' tc').vPrev = satS 32 (divRne (sgn 32 (ubits 32 (e.ce - g.cr)) * tc' * 65536) (e.te - g.tr))))

/-- A failed read-back, the level differing from its command that has stood for 100 µs (R273), de-energises both sides of the pair, is lasting at its first occurrence and raises event 90; it is an internal
fault; safety faults are never counted in windows (R274). -/
def Obligations.FailedReadBack : Prop :=
  ∀ (s t : State) (p : Fin 4) (b x : Bool), s.md.mode.heads = true → s.safe.pairFault.testBit p.val = false → x ≠ s.safe.side p.val b →
    Tbl.get 0 s.safe.changedAt p.val + 100000 ≤ s.now → Goes (.outTestFail p b x) s t →
    t = ((({ s with safe := s.safe.failPair p.val } : State).drivePairs.raise 90 (p.val + bitAt 2 b) 0).fixedFault 34 p.val 5).internalFault 6 ∧
    t.safe.sideA.testBit p.val = false ∧ t.safe.sideB.testBit p.val = false ∧ t.safe.pairFault.testBit p.val = true ∧ t.safe.internal = true ∧
    t.faults.transient = s.faults.transient ∧ ∀ cls idx, cls ≤ 20 → t.faults.get cls idx = s.faults.get cls idx

/-- A result that passes the envelope (R252, R253): outside a window that holds at zero motion, it lies within `STEP_MAX` of the last
released command, and within `CMD_MAX` wherever that command does; it is counted as clamped exactly where it was changed; at zero
motion the command is zero. Duty passes unclamped (R250) and position targets have the rule of Table 11.3. -/
def Obligations.EnvelopeBounds : Prop :=
  ∀ (s : State) (i kind m : Nat) (r z : Result) (cl : Bool) (last : Int), kind ≠ 4 → s.envelope i kind r = some (z, cl) →
    last = (s.ax i).lastTarget kind → m = (if kind = 1 ∨ kind = 5 then (s.envOf i).cmdScaled else (s.envOf i).cmd) →
    (s.zeroMotion i = true → z.target = 0 ∧ z.ff1 = 0 ∧ z.ff2 = 0 ∧ cl = false) ∧
    (s.zeroMotion i = false → (z.target - last).natAbs ≤ (s.envOf i).step ∧ (last.natAbs ≤ m → z.target.natAbs ≤ m) ∧
      (cl = false ↔ z = r))

/-- Zones that enter STO (R259, R268, R276): they stand in STO beside those that were, none of them is under the test of a re-arming edge,
no side of a pair that serves a zone in STO and not under such a test stays energised, and the mode stays; zones that all stand in STO
already change nothing, but that what such a test energised for them goes off. -/
def Obligations.StoEntryDeenergises : Prop :=
  ∀ (s t : State) (z c : Nat), t = s.enterSto z c →
    (z % 256 - (z % 256 &&& s.safe.sto) ≠ 0 → t.safe.sto = s.safe.sto ||| z % 256 ∧ t.safe.test.zones &&& z % 256 = 0 ∧
      PairsSafe t ∧ t.md = s.md) ∧
    (z % 256 - (z % 256 &&& s.safe.sto) = 0 → (s.safe.test.zones &&& z % 256 = 0 → t = s) ∧
      (s.safe.test.zones &&& z % 256 ≠ 0 → t = ({ s with safe := s.safe.endTest (z % 256) } : State).drivePairs ∧ PairsSafe t))

/-- Only nine rows of the table write the addressed memories (R189, R350, R351, R385, R390, R396, R427, R447): after any other command every byte of trace
and of exchange memory reads as before, and a trace record leaves exchange memory and, where the memories are in canonical form (an invariant, StepKeepsMemoriesCanonical),
every byte of trace memory outside what it writes from the start of its slot. -/
def Obligations.OnlyTheseRowsWriteTheMemories : Prop :=
  ∀ (i : Instr) (s t : State), Goes i s t →
    (i.writesRams = false → ∀ a, t.mem.trace.read a = s.mem.trace.read a ∧ t.mem.exch.read a = s.mem.exch.read a) ∧
    (i = .traceRecordWrite → s.mem.Ok → ∀ a, t.mem.exch.read a = s.mem.exch.read a ∧
      (∀ r l, s.trace.stage = r :: l → (a < s.trace.slots % s.trace.slotCount * s.trace.recLen ∨
        s.trace.slots % s.trace.slotCount * s.trace.recLen + 16 + (if r.gap then s.trace.recLen - 16 else r.body.length) ≤ a) →
        t.mem.trace.read a = s.mem.trace.read a))

/-- Balls by mode (R60, R290, R437, R438): the chain ports of an absent device and of one in CONFIGURE without pass-through are dark,
those in use in the later modes are not, and a parallel port that is dark or not in use holds its PHY in reset unless the rails are gone; an absent device, one whose lease lapsed and
the standby of a pair drive no motion output, the active does; SYS_FAULT# is low in RESET, in BOOT, in SAFE-HOLD and in CONFIGURE after
a lapse. -/
def Obligations.BallsFollowTheMode : Prop :=
  ∀ (s : State) (c : Nat) (right : Bool),
    let m := s.md.mode
    let kind := fld ((s.ch c).portW right) 1 0
    (m = .dormant ∨ m = .reset ∨ m = .boot → s.portDark c right = true ∧ s.drivesMotion = false) ∧
    (m = .configure → bit (s.ch c).cfg 17 = false → s.portDark c right = true) ∧
    (kind ≠ 0 → (s.ch c).enabled = true → m = .syncUp ∨ m = .runActive ∨ m = .runStandby ∨ m = .safeHold → s.portDark c right = false) ∧
    (m = .reset ∨ m = .boot ∨ (kind < 2 ∧ m ≠ .dormant) → s.phyReset c right = true) ∧
    (2 ≤ kind → (s.ch c).enabled = true → m = .syncUp ∨ m = .runActive ∨ m = .runStandby ∨ m = .safeHold → s.phyReset c right = false) ∧
    (m = .dormant → s.phyReset c right = false) ∧
    (s.twin.enable = true → m = .runStandby → s.drivesMotion = false) ∧
    (m = .runActive ∨ m = .safeHold → s.drivesMotion = !s.md.lapsed) ∧
    (m = .reset ∨ (m = .boot ∧ s.md.bootDone = false) ∨ m = .safeHold ∨ (m = .configure ∧ s.md.lapsed = true) → s.sysFault = true)
end

