-- ==== Sys2Proof/Laws/Bits.lean ====
section
/-!
SUPPORT. Words of the 128-bit interrupt registers, and masks, bit by bit.
-/
namespace Sys2Proof.Machine

/-- A number as the bits below word k, word k, and the bits above it. -/
theorem split3 (n k : Nat) : ∃ c d r, d < 2 ^ 32 ∧ r < 2 ^ (32 * k) ∧ (wordOf n k).toNat = d ∧
    n = 2 ^ (32 * k) * (2 ^ 32 * c + d) + r := by
  refine ⟨n / 2 ^ (32 * k) / 2 ^ 32, n / 2 ^ (32 * k) % 2 ^ 32, n % 2 ^ (32 * k), Nat.mod_lt _ (by decide), Nat.mod_lt _ (Nat.two_pow_pos _), ?_, ?_⟩
  · simp [wordOf, wd, BitVec.toNat_ofNat, Nat.shiftRight_eq_div_pow]
  · rw [Nat.div_add_mod, Nat.div_add_mod]

/-- Word k replaced in that form. -/
theorem putWord_eq (c d r k : Nat) (w : Word) (n : Nat) (hn : n = 2 ^ (32 * k) * (2 ^ 32 * c + d) + r) (hd : (wordOf n k).toNat = d) :
    putWord n k w = 2 ^ (32 * k) * (2 ^ 32 * c + w.toNat) + r := by
  unfold putWord at_
  rw [hd, Nat.shiftLeft_eq, Nat.shiftLeft_eq, hn, Nat.mul_add, Nat.mul_add, Nat.mul_comm d, Nat.mul_comm w.toNat]
  omega

/-- A bit of a number in that form. -/
theorem testBit3 (c d r k e : Nat) (hd : d < 2 ^ 32) (hr : r < 2 ^ (32 * k)) :
    (2 ^ (32 * k) * (2 ^ 32 * c + d) + r).testBit e =
      if e / 32 < k then r.testBit e else if e / 32 = k then d.testBit (e % 32) else c.testBit (e - 32 * k - 32) := by
  rw [Nat.testBit_two_pow_mul_add _ hr]
  by_cases h : e < 32 * k
  · have : e / 32 < k := by omega
    simp [h, this]
  · have h1 : ¬ e / 32 < k := by omega
    simp only [h, h1, if_false]
    rw [Nat.testBit_two_pow_mul_add _ hd]
    by_cases h2 : e / 32 = k
    · have : e - 32 * k < 32 := by omega
      simp only [this, h2, if_true]
      congr 1; omega
    · have : ¬ e - 32 * k < 32 := by omega
      simp only [this, h2, if_false]

/-- Word k of a register replaced: its bits are the word's, the others stay. -/
theorem putWord_testBit (n k : Nat) (w : Word) (e : Nat) :
    (putWord n k w).testBit e = if e / 32 = k then w.getLsbD (e % 32) else n.testBit e := by
  obtain ⟨c, d, r, hd, hr, hw, hn⟩ := split3 n k
  rw [putWord_eq c d r k w n hn hw, testBit3 c w.toNat r k e (w.isLt) hr]
  rw (config := {occs := .pos [1]}) [hn]
  rw [testBit3 c d r k e hd hr]
  by_cases h1 : e / 32 < k
  · have : ¬ e / 32 = k := by omega
    simp [h1, this]
  · by_cases h2 : e / 32 = k
    · have h3 : ¬ e / 32 < k := h1
      subst h2; simp [BitVec.getLsbD]
    · simp [h1, h2]

/-- A bit of word k. -/
theorem wordOf_getLsbD (n k j : Nat) : (wordOf n k).getLsbD j = (decide (j < 32) && n.testBit (32 * k + j)) := by
  simp [wordOf, wd, BitVec.getLsbD_ofNat, Nat.testBit_shiftRight]

/-- Taking away the bits two numbers share, bit by bit. -/
theorem sub_and_testBit (k : Nat) : ∀ a b : Nat, (a - (a &&& b)).testBit k = (a.testBit k && !b.testBit k) := by
  induction k with
  | zero =>
    intro a b
    have h1 : (a &&& b) % 2 = (a % 2) &&& (b % 2) := Nat.and_mod_two_pow (n := 1)
    have h2 : a &&& b ≤ a := Nat.and_le_left
    simp only [Nat.testBit_zero]
    rcases Nat.mod_two_eq_zero_or_one a with ha | ha <;> rcases Nat.mod_two_eq_zero_or_one b with hb | hb <;> rw [ha, hb] at h1
    · have : (a - (a &&& b)) % 2 = 0 := by change _ = 0 at h1; omega
      rw [ha, this]; rfl
    · have : (a - (a &&& b)) % 2 = 0 := by change _ = 0 at h1; omega
      rw [ha, this]; rfl
    · have : (a - (a &&& b)) % 2 = 1 := by change _ = 0 at h1; omega
      rw [ha, this, hb]; rfl
    · have : (a - (a &&& b)) % 2 = 0 := by change _ = 1 at h1; omega
      rw [ha, this, hb]; rfl
  | succ k ih =>
    intro a b
    rw [Nat.testBit_succ, Nat.testBit_succ, Nat.testBit_succ, ← ih]
    congr 1
    have h1 : (a &&& b) % 2 = (a % 2) &&& (b % 2) := Nat.and_mod_two_pow (n := 1)
    have h2 : (a &&& b) / 2 = a / 2 &&& b / 2 := Nat.and_div_two_pow (n := 1)
    have h3 : a &&& b ≤ a := Nat.and_le_left
    have h4 : (a / 2 &&& b / 2) ≤ a / 2 := Nat.and_le_left
    have h5 : (a &&& b) % 2 ≤ a % 2 := by rw [h1]; exact Nat.and_le_left
    omega

end Sys2Proof.Machine
end

