-- ==== Sys2Proof/Laws/Memory.lean ====
section
/-!
SUPPORT. Laws of byte memory and of tables: a read after a write, and the canonical form that every write keeps (R350, R426,
R427).
-/
namespace Sys2Proof.Machine

/-- A fold of steps that leave the addressed memories alone leaves them alone. -/
@[simp] theorem foldl_mem {α : Type} (g : State → α → State) (h : ∀ t k, (g t k).mem = t.mem) (l : List α) (s : State) :
    (l.foldl g s).mem = s.mem := by
  induction l generalizing s with
  | nil => rfl
  | cons a l ih => rw [List.foldl_cons, ih, h]

@[simp] theorem ite_mem (c : Prop) [Decidable c] (a b : State) : (if c then a else b).mem = if c then a.mem else b.mem :=
  apply_ite State.mem c a b

@[simp] theorem Rams.ok_nil : Rams.Ok {} := ⟨rfl, rfl⟩

/-- Equal memories share their canonical form. -/
theorem Rams.Ok.of_eq {m n : Rams} (h : m.Ok) (e : n = m) : n.Ok := e ▸ h

/-- A fold of steps that keep the canonical form keeps it. -/
theorem foldl_memOk {α : Type} (g : State → α → State) (h : ∀ t k, t.mem.Ok → (g t k).mem.Ok) (l : List α) (s : State) (hs : s.mem.Ok) :
    (l.foldl g s).mem.Ok := by
  induction l generalizing s with
  | nil => exact hs
  | cons a l ih => exact ih _ (h s a hs)

/-- A lower bound may be lowered. -/
theorem Memory.above_mono {a b : Nat} (h : a ≤ b) : ∀ (m : Memory), m.above b = true → m.above a = true
  | [], _ => rfl
  | (j, c) :: m, hm => by
    simp only [Memory.above, Bool.and_eq_true, decide_eq_true_eq] at hm ⊢
    exact ⟨by omega, Memory.above_mono h m hm.2⟩

/-- A write above a bound keeps the bound. -/
theorem Memory.above_write {a b : Nat} (h : a < b) (v : Byte) : ∀ (m : Memory), m.above a = true → (m.write b v).above a = true
  | [], _ => by unfold Memory.write; split <;> simp [Memory.above, h]
  | (j, c) :: m, hm => by
    simp only [Memory.above, Bool.and_eq_true, decide_eq_true_eq] at hm
    have hi := Memory.above_write h v m hm.2
    unfold Memory.write
    (repeat' split) <;> simp_all [Memory.above]

/-- A byte written keeps the canonical form. -/
theorem Memory.write_wf (a : Nat) (v : Byte) : ∀ (m : Memory), m.wf = true → (m.write a v).wf = true
  | [], _ => by unfold Memory.write; split <;> simp_all [Memory.wf, Memory.above]
  | (j, c) :: m, hm => by
    have hm0 := hm
    simp only [Memory.wf, Bool.and_eq_true, decide_eq_true_eq] at hm
    unfold Memory.write
    split
    · split
      · exact hm0
      · rename_i h hv
        simp only [Memory.wf, Memory.above, Bool.and_eq_true, decide_eq_true_eq]
        exact ⟨⟨hv, h, Memory.above_mono (Nat.le_of_lt h) m hm.1.2⟩, hm⟩
    · split
      · split
        · exact hm.2
        · rename_i h e hv
          simp only [Memory.wf, Bool.and_eq_true, decide_eq_true_eq]
          exact ⟨⟨hv, e ▸ hm.1.2⟩, hm.2⟩
      · simp only [Memory.wf, Bool.and_eq_true, decide_eq_true_eq]
        exact ⟨⟨hm.1.1, Memory.above_write (by omega) v m hm.1.2⟩, Memory.write_wf a v m hm.2⟩

/-- A run of bytes written keeps the canonical form. -/
theorem Memory.writeBytes_wf (m : Memory) (a : Nat) (l : List Byte) (h : m.wf = true) : (m.writeBytes a l).wf = true := by
  induction l generalizing m a with
  | nil => exact h
  | cons b l ih => exact ih _ _ (Memory.write_wf a b m h)

/-- A word written keeps the canonical form. -/
theorem Memory.writeWord_wf (m : Memory) (a : Nat) (w : Word) (h : m.wf = true) : (m.writeWord a w).wf = true :=
  Memory.writeBytes_wf _ _ _ h

/-- An address below every listed one reads as the blank byte. -/
theorem Memory.read_above {a : Nat} : ∀ (m : Memory), m.above a = true → m.read a = Memory.blank
  | [], _ => rfl
  | (j, c) :: m, h => by
    simp only [Memory.above, Bool.and_eq_true, decide_eq_true_eq] at h
    have hj : ¬ j = a := by omega
    simp only [Memory.read, if_neg hj]
    exact Memory.read_above m h.2

/-- A byte read after a byte written: the byte written at its address, and what stood there before at every other. -/
theorem Memory.read_write (a : Nat) (v : Byte) (x : Nat) : ∀ (m : Memory), m.wf = true →
    (m.write a v).read x = if x = a then v else m.read x
  | [], _ => by
    unfold Memory.write
    by_cases hx : x = a
    · by_cases hv : v = Memory.blank <;> simp [Memory.read, hv, hx]
    · have : ¬ a = x := fun e => hx e.symm
      by_cases hv : v = Memory.blank <;> simp [Memory.read, hv, hx, this]
  | (j, c) :: m, h => by
    simp only [Memory.wf, Bool.and_eq_true, decide_eq_true_eq] at h
    have ih := Memory.read_write a v x m h.2
    unfold Memory.write
    by_cases h1 : a < j
    · have hab : Memory.read m a = Memory.blank := Memory.read_above m (Memory.above_mono (Nat.le_of_lt h1) m h.1.2)
      have hja : ¬ j = a := by omega
      by_cases hv : v = Memory.blank
      · by_cases hx : x = a
        · subst hx; simp [h1, hv, Memory.read, hja, hab]
        · simp [h1, hv, hx]
      · by_cases hx : x = a
        · simp [h1, hv, hx, Memory.read]
        · have : ¬ a = x := fun e => hx e.symm
          simp [h1, hv, hx, Memory.read, this]
    · by_cases h2 : j = a
      · have hab : Memory.read m a = Memory.blank := Memory.read_above m (h2 ▸ h.1.2)
        by_cases hv : v = Memory.blank
        · by_cases hx : x = a
          · simp [h2, hv, hx, hab]
          · have : ¬ a = x := fun e => hx e.symm
            simp [h2, hv, hx, Memory.read, this]
        · by_cases hx : x = a
          · simp [h2, hv, hx, Memory.read]
          · have : ¬ a = x := fun e => hx e.symm
            simp [h2, hv, hx, Memory.read, this]
      · simp only [h1, h2, if_false, Memory.read, ih]
        by_cases hjx : j = x
        · have : ¬ x = a := fun e => h2 (hjx.trans e)
          simp [hjx, this]
        · simp [hjx]

/-- A byte read after a run of bytes written: the run's byte inside it, and what stood there before outside it. -/
theorem Memory.read_writeBytes (l : List Byte) (m : Memory) (a x : Nat) (h : m.wf = true) :
    (m.writeBytes a l).read x = if a ≤ x ∧ x < a + l.length then l.getD (x - a) Memory.blank else m.read x := by
  induction l generalizing m a with
  | nil =>
    have : ¬ (a ≤ x ∧ x < a + ([] : List Byte).length) := by simp
    simp only [Memory.writeBytes, if_neg this]
  | cons b l ih =>
    simp only [Memory.writeBytes]
    rw [ih _ _ (Memory.write_wf a b m h), Memory.read_write a b x m h]
    by_cases hx : x = a
    · subst hx
      first
        | (simp; done)
        | (simp; intro h1 _; omega)
    · by_cases hr : a + 1 ≤ x ∧ x < a + 1 + l.length
      · have hr' : a ≤ x ∧ x < a + (b :: l).length := by simp; omega
        rw [if_pos hr, if_pos hr']
        have : x - a = (x - (a + 1)) + 1 := by omega
        rw [this]
        simp
      · have hr' : ¬ (a ≤ x ∧ x < a + (b :: l).length) := by simp; omega
        rw [if_neg hr, if_neg hr', if_neg hx]

/-- An entry of a table after one entry is set. -/
@[simp] theorem Tbl.get_put {α : Type} (d : α) (k x : Nat) (v : α) : ∀ (t : Tbl α),
    Tbl.get d (Tbl.put t k v) x = if k = x then v else Tbl.get d t x
  | [] => rfl
  | (j, w) :: t => by
    have ih := Tbl.get_put d k x v t
    unfold Tbl.put
    by_cases h1 : k < j
    · simp [h1, Tbl.get]
    · by_cases h2 : j = k
      · by_cases hx : k = x <;> simp [h2, hx, Tbl.get]
      · by_cases hj : j = x
        · have : ¬ k = x := fun e => h2 (hj.trans e.symm)
          rw [if_neg h1, if_neg h2, if_neg this]
          simp [hj, Tbl.get]
        · simp [h1, h2, hj, Tbl.get, ih]

/-- An entry of a table after one entry is changed. -/
theorem Tbl.get_upd {α : Type} (d : α) (t : Tbl α) (k x : Nat) (f : α → α) :
    Tbl.get d (Tbl.upd d t k f) x = if k = x then f (Tbl.get d t k) else Tbl.get d t x := Tbl.get_put d k x _ t

end Sys2Proof.Machine
end

