-- ==== Sys2Proof/Laws/OpsMem.lean ====
section
/-!
SUPPORT. The shared operations leave the addressed memories as they stand: one lemma per operation, cited in place of its
unfolding. What writes them is under `Laws/EventMem.lean`.
-/
namespace Sys2Proof.Machine

@[simp] theorem State.to_mem (s : State) (t : Nat) : (State.to s t).mem = s.mem := by
  rfl

@[simp] theorem State.by_mem (s : State) (t : Nat) : (State.by s t).mem = s.mem := by
  simp [State.by]

@[simp] theorem State.setCh_mem (s : State) (c : Nat) (x : Chain) : (State.setCh s c x).mem = s.mem := by
  simp [State.setCh]

@[simp] theorem State.updCh_mem (s : State) (c : Nat) (f : Chain → Chain) : (State.updCh s c f).mem = s.mem := by
  simp [State.updCh]

@[simp] theorem State.setAx_mem (s : State) (i : Nat) (x : Axis) : (State.setAx s i x).mem = s.mem := by
  rfl

@[simp] theorem State.updAx_mem (s : State) (i : Nat) (f : Axis → Axis) : (State.updAx s i f).mem = s.mem := by
  rfl

@[simp] theorem State.setPin_mem (s : State) (n : Nat) (x : PulseIn) : (State.setPin s n x).mem = s.mem := by
  rfl

@[simp] theorem State.setStp_mem (s : State) (n : Nat) (x : StepPort) : (State.setStp s n x).mem = s.mem := by
  rfl

@[simp] theorem State.setFb_mem (s : State) (n : Nat) (x : FbPort) : (State.setFb s n x).mem = s.mem := by
  rfl

@[simp] theorem State.setConv_mem (s : State) (x : Nat) (c : Conv) : (State.setConv s x c).mem = s.mem := by
  simp [State.setConv]

@[simp] theorem State.setCan_mem (s : State) (n : Nat) (p : CanPort) : (State.setCan s n p).mem = s.mem := by
  simp [State.setCan]

@[simp] theorem State.setTt_mem (s : State) (n : Nat) (t : CanTt) : (State.setTt s n t).mem = s.mem := by
  simp [State.setTt]

@[simp] theorem State.signal_mem (s : State) (e : Nat) : (State.signal s e).mem = s.mem := by
  rfl

@[simp] theorem State.flushLost_mem (s : State) : (State.flushLost s).mem = s.mem := by
  simp [State.flushLost]

@[simp] theorem State.post_mem (s : State) (n : Nat) (w : List Word) : (State.post s n w).mem = s.mem := by
  simp [State.post]

@[simp] theorem State.raise_mem (s : State) (n : Nat) (a16 : Nat) (a32 : Nat) : (State.raise s n a16 a32).mem = s.mem := by
  simp [State.raise]

@[simp] theorem State.raiseCh_mem (s : State) (c : Nat) (n : Nat) (a16 : Nat) (a32 : Nat) : (State.raiseCh s c n a16 a32).mem = s.mem := by
  simp [State.raiseCh]

@[simp] theorem State.raiseAll_mem (s : State) (l : List EvReq) : (s.raiseAll l).mem = s.mem := by
  induction l generalizing s with
  | nil => rfl
  | cons a l ih => simp [State.raiseAll, ih]

@[simp] theorem State.respondAs_mem (s : State) (member : Nat) (r : MsgRef) (status : Nat) (p : List Word) : (State.respondAs s member r status p).mem = s.mem := by
  simp [State.respondAs]

@[simp] theorem State.respond_mem (s : State) (r : MsgRef) (status : Nat) (p : List Word) : (State.respond s r status p).mem = s.mem := by
  simp [State.respond]

@[simp] theorem State.profEvents_mem (s : State) (i : Nat) (l : List PEvent) : (s.profEvents i l).mem = s.mem := by
  induction l generalizing s with
  | nil => rfl
  | cons a l ih => cases a <;> simp [State.profEvents, ih]

@[simp] theorem State.markChanged_mem (s : State) (i : Nat) : (State.markChanged s i).mem = s.mem := by
  simp [State.markChanged]

@[simp] theorem State.putReq_mem (s : State) (i : Nat) (o : ReqOut) : (State.putReq s i o).mem = s.mem := by
  simp [State.putReq]

@[simp] theorem State.endJob_mem (s : State) (j : Nat) (st : Nat) : (State.endJob s j st).mem = s.mem := by
  simp [State.endJob]

@[simp] theorem State.stopJob_mem (s : State) (j : Nat) : (State.stopJob s j).mem = s.mem := by
  simp [State.stopJob]

@[simp] theorem State.stopChirp_mem (s : State) (i : Nat) : (State.stopChirp s i).mem = s.mem := by
  simp [State.stopChirp]

@[simp] theorem State.stopChirps_mem (s : State) : (State.stopChirps s).mem = s.mem := by
  simp [State.stopChirps]

@[simp] theorem State.quickStop_mem (s : State) (i : Nat) : (State.quickStop s i).mem = s.mem := by
  simp [State.quickStop]

@[simp] theorem State.drivePairs_mem (s : State) : (State.drivePairs s).mem = s.mem := by
  rfl

@[simp] theorem State.stoAxis_mem (s : State) (i : Nat) : (State.stoAxis s i).mem = s.mem := by
  simp [State.stoAxis]

@[simp] theorem State.enterSto_mem (s : State) (zones : Nat) (cause : Nat) : (State.enterSto s zones cause).mem = s.mem := by
  simp [State.enterSto]

@[simp] theorem State.enterSs1_mem (s : State) (zones : Nat) (cause : Nat) : (State.enterSs1 s zones cause).mem = s.mem := by
  simp [State.enterSs1]

@[simp] theorem State.modeAtBoundary_mem (s : State) (m : Mode) (cause : Nat) : (State.modeAtBoundary s m cause).mem = s.mem := by
  simp only [State.modeAtBoundary]; (repeat' split) <;> simp

@[simp] theorem State.canModes_mem (s : State) : (State.canModes s).mem = s.mem := by
  rfl

@[simp] theorem State.stopWork_mem (s : State) : (State.stopWork s).mem = s.mem := by
  rfl

@[simp] theorem State.forward_mem (s : State) (op : Nat) (p : List Word) (e : Nat) : (State.forward s op p e).mem = s.mem := by
  simp [State.forward]

@[simp] theorem State.forwardHold_mem (s : State) : (State.forwardHold s).mem = s.mem := by
  simp [State.forwardHold]

@[simp] theorem State.enter_mem (s : State) (m : Mode) (cause : Nat) : (State.enter s m cause).mem = s.mem := by
  simp [State.enter]

@[simp] theorem State.demandHold_mem (s : State) : (State.demandHold s).mem = s.mem := by
  simp only [State.demandHold]; split <;> simp

@[simp] theorem State.safeStop_mem (s : State) (cls : Nat) (i : Nat) : (State.safeStop s cls i).mem = s.mem := by
  simp [State.safeStop]

@[simp] theorem State.react_mem (s : State) (cls idx r : Nat) : (s.react cls idx r).mem = s.mem := by
  have h2 : ∀ (l : List Nat) (t : State), (l.foldl (fun t i => match t.safe.zonesOf i with
      | [] => t.safeStop cls i
      | zs => t.enterSto (ofBits zs) 6) t).mem = t.mem :=
    fun l t => foldl_mem _ (by intro t k; (try dsimp only); split <;> simp) l t
  unfold State.react
  (repeat' split) <;> first | rfl | exact h2 _ _ | simp

@[simp] theorem State.logFault_mem (s : State) (cls : Nat) (idx : Nat) (r : Nat) (fb : Bool) : (State.logFault s cls idx r fb).mem = s.mem := by
  rfl

@[simp] theorem State.raiseOpt_mem (s : State) (x : Option EvReq) : (s.raiseOpt x).mem = s.mem := by
  cases x <;> simp [State.raiseOpt]

@[simp] theorem State.occurAt_mem (s : State) (cls : Nat) (idx : Nat) (cyc : Nat) (ev : Nat → Option EvReq) : (State.occurAt s cls idx cyc ev).mem = s.mem := by
  simp only [State.occurAt]; (repeat' split) <;> simp

@[simp] theorem State.occur_mem (s : State) (cls : Nat) (idx : Nat) (ev : Nat → Option EvReq) : (State.occur s cls idx ev).mem = s.mem := by
  simp [State.occur]

theorem Faults.get_cls (f : Faults) (c i : Nat) : (f.get c i).cls = c := by
  unfold Faults.get
  cases h : f.inst.find? (fun x => x.cls == c && x.idx == i) with
  | none => rfl
  | some y => have := List.find?_some h; simp at this; exact this.1

/-- Writing the instance of one class leaves every other class's as it was. -/
theorem Faults.get_putInst_ne (f : Faults) (x : FaultInst) (c i : Nat) (h : c ≠ x.cls) : (f.putInst x).get c i = f.get c i := by
  have hx : ∀ j, (x.cls == c && x.idx == j) = false := fun j => by simp [Ne.symm h]
  have hm : ∀ l : List FaultInst, (l.map (fun y => if y.cls == x.cls && y.idx == x.idx then x else y)).find? (fun y => y.cls == c && y.idx == i)
      = l.find? (fun y => y.cls == c && y.idx == i) := by
    intro l
    induction l with
    | nil => rfl
    | cons y l ih =>
      rw [List.map_cons, List.find?_cons, List.find?_cons, ih]
      by_cases hy : (y.cls == x.cls && y.idx == x.idx) = true
      · rw [if_pos hy, hx]
        have : (y.cls == c && y.idx == i) = false := by simp at hy; simp [hy.1, Ne.symm h]
        rw [this]
      · rw [if_neg hy]
  unfold Faults.get Faults.putInst
  split
  · dsimp only; rw [hm]
  · dsimp only; rw [List.find?_append, List.find?_cons, hx]; simp

@[simp] theorem State.fixedFault_mem (s : State) (cls idx r : Nat) : (s.fixedFault cls idx r).mem = s.mem := by
  simp only [State.fixedFault]; split <;> simp

@[simp] theorem State.internalFault_mem (s : State) (code : Nat) : (State.internalFault s code).mem = s.mem := by
  simp [State.internalFault]

@[simp] theorem State.checkSeal_mem (s : State) (r : Nat) (atBoot : Bool) : (State.checkSeal s r atBoot).mem = s.mem := by
  simp [State.checkSeal]

@[simp] theorem State.bbrWrite_mem (s : State) (r : Nat) (a : Nat) (ws : List Word) : (State.bbrWrite s r a ws).mem = s.mem := by
  simp [State.bbrWrite]

@[simp] theorem State.arbRaise_mem (s : State) (r : Nat) (w : Nat) : (State.arbRaise s r w).mem = s.mem := by
  simp [State.arbRaise]

@[simp] theorem State.arbGrant_mem (s : State) (r : Nat) : (State.arbGrant s r).mem = s.mem := by
  simp only [State.arbGrant]; (repeat' split) <;> simp

@[simp] theorem State.arbCut_mem (s : State) (r : Nat) (w : Nat) : (State.arbCut s r w).mem = s.mem := by
  simp [State.arbCut]

@[simp] theorem State.canState_mem (s : State) (n : Nat) (cause : Nat) : (State.canState s n cause).mem = s.mem := by
  simp [State.canState]

@[simp] theorem State.canErrState_mem (s : State) (n : Nat) : (State.canErrState s n).mem = s.mem := by
  simp [State.canErrState]

@[simp] theorem State.canBusOff_mem (s : State) (n : Nat) (inTx : Option Nat) : (State.canBusOff s n inTx).mem = s.mem := by
  simp [State.canBusOff]

@[simp] theorem State.canTxFailed_mem (s : State) (n : Nat) : (State.canTxFailed s n).mem = s.mem := by
  simp only [State.canTxFailed]; split <;> simp

@[simp] theorem State.watchStart_mem (s : State) (n : Nat) (ext : Bool) (id t : Nat) : (s.watchStart n ext id t).mem = s.mem := by
  simp only [State.watchStart]; (repeat' split) <;> simp

@[simp] theorem State.startEntry_mem (s : State) (n i : Nat) (w : Option Nat) : (s.startEntry n i w).mem = s.mem := by
  simp [State.startEntry]

@[simp] theorem State.losesBus_mem (s : State) (n : Nat) : (s.losesBus n).mem = s.mem := by simp [State.losesBus]

@[simp] theorem State.safeChainReply_mem (s : State) (a : Nat) (bs : List Byte) : (State.safeChainReply s a bs).mem = s.mem := by
  simp [State.safeChainReply]

@[simp] theorem State.safeChainReplies_mem (s : State) (bs : List Byte) (l : List Nat) : (s.safeChainReplies bs l).mem = s.mem := by
  induction l generalizing s bs with
  | nil => rfl
  | cons a l ih => simp [State.safeChainReplies, ih]

@[simp] theorem State.seeHeadPdu_mem (s : State) (bs : List Byte) : (State.seeHeadPdu s bs).mem = s.mem := by
  simp [State.seeHeadPdu]

@[simp] theorem State.safeRegionIn_mem (s : State) (c : Nat) (bs : List Byte) : (State.safeRegionIn s c bs).mem = s.mem := by
  simp [State.safeRegionIn]

@[simp] theorem State.safeCanReply_mem (s : State) (f : CanFrame) : (State.safeCanReply s f).mem = s.mem := by
  simp only [State.safeCanReply]; (repeat' split) <;> simp

@[simp] theorem State.evaluate_mem (s : State) (v : SafeExchange) : (s.evaluate v).mem = s.mem := by
  simp [State.evaluate]

@[simp] theorem State.leaveSto_mem (s : State) (z : Nat) : (State.leaveSto s z).mem = s.mem := by
  simp [State.leaveSto]

@[simp] theorem State.testPairs_mem (s : State) (z : Nat) : (State.testPairs s z).mem = s.mem := by
  simp [State.testPairs]

@[simp] theorem State.rearm_mem (s : State) : (State.rearm s).mem = s.mem := by
  simp only [State.rearm]; split <;> simp

@[simp] theorem State.testPassed_mem (s : State) (pair : Nat) (sideB : Bool) : (State.testPassed s pair sideB).mem = s.mem := by
  simp [State.testPassed]

@[simp] theorem State.testExpires_mem (s : State) : (State.testExpires s).mem = s.mem := by
  simp [State.testExpires]

@[simp] theorem State.outFail_mem (s : State) (pair : Nat) (sideB : Bool) : (State.outFail s pair sideB).mem = s.mem := by
  simp [State.outFail]

@[simp] theorem State.setNd_mem (s : State) (c : Nat) (a : Nat) (n : Node) : (State.setNd s c a n).mem = s.mem := by
  simp [State.setNd]

@[simp] theorem State.queueReq_mem (s : State) (c : Nat) (a : Nat) (r : NodeReq) : (State.queueReq s c a r).mem = s.mem := by
  simp [State.queueReq]

@[simp] theorem State.queueReqs_mem (s : State) (c a : Nat) (l : List NodeReq) : (s.queueReqs c a l).mem = s.mem := by
  induction l generalizing s with
  | nil => rfl
  | cons x l ih => simp [State.queueReqs, ih]

@[simp] theorem State.deliver_mem (s : State) (c : Nat) (a : Nat) : (State.deliver s c a).mem = s.mem := by
  simp [State.deliver]

@[simp] theorem State.readDesc_mem (s : State) (c : Nat) (a : Nat) : (State.readDesc s c a).mem = s.mem := by
  simp [State.readDesc]

@[simp] theorem State.sendDelays_mem (s : State) (c : Nat) : (State.sendDelays s c).mem = s.mem := by
  simp [State.sendDelays]

@[simp] theorem State.nodeMismatch_mem (s : State) (c : Nat) (pos : Nat) (vendor : Nat) (product : Nat) : (State.nodeMismatch s c pos vendor product).mem = s.mem := by
  simp [State.nodeMismatch]

@[simp] theorem State.payApply_mem (s : State) (c a : Nat) : (State.payApply s c a).mem = s.mem := by
  simp [State.payApply]

@[simp] theorem State.descPart_mem (s : State) (c : Nat) (a : Nat) (part : Nat) (bs : List Byte) : (State.descPart s c a part bs).mem = s.mem := by
  simp [State.descPart]

@[simp] theorem State.stageReply_mem (s : State) (c : Nat) (a : Nat) (r : NodeReq) (done : Bool) : (State.stageReply s c a r done).mem = s.mem := by
  simp only [State.stageReply]; (repeat' split) <;> simp

@[simp] theorem State.driftCheck_mem (s : State) (c : Nat) (a : Nat) (cyc : Nat) (stime : Nat) (bad : Bool) : (State.driftCheck s c a cyc stime bad).mem = s.mem := by
  simp [State.driftCheck]

@[simp] theorem State.swapFails_mem (s : State) : (State.swapFails s).mem = s.mem := by
  simp only [State.swapFails]; split <;> simp

@[simp] theorem State.swapReady_mem (s : State) (w : TwinSwap) : (State.swapReady s w).mem = s.mem := by
  simp [State.swapReady]

@[simp] theorem State.swapReply_mem (s : State) (c : Nat) (a : Nat) (done : Bool) : (State.swapReply s c a done).mem = s.mem := by
  simp only [State.swapReply]; split <;> simp

@[simp] theorem State.nodeError_mem (s : State) (c a code : Nat) : (State.nodeError s c a code).mem = s.mem := by
  simp [State.nodeError]

@[simp] theorem State.finishReq_mem (s : State) (c : Nat) (a : Nat) (r : NodeReq) (ans : Option (Nat × List Byte)) : (State.finishReq s c a r ans).mem = s.mem := by
  simp only [State.finishReq]; split <;> simp

@[simp] theorem State.forgetNode_mem (s : State) (c : Nat) (a : Nat) : (State.forgetNode s c a).mem = s.mem := by
  simp [State.forgetNode]

@[simp] theorem State.admitNode_mem (s : State) (c a : Nat) : (State.admitNode s c a).mem = s.mem := by
  simp [State.admitNode]

@[simp] theorem State.takeReply_mem (s : State) (c : Nat) (p : Reply) : (State.takeReply s c p).mem = s.mem := by
  simp only [State.takeReply]; (repeat' split) <;> simp

@[simp] theorem State.takeReplies_mem (s : State) (c : Nat) (l : List Reply) : (s.takeReplies c l).mem = s.mem := by
  induction l generalizing s with
  | nil => rfl
  | cons x l ih => simp [State.takeReplies, ih]

@[simp] theorem State.launch_mem (s : State) (c : Nat) (f : TxFrame) : (State.launch s c f).mem = s.mem := by
  simp [State.launch]

@[simp] theorem State.agentRaise_mem (s : State) (agent : Nat) : (State.agentRaise s agent).mem = s.mem := by
  simp [State.agentRaise]

@[simp] theorem State.settle_mem (s : State) (c : Nat) : (State.settle s c).mem = s.mem := by
  unfold State.settle; refine foldl_mem _ ?_ _ _; intro t k; dsimp only; (repeat' split) <;> simp

@[simp] theorem State.windowHolder_mem (s : State) (c : Nat) : (State.windowHolder s c).mem = s.mem := by
  simp only [State.windowHolder]; split <;> simp

@[simp] theorem State.fill_mem (s : State) (c : Nat) (o : Bool) : (s.fill c o).1.mem = s.mem := by
  have key : ∀ (f : State × List Nat → Nat → State × List Nat) (_ : ∀ z a, (f z a).1.mem = z.1.mem) (l : List Nat) (z : State × List Nat),
      (l.foldl f z).1.mem = z.1.mem := by
    intro f hf l
    induction l with
    | nil => intro z; rfl
    | cons a l ih => intro z; rw [List.foldl_cons, ih, hf]
  unfold State.fill
  exact key _ (by intro z a; dsimp only; (repeat' split) <;> simp) _ _

@[simp] theorem State.timeReports_mem (s : State) (c : Nat) : (State.timeReports s c).mem = s.mem := by
  simp [State.timeReports]

@[simp] theorem State.placeReqs_mem (s : State) (c : Nat) (l : List Nat) : (s.placeReqs c l).1.mem = s.mem := by
  induction l generalizing s with
  | nil => rfl
  | cons x l ih => simp only [State.placeReqs]; (repeat' split) <;> simp [ih]

@[simp] theorem State.serviceFrame_mem (s : State) (c k : Nat) : (s.serviceFrame c k).mem = s.mem := by
  simp [State.serviceFrame]

@[simp] theorem State.openFrame_mem (s : State) (c : Nat) (k : Nat) : (State.openFrame s c k).mem = s.mem := by
  simp [State.openFrame]

theorem State.discards_mem {s t : State} {c : Nat} {b : Bool} {i : CopyInfo} {kind : Nat} (h : s.discards c b i kind = some t) :
    t.mem = s.mem := by
  unfold State.discards at h
  (repeat' split at h) <;> cases h <;> simp

@[simp] theorem State.seeRecord_mem (s : State) (c : Nat) (b : Bool) (again : Bool) (h : Nat) (q : CensusRec) : (State.seeRecord s c b again h q).mem = s.mem := by
  simp only [State.seeRecord]; (repeat' split) <;> simp

@[simp] theorem State.seeRecords_mem (s : State) (c : Nat) (b : Bool) (old : List CensusRec) (h : Nat) (l : List CensusRec) :
    (s.seeRecords c b old h l).mem = s.mem := by
  induction l generalizing s h with
  | nil => rfl
  | cons x l ih => simp [State.seeRecords, ih]

@[simp] theorem State.giveAddresses_mem (s : State) (c : Nat) : (State.giveAddresses s c).mem = s.mem := by
  simp [State.giveAddresses]

@[simp] theorem State.closeOrder_mem (s : State) (c : Nat) : (State.closeOrder s c).mem = s.mem := by
  simp [State.closeOrder]

@[simp] theorem State.censusBack_mem (s : State) (c : Nat) (b : Bool) (i : CopyInfo) (hops : Nat) (recs : List CensusRec) : (State.censusBack s c b i hops recs).mem = s.mem := by
  simp [State.censusBack]

@[simp] theorem State.ringBoundary_mem (s : State) (c : Nat) : (State.ringBoundary s c).mem = s.mem := by
  simp [State.ringBoundary]

@[simp] theorem State.stageMap_mem (s : State) (c : Nat) (e : Nat) (ref : Option MsgRef) : (State.stageMap s c e ref).mem = s.mem := by
  simp [State.stageMap]

@[simp] theorem State.dropStaging_mem (s : State) (c : Nat) : (State.dropStaging s c).mem = s.mem := by
  simp only [State.dropStaging]; (repeat' split) <;> simp

@[simp] theorem State.stagingBoundary_mem (s : State) (c : Nat) : (State.stagingBoundary s c).mem = s.mem := by
  simp only [State.stagingBoundary]; split <;> simp

@[simp] theorem State.removeAxis_mem (s : State) (i : Nat) : (State.removeAxis s i).mem = s.mem := by
  simp [State.removeAxis]

@[simp] theorem State.dropNode_mem (s : State) (c a : Nat) : (s.dropNode c a).mem = s.mem := by
  unfold State.dropNode
  refine (foldl_mem _ ?_ _ _).trans ?_
  · intro t k; (try dsimp only); (repeat' split) <;> simp
  · simp

@[simp] theorem State.commitChain_mem (s : State) (c : Nat) : (State.commitChain s c).mem = s.mem := by
  simp [State.commitChain]

@[simp] theorem State.commitBudget_mem (s : State) : (State.commitBudget s).mem = s.mem := by
  rfl

@[simp] theorem State.applyCommit_mem (s : State) (k : Commit) : (State.applyCommit s k).mem = s.mem := by
  simp [State.applyCommit]

@[simp] theorem State.toPhase_mem (s : State) (p : Phase) : (State.toPhase s p).mem = s.mem := by
  rfl

@[simp] theorem State.startNode_mem (s : State) (c : Nat) (e : Nat) (a : Nat) : (State.startNode s c e a).mem = s.mem := by
  simp [State.startNode]

@[simp] theorem State.stageActive_mem (s : State) (c : Nat) (e : Nat) : (State.stageActive s c e).mem = s.mem := by
  simp [State.stageActive]

@[simp] theorem State.beginDeliver_mem (s : State) : (State.beginDeliver s).mem = s.mem := by
  simp [State.beginDeliver]

@[simp] theorem State.againDeliver_mem (s : State) : (State.againDeliver s).mem = s.mem := by
  simp [State.againDeliver]

@[simp] theorem State.startupBoundary_mem (s : State) : (State.startupBoundary s).mem = s.mem := by
  simp only [State.startupBoundary]; split <;> simp

@[simp] theorem State.beginCensus_mem (s : State) : (State.beginCensus s).mem = s.mem := by
  simp [State.beginCensus]

theorem State.chargeBytes_mem {s t : State} {act n : Nat} (h : s.chargeBytes act n = some t) : t.mem = s.mem := by
  simp only [State.chargeBytes] at h
  split at h
  · cases h; rfl
  · cases h

@[simp] theorem State.countDefer_mem (s : State) (act : Nat) : (State.countDefer s act).mem = s.mem := by
  rfl

@[simp] theorem State.fitRecords_mem (s : State) (l : List Nat) : (s.fitRecords l).1.mem = s.mem := by
  induction l generalizing s with
  | nil => rfl
  | cons x l ih =>
    simp only [State.fitRecords]
    split
    · rename_i t h; rw [ih, State.chargeBytes_mem h]
    · simp

@[simp] theorem State.closeBuild_mem (s : State) (b : CopyBuild) : (s.closeBuild b).1.mem = s.mem := by
  unfold State.closeBuild
  dsimp only
  split
  · simp
  · rename_i t h; have := State.chargeBytes_mem h; simpa using this

@[simp] theorem State.sendBuild_mem (l : List Nat) : ∀ (s : State) (b : CopyBuild), (s.sendBuild b l).1.mem = s.mem := by
  induction l with
  | nil => exact fun s b => s.closeBuild_mem b
  | cons i l ih =>
    intro s b
    unfold State.sendBuild
    split
    · exact ih s b
    · split
      · rfl
      · split
        · rename_i t h; rw [ih]; exact State.chargeBytes_mem h
        · simp

@[simp] theorem State.advanceBuild_mem (s : State) (b : CopyBuild) : (s.advanceBuild b).1.mem = s.mem := by
  unfold State.advanceBuild
  split
  · rfl
  · simp

@[simp] theorem State.tryClose_mem (s : State) : (State.tryClose s).mem = s.mem := by
  simp [State.tryClose]

@[simp] theorem State.account_mem (s : State) (i n : Nat) : (s.account i n).mem = s.mem := by
  simp only [State.account]
  (repeat' split) <;> simp

@[simp] theorem State.beginCopy_mem (s : State) : (State.beginCopy s).mem = s.mem := by
  simp [State.beginCopy]

@[simp] theorem State.ackCopy_mem (s : State) (seq : Nat) : (State.ackCopy s seq).mem = s.mem := by
  rfl

@[simp] theorem State.readiness_mem (s : State) : (State.readiness s).mem = s.mem := by
  simp [State.readiness]

@[simp] theorem State.notCurrent_mem (s : State) : (State.notCurrent s).mem = s.mem := by
  simp [State.notCurrent]

@[simp] theorem State.copyIncomplete_mem (s : State) : (State.copyIncomplete s).mem = s.mem := by
  simp [State.copyIncomplete]

@[simp] theorem State.judgeCopy_mem (s : State) : (State.judgeCopy s).mem = s.mem := by
  simp [State.judgeCopy]

@[simp] theorem State.loadCopy_mem (s : State) : (State.loadCopy s).mem = s.mem := by
  simp [State.loadCopy]

@[simp] theorem State.countClamp_mem (s : State) (i : Nat) : (State.countClamp s i).mem = s.mem := by
  simp [State.countClamp]

@[simp] theorem State.envBoundary_mem (s : State) : (State.envBoundary s).mem = s.mem := by
  rfl

@[simp] theorem State.envLock_mem (s : State) : (State.envLock s).mem = s.mem := by
  simp [State.envLock]

@[simp] theorem State.keyFault_mem (s : State) (code : Nat) : (State.keyFault s code).mem = s.mem := by
  simp [State.keyFault]

@[simp] theorem State.bar0Write_mem (s : State) : (State.bar0Write s).mem = s.mem := by
  simp [State.bar0Write]

@[simp] theorem State.seesWe_mem (s : State) (we : Bool) : (State.seesWe s we).mem = s.mem := by
  simp [State.seesWe]

@[simp] theorem State.weFall_mem (s : State) : (State.weFall s).mem = s.mem := by
  simp [State.weFall]

@[simp] theorem State.envBegin_mem (s : State) (a : Nat) (v : Word) : (State.envBegin s a v).mem = s.mem := by
  rfl

@[simp] theorem State.envStore_mem (s : State) (v : Word) : (State.envStore s v).mem = s.mem := by
  simp [State.envStore]

@[simp] theorem State.envKey_mem (s0 : State) (v : Word) (we : Bool) : (State.envKey s0 v we).mem = s0.mem := by
  simp [State.envKey]

@[simp] theorem State.envData_mem (s0 : State) (v : Word) (we : Bool) : (State.envData s0 v we).mem = s0.mem := by
  simp [State.envData]

@[simp] theorem State.envSealed_mem (s : State) : (State.envSealed s).mem = s.mem := by
  simp only [State.envSealed]; (repeat' split) <;> simp

@[simp] theorem State.putItem_mem (s : State) (x : Item) (z : Item) : (State.putItem s x z).mem = s.mem := by
  rfl

@[simp] theorem State.delItem_mem (s : State) (x : Item) : (State.delItem s x).mem = s.mem := by
  rfl

@[simp] theorem State.addItem_mem (s : State) (x : Item) : (State.addItem s x).mem = s.mem := by
  simp [State.addItem]

@[simp] theorem State.spillReturn_mem (s : State) (level : Nat) : (State.spillReturn s level).mem = s.mem := by
  simp only [State.spillReturn]; split <;> simp

@[simp] theorem State.post__mem (s : State) (x : Item) : (State.post_ s x).mem = s.mem := by
  simp [State.post_]

@[simp] theorem State.tryWant_mem (s : State) (i : Nat) : (State.tryWant s i).mem = s.mem := by
  simp only [State.tryWant]; split <;> simp

@[simp] theorem State.markFlow_mem (s : State) (x : Item) : (State.markFlow s x).mem = s.mem := by
  simp only [State.markFlow]; split <;> simp

@[simp] theorem State.passOver_mem (s : State) (f k i : Nat) : (State.passOver s f k i).mem = s.mem := by
  simp [State.passOver]

@[simp] theorem State.meter_mem (s : State) (slack : Int) (proj : Int) : (State.meter s slack proj).mem = s.mem := by
  simp [State.meter]

@[simp] theorem State.closeMeter_mem (s : State) (bn1 : Nat) (tEnd : Option Nat) (run : Nat) : (State.closeMeter s bn1 tEnd run).mem = s.mem := by
  simp only [State.closeMeter]; split <;> simp

@[simp] theorem State.closeOld_mem (s : State) : (State.closeOld s).mem = s.mem := by
  simp [State.closeOld]

@[simp] theorem State.noteEnd_mem (s : State) (x : Item) : (State.noteEnd s x).mem = s.mem := by
  simp [State.noteEnd]

@[simp] theorem State.accountOf_mem (s : State) (x : Item) : (State.accountOf s x).mem = s.mem := by
  simp [State.accountOf]

@[simp] theorem State.failItem_mem (s : State) (x : Item) (timeout : Bool) : (State.failItem s x timeout).mem = s.mem := by
  simp [State.failItem]

@[simp] theorem State.passOld_mem (s : State) (f k : Nat) : (State.passOld s f k).mem = s.mem := by
  simp [State.passOld]

@[simp] theorem State.passPlaces_mem (s : State) (t : Nat) : (State.passPlaces s t).mem = s.mem := by
  simp [State.passPlaces]

@[simp] theorem State.passDue_mem (s : State) (t : Nat) : (State.passDue s t).mem = s.mem := by
  rfl

@[simp] theorem State.expire_mem (s : State) (t : Nat) : (State.expire s t).mem = s.mem := by
  simp [State.expire]

@[simp] theorem State.expireBefore_mem (s : State) : (State.expireBefore s).mem = s.mem := by
  simp [State.expireBefore]

@[simp] theorem State.start_mem (s : State) (x : Item) (e : Executor) : (State.start s x e).mem = s.mem := by
  rfl

@[simp] theorem State.dropItem_mem (s : State) (x : Item) : (State.dropItem s x).mem = s.mem := by
  simp [State.dropItem]

@[simp] theorem State.dispatchFor_mem (s : State) (e : Executor) (n : Nat) : (s.dispatchFor e n).mem = s.mem := by
  induction n generalizing s with
  | zero => rfl
  | succ n ih => simp only [State.dispatchFor]; (repeat' split) <;> simp [ih]

@[simp] theorem State.fence_mem (s : State) (k : Nat) (cause : Nat) (failing : Option Nat) : (State.fence s k cause failing).mem = s.mem := by
  simp only [State.fence]; split <;> simp

@[simp] theorem State.releaseLocal_mem (s : State) (i : Nat) (r : Result) : (State.releaseLocal s i r).mem = s.mem := by
  simp [State.releaseLocal]

@[simp] theorem State.leaves_mem (s : State) (i : Nat) (r : Result) : (State.leaves s i r).mem = s.mem := by
  rfl

@[simp] theorem State.releaseChain_mem (s : State) (x : Item) : (State.releaseChain s x).mem = s.mem := by
  simp only [State.releaseChain]; (repeat' split) <;> simp

@[simp] theorem State.traceSample_mem (s : State) (n : Nat) (bn : Nat) (ev : Nat) : (State.traceSample s n bn ev).mem = s.mem := by
  simp [State.traceSample]

@[simp] theorem State.traceBoundary_mem (s : State) (m : Nat) (endedB : Nat) (ev : Nat) : (State.traceBoundary s m endedB ev).mem = s.mem := by
  simp [State.traceBoundary]

@[simp] theorem State.setJob_mem (s : State) (j : Nat) (b : Job) : (State.setJob s j b).mem = s.mem := by
  rfl

@[simp] theorem State.postChunk_mem (s : State) (j : Nat) : (State.postChunk s j).mem = s.mem := by
  simp [State.postChunk]

@[simp] theorem State.runHolder_mem (s : State) : (State.runHolder s).mem = s.mem := by
  simp only [State.runHolder]; split <;> simp

@[simp] theorem State.reraise_mem (s : State) (j : Nat) : (State.reraise s j).mem = s.mem := by
  simp [State.reraise]

@[simp] theorem State.chirpBoundary_mem (s : State) (m : Nat) : (State.chirpBoundary s m).mem = s.mem := by
  simp [State.chirpBoundary]

@[simp] theorem State.completeCurrent_mem (s : State) (it : Item) : (State.completeCurrent s it).mem = s.mem := by
  unfold State.completeCurrent; dsimp only; split <;> simp only [State.post__mem, State.putItem_mem, State.noteEnd_mem, State.setAx_mem]

@[simp] theorem State.completeProfile_mem (s : State) (it : Item) : (State.completeProfile s it).mem = s.mem := by
  simp [State.completeProfile]

@[simp] theorem State.chargeMeasured_mem (s : State) (it : Item) (since : Nat) (occ : Nat) : (State.chargeMeasured s it since occ).mem = s.mem := by
  simp [State.chargeMeasured]

end Sys2Proof.Machine
end

