-- ==== Sys2Proof/Laws/CommandMem.lean ====
section
/-!
SUPPORT. No command of the catalogue writes the addressed memories (R350, R356): one lemma per command.
-/
namespace Sys2Proof.Machine

/-- The state an answer leaves. -/
def Answer.st : Answer → State
  | .done _ _ t => t
  | .wait t => t
@[simp] theorem Answer.st_done (st : Nat) (q : List Word) (t : State) : (Answer.done st q t).st = t := rfl
@[simp] theorem Answer.st_wait (t : State) : (Answer.wait t).st = t := rfl
@[simp] theorem ok_mem (s : State) (p : List Word) : (ok s p).st.mem = s.mem := rfl
@[simp] theorem refuse_mem (s : State) (status : Nat) : (refuse s status).st.mem = s.mem := rfl
/-- A command's body leaves the addressed memories as they stand. -/
def HostCmd.KeepsMem (c : HostCmd) : Prop := ∀ r p s, (c.run r p s).st.mem = s.mem
@[simp] theorem ite_st (c : Prop) [Decidable c] (a b : Answer) : (if c then a else b).st = if c then a.st else b.st :=
  apply_ite Answer.st c a b
@[simp] theorem Answer.finish_mem (a : Answer) (r : MsgRef) : (a.finish r).mem = a.st.mem := by
  cases a <;> simp [Answer.finish]

theorem HostCmd.carry_mem {c : HostCmd} (hc : c.KeepsMem) (r : MsgRef) (p : List Word) (s : State) : (c.carry r p s).st.mem = s.mem := by
  have h := hc r p s
  unfold HostCmd.carry
  split
  · rename_i st q t e
    rw [e] at h
    dsimp only at h ⊢
    (repeat' split) <;> simpa using h
  · rename_i t e
    rw [e] at h
    simpa using h

theorem HostCmd.gatherStart_mem {c : HostCmd} (hc : c.KeepsMem) (r : MsgRef) (p : List Word) (s : State) :
    (c.gatherStart r p s).st.mem = s.mem := by
  have h := hc r p s
  unfold HostCmd.gatherStart
  split
  · rename_i st q t e
    rw [e] at h
    (repeat' split) <;> simpa using h
  · (repeat' split) <;> simp

theorem HostCmd.execute_mem {c : HostCmd} (hc : c.KeepsMem) (r : MsgRef) (p : List Word) (s : State) : (c.execute r p s).st.mem = s.mem := by
  unfold HostCmd.execute
  dsimp only
  (repeat' split) <;> simp [HostCmd.gatherStart_mem hc, HostCmd.carry_mem hc]

@[simp] theorem State.takeSlot_mem (s : State) : (State.takeSlot s).mem = s.mem := by
  rfl

theorem HostCmd.taken_mem {c : HostCmd} (hc : c.KeepsMem) (h : Hdr) (p : List Word) (s : State) : (c.taken h p s).mem = s.mem := by
  unfold HostCmd.taken
  dsimp only
  (repeat' split) <;> simp [HostCmd.execute_mem hc]

@[simp] theorem State.qspiHold_mem (s : State) (addr : Nat) (bs : List Byte) : (State.qspiHold s addr bs).mem = s.mem := by
  simp [State.qspiHold]

@[simp] theorem State.holdEntry_mem (s : State) (ws : List Word) : (State.holdEntry s ws).mem = s.mem := by
  simp [State.holdEntry]

theorem hostCommand_mem {c : HostCmd} (hc : c.KeepsMem) (h : Hdr) (p : List Word) (s : State) : (hostCommand c h p s).mem = s.mem := by
  unfold hostCommand
  dsimp only
  (repeat' split) <;> first | rfl | simp [HostCmd.taken_mem hc]

theorem HostCmd.bridged_mem {c : HostCmd} (hc : c.KeepsMem) (h : Hdr) (p : List Word) (s : State) : (c.bridged h p s).mem = s.mem := by
  unfold HostCmd.bridged
  simp [HostCmd.execute_mem hc]

@[simp] theorem State.freshPorts_mem (s : State) (i : Nat) : (State.freshPorts s i).mem = s.mem := by
  simp [State.freshPorts]

theorem axisEnableCmd_keeps : axisEnableCmd.KeepsMem := by
  intro r p s
  simp only [axisEnableCmd]
  first | rfl | (simp; done) | ((repeat' split) <;> simp; done) | ((repeat' split) <;> simp_all; done)

theorem axisDisableCmd_keeps : axisDisableCmd.KeepsMem := by
  intro r p s
  simp only [axisDisableCmd]
  first | rfl | (simp; done) | ((repeat' split) <;> simp; done) | ((repeat' split) <;> simp_all; done)

theorem axisStatusReadCmd_keeps : axisStatusReadCmd.KeepsMem := by
  intro r p s
  simp only [axisStatusReadCmd]
  first | rfl | (simp; done) | ((repeat' split) <;> simp; done) | ((repeat' split) <;> simp_all; done)

theorem axisPrfCfgWriteCmd_keeps : axisPrfCfgWriteCmd.KeepsMem := by
  intro r p s
  simp only [axisPrfCfgWriteCmd]
  first | rfl | (simp; done) | ((repeat' split) <;> simp; done) | ((repeat' split) <;> simp_all; done)

theorem axisPrfCfgReadCmd_keeps : axisPrfCfgReadCmd.KeepsMem := by
  intro r p s
  simp only [axisPrfCfgReadCmd]
  first | rfl | (simp; done) | ((repeat' split) <;> simp; done) | ((repeat' split) <;> simp_all; done)

theorem axisMissWindowCmd_keeps : axisMissWindowCmd.KeepsMem := by
  intro r p s
  simp only [axisMissWindowCmd]
  first | rfl | (simp; done) | ((repeat' split) <;> simp; done) | ((repeat' split) <;> simp_all; done)

theorem axisStreamInfoCmd_keeps : axisStreamInfoCmd.KeepsMem := by
  intro r p s
  simp only [axisStreamInfoCmd]
  first | rfl | (simp; done) | ((repeat' split) <;> simp; done) | ((repeat' split) <;> simp_all; done)

theorem axisAuxWriteCmd_keeps : axisAuxWriteCmd.KeepsMem := by
  intro r p s
  simp only [axisAuxWriteCmd]
  first | rfl | (simp; done) | ((repeat' split) <;> simp; done) | ((repeat' split) <;> simp_all; done)

theorem canCfgWriteCmd_keeps : canCfgWriteCmd.KeepsMem := by
  intro r p s
  simp only [canCfgWriteCmd]
  first | rfl | (simp; done) | ((repeat' split) <;> simp; done) | ((repeat' split) <;> simp_all; done)

theorem canFilterWriteCmd_keeps : canFilterWriteCmd.KeepsMem := by
  intro r p s
  simp only [canFilterWriteCmd]
  first | rfl | (simp; done) | ((repeat' split) <;> simp; done) | ((repeat' split) <;> simp_all; done)

theorem canSchedWriteCmd_keeps : canSchedWriteCmd.KeepsMem := by
  intro r p s
  simp only [canSchedWriteCmd]
  first | rfl | (simp; done) | ((repeat' split) <;> simp; done) | ((repeat' split) <;> simp_all; done)

theorem canSafeWriteCmd_keeps : canSafeWriteCmd.KeepsMem := by
  intro r p s
  simp only [canSafeWriteCmd]
  first | rfl | (simp; done) | ((repeat' split) <;> simp; done) | ((repeat' split) <;> simp_all; done)

theorem canAbortCmd_keeps : canAbortCmd.KeepsMem := by
  intro r p s
  simp only [canAbortCmd]
  first | rfl | (simp; done) | ((repeat' split) <;> simp; done) | ((repeat' split) <;> simp_all; done)

theorem canRecoverCmd_keeps : canRecoverCmd.KeepsMem := by
  intro r p s
  simp only [canRecoverCmd]
  first | rfl | (simp; done) | ((repeat' split) <;> simp; done) | ((repeat' split) <;> simp_all; done)

theorem canInfoCmd_keeps : canInfoCmd.KeepsMem := by
  intro r p s
  simp only [canInfoCmd]
  first | rfl | (simp; done) | ((repeat' split) <;> simp; done) | ((repeat' split) <;> simp_all; done)

theorem canReadCmd_keeps : canReadCmd.KeepsMem := by
  intro r p s
  simp only [canReadCmd]
  first | rfl | (simp; done) | ((repeat' split) <;> simp; done) | ((repeat' split) <;> simp_all; done)

theorem diagCanCountersCmd_keeps : diagCanCountersCmd.KeepsMem := by
  intro r p s
  simp only [diagCanCountersCmd]
  first | rfl | (simp; done) | ((repeat' split) <;> simp; done) | ((repeat' split) <;> simp_all; done)

@[simp] theorem State.postFrom_mem (s : State) (c : Nat) (k : Nat) (b : Bool) (fb : Feedback) : (State.postFrom s c k b fb).mem = s.mem := by
  simp [State.postFrom]

@[simp] theorem State.postHeld_mem (s : State) (c : Nat) (k : Nat) : (State.postHeld s c k).mem = s.mem := by
  simp [State.postHeld]

@[simp] theorem State.candidate_mem (s : State) (c : Nat) (b : Bool) (k : Nat) (fb : Feedback) : (State.candidate s c b k fb).mem = s.mem := by
  simp only [State.candidate]; (repeat' split) <;> simp

@[simp] theorem State.takeFb_mem (s : State) (c : Nat) (i : Nat) (fb : Feedback) : (State.takeFb s c i fb).mem = s.mem := by
  rfl

@[simp] theorem State.takeLoad_mem (s : State) (c : Nat) (k : Nat) (q : Word) : (State.takeLoad s c k q).mem = s.mem := by
  simp [State.takeLoad]

@[simp] theorem State.nodeBits_mem (s : State) (i : Nat) (fb : Feedback) : (State.nodeBits s i fb).mem = s.mem := by
  simp [State.nodeBits]

@[simp] theorem State.refCheck_mem (s : State) (i : Nat) (fb : Feedback) : (State.refCheck s i fb).mem = s.mem := by
  simp [State.refCheck]

@[simp] theorem State.confirmSpoke_mem (s : State) (c : Nat) (b : Bool) (k : Nat) : (State.confirmSpoke s c b k).mem = s.mem := by
  simp only [State.confirmSpoke]; split <;> simp

@[simp] theorem State.discardCopy_mem (s : State) (c : Nat) (b : Bool) : (s.discardCopy c b).mem = s.mem := by
  unfold State.discardCopy
  dsimp only
  refine (foldl_mem _ ?_ _ _).trans ?_
  · intro t k; (try dsimp only); (repeat' split) <;> simp
  · simp

@[simp] theorem State.bothDone_mem (s : State) (c : Nat) : (State.bothDone s c).mem = s.mem := by
  simp [State.bothDone]

@[simp] theorem State.noteRing_mem (s : State) (c : Nat) (b : Bool) (i : CopyInfo) : (State.noteRing s c b i).mem = s.mem := by
  simp [State.noteRing]

@[simp] theorem State.confirmCopy_mem (s : State) (c : Nat) (b : Bool) (i : CopyInfo) : (State.confirmCopy s c b i).mem = s.mem := by
  simp [State.confirmCopy]

@[simp] theorem State.copyReturns_mem (s : State) (c : Nat) (b : Bool) (i : CopyInfo) : (State.copyReturns s c b i).mem = s.mem := by
  simp [State.copyReturns]

@[simp] theorem State.loseCopy_mem (s : State) (c : Nat) (b : Bool) : (State.loseCopy s c b).mem = s.mem := by
  simp [State.loseCopy]

@[simp] theorem State.closeWindow_mem (s : State) (c : Nat) : (State.closeWindow s c).mem = s.mem := by
  simp [State.closeWindow]

@[simp] theorem State.fillFrame_mem (s : State) (c : Nat) (l : List (Nat × Word)) : (s.fillFrame c l).1.mem = s.mem := by
  induction l generalizing s with
  | nil => rfl
  | cons x l ih => simp only [State.fillFrame]; (repeat' split) <;> simp [ih]

@[simp] theorem State.launchServo_mem (s : State) (c : Nat) (rolling : Bool) : (State.launchServo s c rolling).mem = s.mem := by
  simp [State.launchServo]

@[simp] theorem State.noLaunch_mem (s : State) (c : Nat) : (State.noLaunch s c).mem = s.mem := by
  simp [State.noLaunch]

theorem chainCfgWriteCmd_keeps : chainCfgWriteCmd.KeepsMem := by
  intro r p s
  simp only [chainCfgWriteCmd]
  first | rfl | (simp; done) | ((repeat' split) <;> simp; done) | ((repeat' split) <;> simp_all; done)

theorem chainCfgReadCmd_keeps : chainCfgReadCmd.KeepsMem := by
  intro r p s
  simp only [chainCfgReadCmd]
  first | rfl | (simp; done) | ((repeat' split) <;> simp; done) | ((repeat' split) <;> simp_all; done)

theorem chainSupvWriteCmd_keeps : chainSupvWriteCmd.KeepsMem := by
  intro r p s
  simp only [chainSupvWriteCmd]
  first | rfl | (simp; done) | ((repeat' split) <;> simp; done) | ((repeat' split) <;> simp_all; done)

theorem chainGuardWriteCmd_keeps : chainGuardWriteCmd.KeepsMem := by
  intro r p s
  simp only [chainGuardWriteCmd]
  first | rfl | (simp; done) | ((repeat' split) <;> simp; done) | ((repeat' split) <;> simp_all; done)

theorem chainMissAtWriteCmd_keeps : chainMissAtWriteCmd.KeepsMem := by
  intro r p s
  simp only [chainMissAtWriteCmd]
  first | rfl | (simp; done) | ((repeat' split) <;> simp; done) | ((repeat' split) <;> simp_all; done)

theorem chainSupvReadCmd_keeps : chainSupvReadCmd.KeepsMem := by
  intro r p s
  simp only [chainSupvReadCmd]
  first | rfl | (simp; done) | ((repeat' split) <;> simp; done) | ((repeat' split) <;> simp_all; done)

theorem chainNodeReadCmd_keeps : chainNodeReadCmd.KeepsMem := by
  intro r p s
  simp only [chainNodeReadCmd]
  first | rfl | (simp; done) | ((repeat' split) <;> simp; done) | ((repeat' split) <;> simp_all; done)

theorem chainNodeWriteCmd_keeps : chainNodeWriteCmd.KeepsMem := by
  intro r p s
  simp only [chainNodeWriteCmd]
  first | rfl | (simp; done) | ((repeat' split) <;> simp; done) | ((repeat' split) <;> simp_all; done)

theorem chainDescReadCmd_keeps : chainDescReadCmd.KeepsMem := by
  intro r p s
  simp only [chainDescReadCmd]
  first | rfl | (simp; done) | ((repeat' split) <;> simp; done) | ((repeat' split) <;> simp_all; done)

theorem chainCensusReadCmd_keeps : chainCensusReadCmd.KeepsMem := by
  intro r p s
  simp only [chainCensusReadCmd]
  first | rfl | (simp; done) | ((repeat' split) <;> simp; done) | ((repeat' split) <;> simp_all; done)

theorem chainDelayReadCmd_keeps : chainDelayReadCmd.KeepsMem := by
  intro r p s
  simp only [chainDelayReadCmd]
  first | rfl | (simp; done) | ((repeat' split) <;> simp; done) | ((repeat' split) <;> simp_all; done)

theorem diagChainCountersCmd_keeps : diagChainCountersCmd.KeepsMem := by
  intro r p s
  simp only [diagChainCountersCmd]
  first | rfl | (simp; done) | ((repeat' split) <;> simp; done) | ((repeat' split) <;> simp_all; done)

theorem timeReadCmd_keeps : timeReadCmd.KeepsMem := by
  intro r p s
  simp only [timeReadCmd]
  first | rfl | (simp; done) | ((repeat' split) <;> simp; done) | ((repeat' split) <;> simp_all; done)

theorem timeStageCmd_keeps : timeStageCmd.KeepsMem := by
  intro r p s
  simp only [timeStageCmd]
  first | rfl | (simp; done) | ((repeat' split) <;> simp; done) | ((repeat' split) <;> simp_all; done)

theorem timeRateCmd_keeps : timeRateCmd.KeepsMem := by
  intro r p s
  simp only [timeRateCmd]
  first | rfl | (simp; done) | ((repeat' split) <;> simp; done) | ((repeat' split) <;> simp_all; done)

theorem timeCpWriteCmd_keeps : timeCpWriteCmd.KeepsMem := by
  intro r p s
  simp only [timeCpWriteCmd]
  first | rfl | (simp; done) | ((repeat' split) <;> simp; done) | ((repeat' split) <;> simp_all; done)

theorem timeCapCfgCmd_keeps : timeCapCfgCmd.KeepsMem := by
  intro r p s
  simp only [timeCapCfgCmd]
  first | rfl | (simp; done) | ((repeat' split) <;> simp; done) | ((repeat' split) <;> simp_all; done)

theorem timeCapReadCmd_keeps : timeCapReadCmd.KeepsMem := by
  intro r p s
  simp only [timeCapReadCmd]
  first | rfl | (simp; done) | ((repeat' split) <;> simp; done) | ((repeat' split) <;> simp_all; done)

theorem diagActReadCmd_keeps : diagActReadCmd.KeepsMem := by
  intro r p s
  simp only [diagActReadCmd]
  first | rfl | (simp; done) | ((repeat' split) <;> simp; done) | ((repeat' split) <;> simp_all; done)

theorem diagHeadroomReadCmd_keeps : diagHeadroomReadCmd.KeepsMem := by
  intro r p s
  simp only [diagHeadroomReadCmd]
  first | rfl | (simp; done) | ((repeat' split) <;> simp; done) | ((repeat' split) <;> simp_all; done)

theorem diagSchedReadCmd_keeps : diagSchedReadCmd.KeepsMem := by
  intro r p s
  simp only [diagSchedReadCmd]
  first | rfl | (simp; done) | ((repeat' split) <;> simp; done) | ((repeat' split) <;> simp_all; done)

theorem diagQueueSnapshotCmd_keeps : diagQueueSnapshotCmd.KeepsMem := by
  intro r p s
  simp only [diagQueueSnapshotCmd]
  first | rfl | (simp; done) | ((repeat' split) <;> simp; done) | ((repeat' split) <;> simp_all; done)

theorem diagLoopCountersCmd_keeps : diagLoopCountersCmd.KeepsMem := by
  intro r p s
  simp only [diagLoopCountersCmd]
  first | rfl | (simp; done) | ((repeat' split) <;> simp; done) | ((repeat' split) <;> simp_all; done)

theorem diagCoreTestCmd_keeps : diagCoreTestCmd.KeepsMem := by
  intro r p s
  simp only [diagCoreTestCmd]
  first | rfl | (simp; done) | ((repeat' split) <;> simp; done) | ((repeat' split) <;> simp_all; done)

theorem diagMemStatusCmd_keeps : diagMemStatusCmd.KeepsMem := by
  intro r p s
  simp only [diagMemStatusCmd]
  first | rfl | (simp; done) | ((repeat' split) <;> simp; done) | ((repeat' split) <;> simp_all; done)

theorem State.placeMove_mem (s : State) (i : Nat) (m : Move) (n : Nat) (w : Bool) : (s.placeMove i m n w).st.mem = s.mem := by
  unfold State.placeMove
  dsimp only
  repeat' split
  all_goals first | rfl | (show (State.markChanged _ _).mem = _; simp)

theorem moveStartCmd_keeps : moveStartCmd.KeepsMem := by
  intro r p s
  simp only [moveStartCmd]
  repeat' split
  all_goals first | rfl | exact State.placeMove_mem _ _ _ _ _

@[simp] theorem State.request_mem (s : State) (i kind : Nat) : (s.request i kind).2.mem = s.mem := by
  simp only [State.request]; (repeat' split) <;> simp

@[simp] theorem requestRun_mem (kind : Nat) (p : List Word) (s : State) : (requestRun kind p s).st.mem = s.mem := by
  unfold requestRun
  dsimp only
  (repeat' split) <;> simp

theorem moveQuickStopCmd_keeps : moveQuickStopCmd.KeepsMem := by
  intro r p s
  simp only [moveQuickStopCmd]
  first | rfl | (simp; done) | ((repeat' split) <;> simp; done) | ((repeat' split) <;> simp_all; done)

theorem moveHoldCmd_keeps : moveHoldCmd.KeepsMem := by
  intro r p s
  simp only [moveHoldCmd]
  first | rfl | (simp; done) | ((repeat' split) <;> simp; done) | ((repeat' split) <;> simp_all; done)

theorem moveResumeCmd_keeps : moveResumeCmd.KeepsMem := by
  intro r p s
  simp only [moveResumeCmd]
  first | rfl | (simp; done) | ((repeat' split) <;> simp; done) | ((repeat' split) <;> simp_all; done)

theorem moveAbortCmd_keeps : moveAbortCmd.KeepsMem := by
  intro r p s
  simp only [moveAbortCmd]
  first | rfl | (simp; done) | ((repeat' split) <;> simp; done) | ((repeat' split) <;> simp_all; done)

@[simp] theorem State.requests_mem (s : State) (kind : Nat) (l : List Nat) : (s.requests kind l).1.mem = s.mem := by
  induction l generalizing s with
  | nil => rfl
  | cons x l ih => simp only [State.requests]; (repeat' split) <;> simp [ih]

theorem moveSetStopCmd_keeps : moveSetStopCmd.KeepsMem := by
  intro r p s
  simp only [moveSetStopCmd]
  first | rfl | (simp; done) | ((repeat' split) <;> simp; done) | ((repeat' split) <;> simp_all; done)

theorem loopCfgWriteCmd_keeps : loopCfgWriteCmd.KeepsMem := by
  intro r p s
  simp only [loopCfgWriteCmd]
  first | rfl | (simp; done) | ((repeat' split) <;> simp; done) | ((repeat' split) <;> simp_all; done)

theorem loopCfgReadCmd_keeps : loopCfgReadCmd.KeepsMem := by
  intro r p s
  simp only [loopCfgReadCmd]
  first | rfl | (simp; done) | ((repeat' split) <;> simp; done) | ((repeat' split) <;> simp_all; done)

theorem loopCurWriteCmd_keeps : loopCurWriteCmd.KeepsMem := by
  intro r p s
  simp only [loopCurWriteCmd]
  first | rfl | (simp; done) | ((repeat' split) <;> simp; done) | ((repeat' split) <;> simp_all; done)

theorem loopCoefWriteCmd_keeps : loopCoefWriteCmd.KeepsMem := by
  intro r p s
  simp only [loopCoefWriteCmd]
  first | rfl | (simp; done) | ((repeat' split) <;> simp; done) | ((repeat' split) <;> simp_all; done)

theorem loopParamWriteCmd_keeps : loopParamWriteCmd.KeepsMem := by
  intro r p s
  simp only [loopParamWriteCmd]
  first | rfl | (simp; done) | ((repeat' split) <;> simp; done) | ((repeat' split) <;> simp_all; done)

theorem loopReadyCmd_keeps : loopReadyCmd.KeepsMem := by
  intro r p s
  simp only [loopReadyCmd]
  first | rfl | (simp; done) | ((repeat' split) <;> simp; done) | ((repeat' split) <;> simp_all; done)

@[simp] theorem State.applySwap_mem (s : State) (axes : Nat) (e : Nat) : (State.applySwap s axes e).mem = s.mem := by
  simp [State.applySwap]

theorem loopSwapCmd_keeps : loopSwapCmd.KeepsMem := by
  intro r p s
  simp only [loopSwapCmd]
  first | rfl | (simp; done) | ((repeat' split) <;> simp; done) | ((repeat' split) <;> simp_all; done)

theorem loopCoefReadCmd_keeps : loopCoefReadCmd.KeepsMem := by
  intro r p s
  simp only [loopCoefReadCmd]
  first | rfl | (simp; done) | ((repeat' split) <;> simp; done) | ((repeat' split) <;> simp_all; done)

@[simp] theorem State.editShadow_mem (s : State) (c : Nat) (f : Tables → Tables) : (State.editShadow s c f).mem = s.mem := by
  simp [State.editShadow]

theorem tableWinWriteCmd_keeps : tableWinWriteCmd.KeepsMem := by
  intro r p s
  simp only [tableWinWriteCmd]
  first | rfl | (simp; done) | ((repeat' split) <;> simp; done) | ((repeat' split) <;> simp_all; done)

theorem tableMapWriteCmd_keeps : tableMapWriteCmd.KeepsMem := by
  intro r p s
  simp only [tableMapWriteCmd]
  first | rfl | (simp; done) | ((repeat' split) <;> simp; done) | ((repeat' split) <;> simp_all; done)

theorem tableNodeWriteCmd_keeps : tableNodeWriteCmd.KeepsMem := by
  intro r p s
  simp only [tableNodeWriteCmd]
  first | rfl | (simp; done) | ((repeat' split) <;> simp; done) | ((repeat' split) <;> simp_all; done)

theorem tableBudgetWriteCmd_keeps : tableBudgetWriteCmd.KeepsMem := by
  intro r p s
  simp only [tableBudgetWriteCmd]
  first | rfl | (simp; done) | ((repeat' split) <;> simp; done) | ((repeat' split) <;> simp_all; done)

theorem tableReadCmd_keeps : tableReadCmd.KeepsMem := by
  intro r p s
  simp only [tableReadCmd]
  first | rfl | (simp; done) | ((repeat' split) <;> simp; done) | ((repeat' split) <;> simp_all; done)

theorem tableStageCmd_keeps : tableStageCmd.KeepsMem := by
  intro r p s
  simp only [tableStageCmd]
  first | rfl | (simp; done) | ((repeat' split) <;> simp; done) | ((repeat' split) <;> simp_all; done)

theorem tableCommitCmd_keeps : tableCommitCmd.KeepsMem := by
  intro r p s
  simp only [tableCommitCmd]
  first | rfl | (simp; done) | ((repeat' split) <;> simp; done) | ((repeat' split) <;> simp_all; done)

theorem pulsePinCfgCmd_keeps : pulsePinCfgCmd.KeepsMem := by
  intro r p s
  simp only [pulsePinCfgCmd]
  first | rfl | (simp; done) | ((repeat' split) <;> simp; done) | ((repeat' split) <;> simp_all; done)

theorem pulseStpCfgCmd_keeps : pulseStpCfgCmd.KeepsMem := by
  intro r p s
  simp only [pulseStpCfgCmd]
  first | rfl | (simp; done) | ((repeat' split) <;> simp; done) | ((repeat' split) <;> simp_all; done)

theorem pulseReadCmd_keeps : pulseReadCmd.KeepsMem := by
  intro r p s
  simp only [pulseReadCmd]
  first | rfl | (simp; done) | ((repeat' split) <;> simp; done) | ((repeat' split) <;> simp_all; done)

theorem feedbackCfgWriteCmd_keeps : feedbackCfgWriteCmd.KeepsMem := by
  intro r p s
  simp only [feedbackCfgWriteCmd]
  first | rfl | (simp; done) | ((repeat' split) <;> simp; done) | ((repeat' split) <;> simp_all; done)

theorem feedbackCfgReadCmd_keeps : feedbackCfgReadCmd.KeepsMem := by
  intro r p s
  simp only [feedbackCfgReadCmd]
  first | rfl | (simp; done) | ((repeat' split) <;> simp; done) | ((repeat' split) <;> simp_all; done)

theorem feedbackResultReadCmd_keeps : feedbackResultReadCmd.KeepsMem := by
  intro r p s
  simp only [feedbackResultReadCmd]
  first | rfl | (simp; done) | ((repeat' split) <;> simp; done) | ((repeat' split) <;> simp_all; done)

theorem feedbackSingleReadCmd_keeps : feedbackSingleReadCmd.KeepsMem := by
  intro r p s
  simp only [feedbackSingleReadCmd]
  first | rfl | (simp; done) | ((repeat' split) <;> simp; done) | ((repeat' split) <;> simp_all; done)

theorem adcCfgWriteCmd_keeps : adcCfgWriteCmd.KeepsMem := by
  intro r p s
  simp only [adcCfgWriteCmd]
  first | rfl | (simp; done) | ((repeat' split) <;> simp; done) | ((repeat' split) <;> simp_all; done)

theorem adcSeqWriteCmd_keeps : adcSeqWriteCmd.KeepsMem := by
  intro r p s
  simp only [adcSeqWriteCmd]
  first | rfl | (simp; done) | ((repeat' split) <;> simp; done) | ((repeat' split) <;> simp_all; done)

theorem adcStartCmd_keeps : adcStartCmd.KeepsMem := by
  intro r p s
  simp only [adcStartCmd]
  first | rfl | (simp; done) | ((repeat' split) <;> simp; done) | ((repeat' split) <;> simp_all; done)

theorem adcResultReadCmd_keeps : adcResultReadCmd.KeepsMem := by
  intro r p s
  simp only [adcResultReadCmd]
  first | rfl | (simp; done) | ((repeat' split) <;> simp; done) | ((repeat' split) <;> simp_all; done)

theorem adcStatReadCmd_keeps : adcStatReadCmd.KeepsMem := by
  intro r p s
  simp only [adcStatReadCmd]
  first | rfl | (simp; done) | ((repeat' split) <;> simp; done) | ((repeat' split) <;> simp_all; done)

theorem envReadCmd_keeps : envReadCmd.KeepsMem := by
  intro r p s
  simp only [envReadCmd]
  first | rfl | (simp; done) | ((repeat' split) <;> simp; done) | ((repeat' split) <;> simp_all; done)

theorem envClampReadCmd_keeps : envClampReadCmd.KeepsMem := by
  intro r p s
  simp only [envClampReadCmd]
  first | rfl | (simp; done) | ((repeat' split) <;> simp; done) | ((repeat' split) <;> simp_all; done)

theorem twinCfgWriteCmd_keeps : twinCfgWriteCmd.KeepsMem := by
  intro r p s
  simp only [twinCfgWriteCmd]
  first | rfl | (simp; done) | ((repeat' split) <;> simp; done) | ((repeat' split) <;> simp_all; done)

theorem twinStatusCmd_keeps : twinStatusCmd.KeepsMem := by
  intro r p s
  simp only [twinStatusCmd]
  first | rfl | (simp; done) | ((repeat' split) <;> simp; done) | ((repeat' split) <;> simp_all; done)

@[simp] theorem State.beginSwap_mem (s : State) (r : MsgRef) : (State.beginSwap s r).mem = s.mem := by
  simp [State.beginSwap]

theorem twinSwapCmd_keeps : twinSwapCmd.KeepsMem := by
  intro r p s
  simp only [twinSwapCmd]
  first | rfl | (simp; done) | ((repeat' split) <;> simp; done) | ((repeat' split) <;> simp_all; done)

theorem clusterCfgWriteCmd_keeps : clusterCfgWriteCmd.KeepsMem := by
  intro r p s
  simp only [clusterCfgWriteCmd]
  first | rfl | (simp; done) | ((repeat' split) <;> simp; done) | ((repeat' split) <;> simp_all; done)

theorem clusterStatusCmd_keeps : clusterStatusCmd.KeepsMem := by
  intro r p s
  simp only [clusterStatusCmd]
  first | rfl | (simp; done) | ((repeat' split) <;> simp; done) | ((repeat' split) <;> simp_all; done)

@[simp] theorem State.applyMove_mem (s : State) (m : AxisMove) : (State.applyMove s m).mem = s.mem := by
  simp [State.applyMove]

theorem clusterMoveAxisCmd_keeps : clusterMoveAxisCmd.KeepsMem := by
  intro r p s
  simp only [clusterMoveAxisCmd]
  first | rfl | (simp; done) | ((repeat' split) <;> simp; done) | ((repeat' split) <;> simp_all; done)

theorem traceCfgWriteCmd_keeps : traceCfgWriteCmd.KeepsMem := by
  intro r p s
  simp only [traceCfgWriteCmd]
  first | rfl | (simp; done) | ((repeat' split) <;> simp; done) | ((repeat' split) <;> simp_all; done)

theorem traceSigWriteCmd_keeps : traceSigWriteCmd.KeepsMem := by
  intro r p s
  simp only [traceSigWriteCmd]
  first | rfl | (simp; done) | ((repeat' split) <;> simp; done) | ((repeat' split) <;> simp_all; done)

theorem traceTrigWriteCmd_keeps : traceTrigWriteCmd.KeepsMem := by
  intro r p s
  simp only [traceTrigWriteCmd]
  first | rfl | (simp; done) | ((repeat' split) <;> simp; done) | ((repeat' split) <;> simp_all; done)

theorem traceArmCmd_keeps : traceArmCmd.KeepsMem := by
  intro r p s
  simp only [traceArmCmd]
  first | rfl | (simp; done) | ((repeat' split) <;> simp; done) | ((repeat' split) <;> simp_all; done)

theorem traceStopCmd_keeps : traceStopCmd.KeepsMem := by
  intro r p s
  simp only [traceStopCmd]
  first | rfl | (simp; done) | ((repeat' split) <;> simp; done) | ((repeat' split) <;> simp_all; done)

theorem traceStatusCmd_keeps : traceStatusCmd.KeepsMem := by
  intro r p s
  simp only [traceStatusCmd]
  first | rfl | (simp; done) | ((repeat' split) <;> simp; done) | ((repeat' split) <;> simp_all; done)

theorem filterJobStartCmd_keeps : filterJobStartCmd.KeepsMem := by
  intro r p s
  simp only [filterJobStartCmd]
  first | rfl | (simp; done) | ((repeat' split) <;> simp; done) | ((repeat' split) <;> simp_all; done)

theorem filterJobStatusCmd_keeps : filterJobStatusCmd.KeepsMem := by
  intro r p s
  simp only [filterJobStatusCmd]
  first | rfl | (simp; done) | ((repeat' split) <;> simp; done) | ((repeat' split) <;> simp_all; done)

theorem filterJobAbortCmd_keeps : filterJobAbortCmd.KeepsMem := by
  intro r p s
  simp only [filterJobAbortCmd]
  first | rfl | (simp; done) | ((repeat' split) <;> simp; done) | ((repeat' split) <;> simp_all; done)

@[simp] theorem State.spreadClass_mem (s : State) (c : Nat) (n : Nat) (w : Nat) : (State.spreadClass s c n w).mem = s.mem := by
  simp [State.spreadClass]

theorem eventClassWriteCmd_keeps : eventClassWriteCmd.KeepsMem := by
  intro r p s
  simp only [eventClassWriteCmd]
  first | rfl | (simp; done) | ((repeat' split) <;> simp; done) | ((repeat' split) <;> simp_all; done)

theorem eventClassReadCmd_keeps : eventClassReadCmd.KeepsMem := by
  intro r p s
  simp only [eventClassReadCmd]
  first | rfl | (simp; done) | ((repeat' split) <;> simp; done) | ((repeat' split) <;> simp_all; done)

theorem bbrReadCmd_keeps : bbrReadCmd.KeepsMem := by
  intro r p s
  simp only [bbrReadCmd]
  first | rfl | (simp; done) | ((repeat' split) <;> simp; done) | ((repeat' split) <;> simp_all; done)

theorem bbrWriteCmd_keeps : bbrWriteCmd.KeepsMem := by
  intro r p s
  simp only [bbrWriteCmd]
  first | rfl | (simp; done) | ((repeat' split) <;> simp; done) | ((repeat' split) <;> simp_all; done)

theorem fwWriteCmd_keeps : fwWriteCmd.KeepsMem := by
  intro r p s
  simp only [fwWriteCmd]
  first | rfl | (simp; done) | ((repeat' split) <;> simp; done) | ((repeat' split) <;> simp_all; done)

theorem fwVerifyCmd_keeps : fwVerifyCmd.KeepsMem := by
  intro r p s
  simp only [fwVerifyCmd]
  first | rfl | (simp; done) | ((repeat' split) <;> simp; done) | ((repeat' split) <;> simp_all; done)

theorem fwActivateCmd_keeps : fwActivateCmd.KeepsMem := by
  intro r p s
  simp only [fwActivateCmd]
  first | rfl | (simp; done) | ((repeat' split) <;> simp; done) | ((repeat' split) <;> simp_all; done)

theorem fwInfoCmd_keeps : fwInfoCmd.KeepsMem := by
  intro r p s
  simp only [fwInfoCmd]
  first | rfl | (simp; done) | ((repeat' split) <;> simp; done) | ((repeat' split) <;> simp_all; done)

theorem safeCfgWriteCmd_keeps : safeCfgWriteCmd.KeepsMem := by
  intro r p s
  simp only [safeCfgWriteCmd]
  first | rfl | (simp; done) | ((repeat' split) <;> simp; done) | ((repeat' split) <;> simp_all; done)

theorem safeZoneWriteCmd_keeps : safeZoneWriteCmd.KeepsMem := by
  intro r p s
  simp only [safeZoneWriteCmd]
  first | rfl | (simp; done) | ((repeat' split) <;> simp; done) | ((repeat' split) <;> simp_all; done)

theorem safeAxisWriteCmd_keeps : safeAxisWriteCmd.KeepsMem := by
  intro r p s
  simp only [safeAxisWriteCmd]
  first | rfl | (simp; done) | ((repeat' split) <;> simp; done) | ((repeat' split) <;> simp_all; done)

theorem safeSiWriteCmd_keeps : safeSiWriteCmd.KeepsMem := by
  intro r p s
  simp only [safeSiWriteCmd]
  first | rfl | (simp; done) | ((repeat' split) <;> simp; done) | ((repeat' split) <;> simp_all; done)

theorem safeReadCmd_keeps : safeReadCmd.KeepsMem := by
  intro r p s
  simp only [safeReadCmd]
  first | rfl | (simp; done) | ((repeat' split) <;> simp; done) | ((repeat' split) <;> simp_all; done)

theorem safeConfirmCmd_keeps : safeConfirmCmd.KeepsMem := by
  intro r p s
  simp only [safeConfirmCmd]
  first | rfl | (simp; done) | ((repeat' split) <;> simp; done) | ((repeat' split) <;> simp_all; done)

theorem safeDemandCmd_keeps : safeDemandCmd.KeepsMem := by
  intro r p s
  simp only [safeDemandCmd]
  first | rfl | (simp; done) | ((repeat' split) <;> simp; done) | ((repeat' split) <;> simp_all; done)

theorem safeStatusCmd_keeps : safeStatusCmd.KeepsMem := by
  intro r p s
  simp only [safeStatusCmd]
  first | rfl | (simp; done) | ((repeat' split) <;> simp; done) | ((repeat' split) <;> simp_all; done)

theorem sysIdentCmd_keeps : sysIdentCmd.KeepsMem := by
  intro r p s
  simp only [sysIdentCmd]
  first | rfl | (simp; done) | ((repeat' split) <;> simp; done) | ((repeat' split) <;> simp_all; done)

theorem sysResetCmd_keeps : sysResetCmd.KeepsMem := by
  intro r p s
  simp only [sysResetCmd]
  first | rfl | (simp; done) | ((repeat' split) <;> simp; done) | ((repeat' split) <;> simp_all; done)

theorem sysNopCmd_keeps : sysNopCmd.KeepsMem := by
  intro r p s
  simp only [sysNopCmd]
  first | rfl | (simp; done) | ((repeat' split) <;> simp; done) | ((repeat' split) <;> simp_all; done)

theorem modeReadCmd_keeps : modeReadCmd.KeepsMem := by
  intro r p s
  simp only [modeReadCmd]
  first | rfl | (simp; done) | ((repeat' split) <;> simp; done) | ((repeat' split) <;> simp_all; done)

@[simp] theorem State.leaveConfigure_mem (s : State) : (State.leaveConfigure s).mem = s.mem := by
  simp [State.leaveConfigure]

@[simp] theorem modeSetSyncUp_mem (r : MsgRef) (s : State) : (modeSetSyncUp r s).st.mem = s.mem := by
  unfold modeSetSyncUp
  (repeat' split) <;> simp

theorem modeSetCmd_keeps : modeSetCmd.KeepsMem := by
  intro r p s
  simp only [modeSetCmd]
  first | rfl | (simp; done) | ((repeat' split) <;> simp; done) | ((repeat' split) <;> simp_all; done)

theorem gearReadCmd_keeps : gearReadCmd.KeepsMem := by
  intro r p s
  simp only [gearReadCmd]
  first | rfl | (simp; done) | ((repeat' split) <;> simp; done) | ((repeat' split) <;> simp_all; done)

theorem gearSetCmd_keeps : gearSetCmd.KeepsMem := by
  intro r p s
  simp only [gearSetCmd]
  first | rfl | (simp; done) | ((repeat' split) <;> simp; done) | ((repeat' split) <;> simp_all; done)

theorem gearShiftCmd_keeps : gearShiftCmd.KeepsMem := by
  intro r p s
  simp only [gearShiftCmd]
  first | rfl | (simp; done) | ((repeat' split) <;> simp; done) | ((repeat' split) <;> simp_all; done)

theorem group01_keeps : ∀ c ∈ group01, c.KeepsMem := by
  simp [group01, sysIdentCmd_keeps, sysResetCmd_keeps, sysNopCmd_keeps]
theorem group02_keeps : ∀ c ∈ group02, c.KeepsMem := by
  simp [group02, modeReadCmd_keeps, modeSetCmd_keeps]
theorem group03_keeps : ∀ c ∈ group03, c.KeepsMem := by
  simp [group03, gearReadCmd_keeps, gearSetCmd_keeps, gearShiftCmd_keeps]
theorem group04_keeps : ∀ c ∈ group04, c.KeepsMem := by
  simp [group04, chainCfgWriteCmd_keeps, chainCfgReadCmd_keeps, chainSupvWriteCmd_keeps, chainGuardWriteCmd_keeps, chainMissAtWriteCmd_keeps, chainSupvReadCmd_keeps, chainNodeReadCmd_keeps, chainNodeWriteCmd_keeps, chainDescReadCmd_keeps, chainCensusReadCmd_keeps, chainDelayReadCmd_keeps]
theorem group05_keeps : ∀ c ∈ group05, c.KeepsMem := by
  simp [group05, tableWinWriteCmd_keeps, tableMapWriteCmd_keeps, tableNodeWriteCmd_keeps, tableBudgetWriteCmd_keeps, tableReadCmd_keeps, tableStageCmd_keeps, tableCommitCmd_keeps]
theorem group06_keeps : ∀ c ∈ group06, c.KeepsMem := by
  simp [group06, timeReadCmd_keeps, timeStageCmd_keeps, timeRateCmd_keeps, timeCpWriteCmd_keeps, timeCapCfgCmd_keeps, timeCapReadCmd_keeps]
theorem group07_keeps : ∀ c ∈ group07, c.KeepsMem := by
  simp [group07, axisEnableCmd_keeps, axisDisableCmd_keeps, axisStatusReadCmd_keeps, axisPrfCfgWriteCmd_keeps, axisPrfCfgReadCmd_keeps, axisMissWindowCmd_keeps, axisStreamInfoCmd_keeps, axisAuxWriteCmd_keeps]
theorem group08_keeps : ∀ c ∈ group08, c.KeepsMem := by
  simp [group08, moveStartCmd_keeps, moveQuickStopCmd_keeps, moveHoldCmd_keeps, moveResumeCmd_keeps, moveAbortCmd_keeps, moveSetStopCmd_keeps]
theorem group09_keeps : ∀ c ∈ group09, c.KeepsMem := by
  simp [group09, loopCfgWriteCmd_keeps, loopCfgReadCmd_keeps, loopCurWriteCmd_keeps, loopCoefWriteCmd_keeps, loopParamWriteCmd_keeps, loopReadyCmd_keeps, loopSwapCmd_keeps, loopCoefReadCmd_keeps]
theorem group0A_keeps : ∀ c ∈ group0A, c.KeepsMem := by
  simp [group0A, pulsePinCfgCmd_keeps, pulseStpCfgCmd_keeps, pulseReadCmd_keeps]
theorem group0B_keeps : ∀ c ∈ group0B, c.KeepsMem := by
  simp [group0B, feedbackCfgWriteCmd_keeps, feedbackCfgReadCmd_keeps, feedbackResultReadCmd_keeps, feedbackSingleReadCmd_keeps]
theorem group0C_keeps : ∀ c ∈ group0C, c.KeepsMem := by
  simp [group0C, adcCfgWriteCmd_keeps, adcSeqWriteCmd_keeps, adcStartCmd_keeps, adcResultReadCmd_keeps, adcStatReadCmd_keeps]
theorem group0D_keeps : ∀ c ∈ group0D, c.KeepsMem := by
  simp [group0D, envReadCmd_keeps, envClampReadCmd_keeps]
theorem group0E_keeps : ∀ c ∈ group0E, c.KeepsMem := by
  simp [group0E, safeCfgWriteCmd_keeps, safeZoneWriteCmd_keeps, safeAxisWriteCmd_keeps, safeSiWriteCmd_keeps, safeReadCmd_keeps, safeConfirmCmd_keeps, safeDemandCmd_keeps, safeStatusCmd_keeps]
theorem group0F_keeps : ∀ c ∈ group0F, c.KeepsMem := by
  simp [group0F, twinCfgWriteCmd_keeps, twinStatusCmd_keeps, twinSwapCmd_keeps]
theorem group10_keeps : ∀ c ∈ group10, c.KeepsMem := by
  simp [group10, clusterCfgWriteCmd_keeps, clusterStatusCmd_keeps, clusterMoveAxisCmd_keeps]
theorem group11_keeps : ∀ c ∈ group11, c.KeepsMem := by
  simp [group11, canCfgWriteCmd_keeps, canFilterWriteCmd_keeps, canSchedWriteCmd_keeps, canSafeWriteCmd_keeps, canAbortCmd_keeps, canRecoverCmd_keeps, canInfoCmd_keeps, canReadCmd_keeps]
theorem group12_keeps : ∀ c ∈ group12, c.KeepsMem := by
  simp [group12, traceCfgWriteCmd_keeps, traceSigWriteCmd_keeps, traceTrigWriteCmd_keeps, traceArmCmd_keeps, traceStopCmd_keeps, traceStatusCmd_keeps]
theorem group13_keeps : ∀ c ∈ group13, c.KeepsMem := by
  simp [group13, filterJobStartCmd_keeps, filterJobStatusCmd_keeps, filterJobAbortCmd_keeps]
theorem group14_keeps : ∀ c ∈ group14, c.KeepsMem := by
  simp [group14, eventClassWriteCmd_keeps, eventClassReadCmd_keeps]
theorem group15_keeps : ∀ c ∈ group15, c.KeepsMem := by
  simp [group15, bbrReadCmd_keeps, bbrWriteCmd_keeps]
theorem group16_keeps : ∀ c ∈ group16, c.KeepsMem := by
  simp [group16, fwWriteCmd_keeps, fwVerifyCmd_keeps, fwActivateCmd_keeps, fwInfoCmd_keeps]
theorem group17_keeps : ∀ c ∈ group17, c.KeepsMem := by
  simp [group17, diagActReadCmd_keeps, diagHeadroomReadCmd_keeps, diagChainCountersCmd_keeps, diagSchedReadCmd_keeps, diagQueueSnapshotCmd_keeps, diagLoopCountersCmd_keeps, diagCanCountersCmd_keeps, diagCoreTestCmd_keeps, diagMemStatusCmd_keeps]
theorem catalogue_keeps : ∀ c ∈ catalogue, c.KeepsMem := by
  unfold catalogue
  exact List.forall_mem_append.2 ⟨List.forall_mem_append.2 ⟨List.forall_mem_append.2 ⟨List.forall_mem_append.2 ⟨List.forall_mem_append.2 ⟨List.forall_mem_append.2 ⟨List.forall_mem_append.2 ⟨List.forall_mem_append.2 ⟨List.forall_mem_append.2 ⟨List.forall_mem_append.2 ⟨List.forall_mem_append.2 ⟨List.forall_mem_append.2 ⟨List.forall_mem_append.2 ⟨List.forall_mem_append.2 ⟨List.forall_mem_append.2 ⟨List.forall_mem_append.2 ⟨List.forall_mem_append.2 ⟨List.forall_mem_append.2 ⟨List.forall_mem_append.2 ⟨List.forall_mem_append.2 ⟨List.forall_mem_append.2 ⟨List.forall_mem_append.2 ⟨group01_keeps, group02_keeps⟩, group03_keeps⟩, group04_keeps⟩, group05_keeps⟩, group06_keeps⟩, group07_keeps⟩, group08_keeps⟩, group09_keeps⟩, group0A_keeps⟩, group0B_keeps⟩, group0C_keeps⟩, group0D_keeps⟩, group0E_keeps⟩, group0F_keeps⟩, group10_keeps⟩, group11_keeps⟩, group12_keeps⟩, group13_keeps⟩, group14_keeps⟩, group15_keeps⟩, group16_keeps⟩, group17_keeps⟩
theorem cmdOf_keeps {op : Nat} {c : HostCmd} (h : cmdOf op = some c) : c.KeepsMem :=
  catalogue_keeps c (List.mem_of_find?_eq_some h)

@[simp] theorem State.unknown_mem (s : State) (op : Nat) (h : Hdr) : (State.unknown s op h).mem = s.mem := by
  simp [State.unknown]

@[simp] theorem State.takeHead_mem (s : State) : s.takeHead.mem = s.mem := by
  unfold State.takeHead
  dsimp only
  split
  · rfl
  · split
    · rename_i c e; rw [HostCmd.taken_mem (cmdOf_keeps e)]; simp
    · simp

@[simp] theorem State.serveN_mem (n : Nat) (s : State) : (State.serveN n s).mem = s.mem := by
  induction n generalizing s with
  | zero => rfl
  | succ n ih => simp [State.serveN, ih]

@[simp] theorem State.serve_mem (s : State) : (State.serve s).mem = s.mem := by
  simp [State.serve]

end Sys2Proof.Machine
end

