-- ==== Sys2Proof/Laws/EventOpsMem.lean ====
section
/-!
SUPPORT. The operations behind the events leave the addressed memories as they stand; the three that write them (trace
records, captures and filter chunks) keep their canonical form.
-/
namespace Sys2Proof.Machine

@[simp] theorem State.portFeeds_mem (s : State) (n : Nat) : (State.portFeeds s n).mem = s.mem := by
  simp [State.portFeeds]

@[simp] theorem State.portDone_mem (s : State) (n : Nat) (counted : Bool) : (State.portDone s n counted).mem = s.mem := by
  simp only [State.portDone]; split <;> simp

@[simp] theorem State.openWire_mem (s : State) (x : Nat) (entry : Nat) (tag : Nat) : (State.openWire s x entry tag).mem = s.mem := by
  simp [State.openWire]

@[simp] theorem State.linkChange_mem (s : State) (c : Nat) (right : Bool) (up : Bool) : (State.linkChange s c right up).mem = s.mem := by
  simp [State.linkChange]

@[simp] theorem State.rescale_mem (s : State) (up : Bool) : (State.rescale s up).mem = s.mem := by
  simp [State.rescale]

@[simp] theorem State.newGear_mem (s : State) (h : Shift) : (State.newGear s h).mem = s.mem := by
  rfl

@[simp] theorem State.applyShift_mem (s : State) (h : Shift) : (State.applyShift s h).mem = s.mem := by
  simp [State.applyShift]

@[simp] theorem State.sourceChange_mem (s : State) (i : Nat) : (State.sourceChange s i).mem = s.mem := by
  simp only [State.sourceChange]; split <;> simp

@[simp] theorem State.readLimits_mem (s : State) (i : Nat) : (State.readLimits s i).mem = s.mem := by
  rfl

@[simp] theorem State.stoReload_mem (s : State) (i : Nat) : (State.stoReload s i).mem = s.mem := by
  simp [State.stoReload]

@[simp] theorem State.dropWant_mem (s : State) (i : Nat) : (State.dropWant s i).mem = s.mem := by
  simp only [State.dropWant]; split <;> simp

@[simp] theorem State.postProfile_mem (s : State) (i : Nat) : (State.postProfile s i).mem = s.mem := by
  simp only [State.postProfile]; split <;> simp

@[simp] theorem State.postAxis_mem (s : State) (i : Nat) : (State.postAxis s i).mem = s.mem := by
  simp [State.postAxis]

@[simp] theorem State.measureTime_mem (s : State) : (State.measureTime s).mem = s.mem := by
  simp only [State.measureTime]; split <;> simp

@[simp] theorem State.applyCopy_mem (s : State) (c : StateCopy) : (State.applyCopy s c).mem = s.mem := by
  simp [State.applyCopy]

@[simp] theorem State.copyBoundary_mem (s : State) : (State.copyBoundary s).mem = s.mem := by
  simp only [State.copyBoundary]; split <;> simp

@[simp] theorem State.newSafe_mem (s : State) (w : Bool) : (State.newSafe s w).mem = s.mem := by
  rfl

@[simp] theorem State.countSwap_mem (s : State) : (State.countSwap s).mem = s.mem := by
  rfl

@[simp] theorem State.firstCommand_mem (s : State) (i : Nat) : (State.firstCommand s i).mem = s.mem := by
  simp only [State.firstCommand]; (repeat' split) <;> simp

@[simp] theorem State.becomeHead_mem (s : State) (m : Mode) (swap : Bool) : (State.becomeHead s m swap).mem = s.mem := by
  simp [State.becomeHead]

@[simp] theorem State.takeoverBoundary_mem (s : State) : (State.takeoverBoundary s).mem = s.mem := by
  simp [State.takeoverBoundary]

@[simp] theorem State.beginSwapCycle_mem (s : State) : (State.beginSwapCycle s).mem = s.mem := by
  simp [State.beginSwapCycle]

@[simp] theorem State.endSwapCycle_mem (s : State) (e : Nat) : (State.endSwapCycle s e).mem = s.mem := by
  simp only [State.endSwapCycle]; (repeat' split) <;> simp

@[simp] theorem State.dbErr_mem (s : State) : (State.dbErr s).mem = s.mem := by
  rfl

@[simp] theorem State.cmdTailWrite_mem (s : State) (v : Word) : (State.cmdTailWrite s v).mem = s.mem := by
  simp [State.cmdTailWrite]

@[simp] theorem State.rspHeadWrite_mem (s : State) (v : Word) : (State.rspHeadWrite s v).mem = s.mem := by
  simp [State.rspHeadWrite]

@[simp] theorem State.evtHeadWrite_mem (s : State) (v : Word) : (State.evtHeadWrite s v).mem = s.mem := by
  simp [State.evtHeadWrite]

@[simp] theorem State.irqPend_mem (s : State) (k : Nat) (v : Word) : (State.irqPend s k v).mem = s.mem := by
  rfl

@[simp] theorem State.irqFreed_mem (s : State) (old : Irq) : (State.irqFreed s old).mem = s.mem := by
  simp [State.irqFreed]

@[simp] theorem State.irqMask_mem (s : State) (k : Nat) (v : Word) : (State.irqMask s k v).mem = s.mem := by
  simp [State.irqMask]

@[simp] theorem State.irqRoute_mem (s : State) (w : Nat) (v : Word) : (State.irqRoute s w v).mem = s.mem := by
  simp [State.irqRoute]

@[simp] theorem State.regWrite_mem (s : State) (off : Nat) (v : Word) : (State.regWrite s off v).mem = s.mem := by
  simp [State.regWrite]

@[simp] theorem State.readWord0_mem (s : State) (off : Nat) : (s.readWord0 off).1.mem = s.mem := by
  unfold State.readWord0
  dsimp only
  (repeat' split) <;> simp

@[simp] theorem State.read0_mem (f : Nat) (s : State) (off n : Nat) : (State.read0 f s off n).1.mem = s.mem := by
  induction f generalizing s off n with
  | zero => rfl
  | succ f ih => unfold State.read0; dsimp only; (repeat' split) <;> simp [ih]

theorem State.chargeHost_mem {s t : State} {n : Nat} (h : s.chargeHost n = some t) : t.mem = s.mem := by
  unfold State.chargeHost at h
  split at h
  · cases h; rfl
  · cases h

@[simp] theorem State.qspiGet_mem (s : State) (addr n : Nat) : (s.qspiGet addr n).mem = s.mem := by
  unfold State.qspiGet
  split
  · simp
  · rename_i t h
    have := State.chargeHost_mem h
    dsimp only
    (repeat' split) <;> simpa using this

@[simp] theorem State.heartbeatEnd_mem (s : State) : (State.heartbeatEnd s).mem = s.mem := by
  simp [State.heartbeatEnd]

@[simp] theorem State.healthEnd_mem (s : State) : (State.healthEnd s).mem = s.mem := by
  simp [State.healthEnd]

@[simp] theorem State.reportEnd_mem (s : State) : (State.reportEnd s).mem = s.mem := by
  simp [State.reportEnd]

@[simp] theorem State.cornerK_mem (s : State) (ringPeriod : Nat) : (State.cornerK s ringPeriod).mem = s.mem := by
  rfl

@[simp] theorem State.usageEnd_mem (s : State) : (State.usageEnd s).mem = s.mem := by
  rfl

@[simp] theorem State.meterEnd_mem (s : State) (ringPeriod : Nat) : (State.meterEnd s ringPeriod).mem = s.mem := by
  simp [State.meterEnd]

@[simp] theorem State.fillBudgets_mem (s : State) : (State.fillBudgets s).mem = s.mem := by
  rfl

@[simp] theorem State.endCycle_mem (s : State) (ringPeriod : Nat) : (State.endCycle s ringPeriod).mem = s.mem := by
  simp [State.endCycle]

@[simp] theorem State.lapse_mem (s : State) : (State.lapse s).mem = s.mem := by
  simp [State.lapse]

@[simp] theorem State.settingsBoundary_mem (s : State) : s.settingsBoundary.mem = s.mem := rfl

@[simp] theorem State.remap_mem (s : State) : (State.remap s).mem = s.mem := by
  unfold State.remap
  dsimp only
  rw [foldl_mem _ (fun t x => State.failItem_mem t x false)]
  exact foldl_mem _ (by intro t i; (repeat' split) <;> simp) _ s

@[simp] theorem State.takeEffect_mem (s : State) : (State.takeEffect s).mem = s.mem := by
  simp only [State.takeEffect]; (repeat' split) <;> simp

@[simp] theorem State.modeBoundary_mem (s : State) : (State.modeBoundary s).mem = s.mem := by
  simp only [State.modeBoundary]; split <;> simp

@[simp] theorem State.swapBoundary_mem (s : State) : (State.swapBoundary s).mem = s.mem := by
  simp only [State.swapBoundary]; (repeat' split) <;> simp

@[simp] theorem State.launchFrames_mem (s : State) : (State.launchFrames s).mem = s.mem := by
  simp [State.launchFrames]

@[simp] theorem State.launchClaim_mem (s : State) : (State.launchClaim s).mem = s.mem := by
  simp [State.launchClaim]

@[simp] theorem State.setTime_mem (s : State) (t : Nat) : (s.setTime t).mem = s.mem := by
  simp [State.setTime]

@[simp] theorem State.lockTime_mem (s : State) : (State.lockTime s).mem = s.mem := by
  simp only [State.lockTime]; (repeat' split) <;> simp

@[simp] theorem State.followPair_mem (s : State) : (State.followPair s).mem = s.mem := by
  simp [State.followPair]

@[simp] theorem State.forwardOnly_mem (s : State) : (State.forwardOnly s).mem = s.mem := by
  simp only [State.forwardOnly]; split <;> simp

@[simp] theorem State.stepTime_mem (s : State) (v : Option Nat) : (State.stepTime s v).mem = s.mem := by
  simp [State.stepTime]

@[simp] theorem State.stepCluster_mem (s : State) : (State.stepCluster s).mem = s.mem := by
  simp [State.stepCluster]

@[simp] theorem State.orderStep_mem (s : State) : (State.orderStep s).mem = s.mem := by
  simp [State.orderStep]

@[simp] theorem State.decideClaim_mem (s : State) (m : Nat) (won : Bool) : (State.decideClaim s m won).mem = s.mem := by
  simp [State.decideClaim]

@[simp] theorem State.reportClaim_mem (s : State) (won : Bool) : (State.reportClaim s won).mem = s.mem := by
  simp [State.reportClaim]

@[simp] theorem State.claimWon_mem (s : State) : (State.claimWon s).mem = s.mem := by
  simp [State.claimWon]

@[simp] theorem State.claimLost_mem (s : State) : (State.claimLost s).mem = s.mem := by
  simp [State.claimLost]

@[simp] theorem State.clash_mem (s : State) (round : Nat) : (State.clash s round).mem = s.mem := by
  simp [State.clash]

@[simp] theorem State.hear_mem (s : State) (seq : Nat) (counts : Bool) : (State.hear s seq counts).mem = s.mem := by
  rfl

@[simp] theorem State.setLanes_mem (s : State) (n : Nat) : (State.setLanes s n).mem = s.mem := by
  simp [State.setLanes]

@[simp] theorem State.twinIsReady_mem (s : State) (r : Bool) : (State.twinIsReady s r).mem = s.mem := by
  simp [State.twinIsReady]

@[simp] theorem State.pairDown_mem (s : State) : (State.pairDown s).mem = s.mem := by
  simp [State.pairDown]

@[simp] theorem State.notePeer_mem (s : State) (src : BitVec 24) : (State.notePeer s src).mem = s.mem := by
  simp [State.notePeer]

@[simp] theorem State.firstBlock_mem (s : State) (cb : ControlBlock) : (State.firstBlock s cb).mem = s.mem := by
  simp [State.firstBlock]

@[simp] theorem State.shiftRecord_mem (s : State) (cb : ControlBlock) : (State.shiftRecord s cb).mem = s.mem := by
  simp [State.shiftRecord]

@[simp] theorem State.pendChange_mem (s : State) (x : Forwarded) : (State.pendChange s x).mem = s.mem := by
  simp only [State.pendChange]; split <;> simp

@[simp] theorem State.changeNow_mem (s : State) (x : Forwarded) : (s.changeNow x).mem = s.mem := by
  unfold State.changeNow
  dsimp only
  (repeat' split) <;> first
    | (simp; done)
    | (rename_i e1 _ _ _ u e2; have h := (cmdOf_keeps e1) {} x.payload s; rw [e2] at h; simpa using h)
    | (rename_i e1 _ u e2; have h := (cmdOf_keeps e1) {} x.payload s; rw [e2] at h; simpa using h)

@[simp] theorem State.grantDue_mem (s : State) : (State.grantDue s).mem = s.mem := by
  simp [State.grantDue]

@[simp] theorem State.followLead_mem (s : State) (off : Int) : (State.followLead s off).mem = s.mem := by
  simp [State.followLead]

@[simp] theorem State.bridgeDone_mem (s : State) : (State.bridgeDone s).mem = s.mem := by
  simp [State.bridgeDone]

@[simp] theorem State.takeBack_mem (s : State) (op : Nat) : (State.takeBack s op).mem = s.mem := by
  simp [State.takeBack]

@[simp] theorem State.gathered_mem (s : State) (g : Gather) : (s.gathered g).mem = s.mem := by
  unfold State.gathered
  dsimp only
  rw [State.bridgeDone_mem]
  (repeat' split) <;> first
    | (simp; done)
    | (rename_i e _; rw [Answer.finish_mem, HostCmd.carry_mem (cmdOf_keeps e)])
    | (rename_i e _; rw [State.takeBack_mem, Answer.finish_mem, HostCmd.carry_mem (cmdOf_keeps e)])

@[simp] theorem State.gatherStatus_mem (s : State) (g : Gather) (m : Nat) (st : Nat) : (State.gatherStatus s g m st).mem = s.mem := by
  simp [State.gatherStatus]

@[simp] theorem State.takenBack_mem (s : State) (op : Nat) : (State.takenBack s op).mem = s.mem := by
  unfold State.takenBack; split <;> simp

@[simp] theorem State.swapNamed_mem (s : State) (e : Nat) : (State.swapNamed s e).mem = s.mem := by
  unfold State.swapNamed; split <;> simp

@[simp] theorem State.timeOut_mem (s : State) (m : Nat) : (State.timeOut s m).mem = s.mem := by
  simp only [State.timeOut]; split <;> simp

@[simp] theorem State.arrives_mem (s : State) (moved : Option MovedAxis) : (State.arrives s moved).mem = s.mem := by
  simp [State.arrives]

@[simp] theorem State.cpStart_mem (s : State) (x : Nat) (k : Nat) : (State.cpStart s x k).mem = s.mem := by
  simp [State.cpStart]

@[simp] theorem State.countFrame_mem (s : State) (c : Nat) : (State.countFrame s c).mem = s.mem := by
  simp [State.countFrame]

@[simp] theorem State.discovery_mem (s : State) (c k : Nat) : (s.discovery c k).mem = s.mem := by
  unfold State.discovery
  dsimp only
  split
  · rw [State.launch_mem, State.updCh_mem]
  · split
    · rw [State.launch_mem, State.updCh_mem]
    · rfl

@[simp] theorem State.hostLinkTo_mem (s : State) (gen : Nat) (x2 : Bool) : (State.hostLinkTo s gen x2).mem = s.mem := by
  simp [State.hostLinkTo]

@[simp] theorem State.cleared_mem (s : State) (b : Bbr) : (State.cleared s b).mem = s.mem := by
  rfl

@[simp] theorem State.enterReset_mem (s : State) (retained : Bool) (porst : Bool) : (State.enterReset s retained porst).mem = s.mem := by
  rfl

@[simp] theorem State.enterLoader_mem (s : State) : (State.enterLoader s).mem = s.mem := by
  simp [State.enterLoader]

@[simp] theorem State.corrected_mem (s : State) (a : Nat) : (State.corrected s a).mem = s.mem := by
  simp [State.corrected]

@[simp] theorem State.heed_mem (s : State) (r : Nat) (w : Nat) : (State.heed s r w).mem = s.mem := by
  rfl

@[simp] theorem State.tick_mem (s : State) : (State.tick s).mem = s.mem := by
  simp [State.tick]

@[simp] theorem State.withFetchWord_mem (s : State) (nbits : Nat) (w : Nat) : (State.withFetchWord s nbits w).mem = s.mem := by
  rfl
@[simp] theorem State.serve_memOk {s : State} (h : s.mem.Ok) : s.serve.mem.Ok := h.of_eq (State.serve_mem s)
/-- What a meaning's next state keeps. -/
def Result'.MemOk (r : Result') : Prop := ∀ t, r = .next t → t.mem.Ok
@[simp] theorem Result'.memOk_next (t : State) : Result'.MemOk (.next t) ↔ t.mem.Ok :=
  ⟨fun h => h t rfl, fun h u e => by cases e; exact h⟩
theorem Result'.MemOk.host {c : HostCmd} {h : Hdr} {p : List Word} {s : State} (hs : s.mem.Ok) (hc : c.KeepsMem) :
    Result'.MemOk (.next (hostCommand c h p s)) := by
  intro t e
  cases e
  exact hs.of_eq (hostCommand_mem hc h p s)
@[simp] theorem State.traceWrite_memOk (s : State) (h : s.mem.Ok) : s.traceWrite.mem.Ok := by
  unfold State.traceWrite
  dsimp only
  split
  · exact h
  · split
    · exact h.of_eq (by simp)
    · rename_i s1 e
      have h1 := h.of_eq (State.chargeBytes_mem e)
      split
      · refine Rams.Ok.of_eq (m := { s1.mem with trace := _ }) ⟨Memory.writeBytes_wf _ _ _ h1.1, h1.2⟩ (by simp; rfl)
      · exact ⟨Memory.writeBytes_wf _ _ _ h1.1, h1.2⟩

@[simp] theorem State.chunkDone_memOk (s : State) (j : Nat) (h : s.mem.Ok) : (s.chunkDone j).mem.Ok := by
  unfold State.chunkDone
  dsimp only
  (repeat' split) <;> exact ⟨by simpa using Memory.writeBytes_wf _ _ _ h.1, by simpa using h.2⟩

@[simp] theorem State.capture_memOk (s : State) (q : Inject) (k : Nat) (u v : Int) (h : s.mem.Ok) : (s.capture q k u v).mem.Ok := by
  unfold State.capture
  exact ⟨Memory.writeWord_wf _ _ _ (Memory.writeWord_wf _ _ _ h.1), h.2⟩

@[simp] theorem State.inject_memOk (s : State) (it : Item) (r : Result) (h : s.mem.Ok) : (s.inject it r).1.mem.Ok := by
  unfold State.inject
  split
  · exact h
  · split
    · exact h
    · exact State.capture_memOk _ _ _ _ _ h

@[simp] theorem State.completeAxis_memOk (s : State) (it : Item) (h : s.mem.Ok) : (s.completeAxis it).mem.Ok := by
  unfold State.completeAxis
  dsimp only
  (repeat' split) <;> simp [h]

@[simp] theorem State.completeOuter_memOk (s : State) (it : Item) (h : s.mem.Ok) : (s.completeOuter it).mem.Ok := by
  unfold State.completeOuter
  dsimp only
  (repeat' split) <;> simp [h]

@[simp] theorem State.complete_memOk (s : State) (x : Executor) (it : Item) (since occ : Nat) (residueOk : Bool) (h : s.mem.Ok) :
    (s.complete x it since occ residueOk).mem.Ok := by
  unfold State.complete
  dsimp only
  (repeat' split) <;> simp [h]

end Sys2Proof.Machine
end

