-- ==== Sys2Proof/Laws/EventMem.lean ====
section
/-!
SUPPORT. Every meaning keeps the canonical form of the addressed memories: one lemma per command of the table.
-/
namespace Sys2Proof.Machine

theorem execAxisEnable_memOk (h : Hdr) (p : List Word) (s : State) (hm : s.mem.Ok) : Result'.MemOk (execAxisEnable h p s) := by
  exact Result'.MemOk.host hm axisEnableCmd_keeps

theorem execAxisDisable_memOk (h : Hdr) (p : List Word) (s : State) (hm : s.mem.Ok) : Result'.MemOk (execAxisDisable h p s) := by
  exact Result'.MemOk.host hm axisDisableCmd_keeps

theorem execAxisStatusRead_memOk (h : Hdr) (p : List Word) (s : State) (hm : s.mem.Ok) : Result'.MemOk (execAxisStatusRead h p s) := by
  exact Result'.MemOk.host hm axisStatusReadCmd_keeps

theorem execAxisPrfCfgWrite_memOk (h : Hdr) (p : List Word) (s : State) (hm : s.mem.Ok) : Result'.MemOk (execAxisPrfCfgWrite h p s) := by
  exact Result'.MemOk.host hm axisPrfCfgWriteCmd_keeps

theorem execAxisPrfCfgRead_memOk (h : Hdr) (p : List Word) (s : State) (hm : s.mem.Ok) : Result'.MemOk (execAxisPrfCfgRead h p s) := by
  exact Result'.MemOk.host hm axisPrfCfgReadCmd_keeps

theorem execAxisMissWindow_memOk (h : Hdr) (p : List Word) (s : State) (hm : s.mem.Ok) : Result'.MemOk (execAxisMissWindow h p s) := by
  exact Result'.MemOk.host hm axisMissWindowCmd_keeps

theorem execAxisStreamInfo_memOk (h : Hdr) (p : List Word) (s : State) (hm : s.mem.Ok) : Result'.MemOk (execAxisStreamInfo h p s) := by
  exact Result'.MemOk.host hm axisStreamInfoCmd_keeps

theorem execAxisAuxWrite_memOk (h : Hdr) (p : List Word) (s : State) (hm : s.mem.Ok) : Result'.MemOk (execAxisAuxWrite h p s) := by
  exact Result'.MemOk.host hm axisAuxWriteCmd_keeps

theorem execCanCfgWrite_memOk (h : Hdr) (p : List Word) (s : State) (hm : s.mem.Ok) : Result'.MemOk (execCanCfgWrite h p s) := by
  exact Result'.MemOk.host hm canCfgWriteCmd_keeps

theorem execCanFilterWrite_memOk (h : Hdr) (p : List Word) (s : State) (hm : s.mem.Ok) : Result'.MemOk (execCanFilterWrite h p s) := by
  exact Result'.MemOk.host hm canFilterWriteCmd_keeps

theorem execCanSchedWrite_memOk (h : Hdr) (p : List Word) (s : State) (hm : s.mem.Ok) : Result'.MemOk (execCanSchedWrite h p s) := by
  exact Result'.MemOk.host hm canSchedWriteCmd_keeps

theorem execCanSafeWrite_memOk (h : Hdr) (p : List Word) (s : State) (hm : s.mem.Ok) : Result'.MemOk (execCanSafeWrite h p s) := by
  exact Result'.MemOk.host hm canSafeWriteCmd_keeps

theorem execCanAbort_memOk (h : Hdr) (p : List Word) (s : State) (hm : s.mem.Ok) : Result'.MemOk (execCanAbort h p s) := by
  exact Result'.MemOk.host hm canAbortCmd_keeps

theorem execCanRecover_memOk (h : Hdr) (p : List Word) (s : State) (hm : s.mem.Ok) : Result'.MemOk (execCanRecover h p s) := by
  exact Result'.MemOk.host hm canRecoverCmd_keeps

theorem execCanInfo_memOk (h : Hdr) (p : List Word) (s : State) (hm : s.mem.Ok) : Result'.MemOk (execCanInfo h p s) := by
  exact Result'.MemOk.host hm canInfoCmd_keeps

theorem execCanRead_memOk (h : Hdr) (p : List Word) (s : State) (hm : s.mem.Ok) : Result'.MemOk (execCanRead h p s) := by
  exact Result'.MemOk.host hm canReadCmd_keeps

theorem execDiagCanCounters_memOk (h : Hdr) (p : List Word) (s : State) (hm : s.mem.Ok) : Result'.MemOk (execDiagCanCounters h p s) := by
  exact Result'.MemOk.host hm diagCanCountersCmd_keeps

theorem execChainCfgWrite_memOk (h : Hdr) (p : List Word) (s : State) (hm : s.mem.Ok) : Result'.MemOk (execChainCfgWrite h p s) := by
  exact Result'.MemOk.host hm chainCfgWriteCmd_keeps

theorem execChainCfgRead_memOk (h : Hdr) (p : List Word) (s : State) (hm : s.mem.Ok) : Result'.MemOk (execChainCfgRead h p s) := by
  exact Result'.MemOk.host hm chainCfgReadCmd_keeps

theorem execChainSupvWrite_memOk (h : Hdr) (p : List Word) (s : State) (hm : s.mem.Ok) : Result'.MemOk (execChainSupvWrite h p s) := by
  exact Result'.MemOk.host hm chainSupvWriteCmd_keeps

theorem execChainGuardWrite_memOk (h : Hdr) (p : List Word) (s : State) (hm : s.mem.Ok) : Result'.MemOk (execChainGuardWrite h p s) := by
  exact Result'.MemOk.host hm chainGuardWriteCmd_keeps

theorem execChainMissAtWrite_memOk (h : Hdr) (p : List Word) (s : State) (hm : s.mem.Ok) : Result'.MemOk (execChainMissAtWrite h p s) := by
  exact Result'.MemOk.host hm chainMissAtWriteCmd_keeps

theorem execChainSupvRead_memOk (h : Hdr) (p : List Word) (s : State) (hm : s.mem.Ok) : Result'.MemOk (execChainSupvRead h p s) := by
  exact Result'.MemOk.host hm chainSupvReadCmd_keeps

theorem execChainNodeRead_memOk (h : Hdr) (p : List Word) (s : State) (hm : s.mem.Ok) : Result'.MemOk (execChainNodeRead h p s) := by
  exact Result'.MemOk.host hm chainNodeReadCmd_keeps

theorem execChainNodeWrite_memOk (h : Hdr) (p : List Word) (s : State) (hm : s.mem.Ok) : Result'.MemOk (execChainNodeWrite h p s) := by
  exact Result'.MemOk.host hm chainNodeWriteCmd_keeps

theorem execChainDescRead_memOk (h : Hdr) (p : List Word) (s : State) (hm : s.mem.Ok) : Result'.MemOk (execChainDescRead h p s) := by
  exact Result'.MemOk.host hm chainDescReadCmd_keeps

theorem execChainCensusRead_memOk (h : Hdr) (p : List Word) (s : State) (hm : s.mem.Ok) : Result'.MemOk (execChainCensusRead h p s) := by
  exact Result'.MemOk.host hm chainCensusReadCmd_keeps

theorem execChainDelayRead_memOk (h : Hdr) (p : List Word) (s : State) (hm : s.mem.Ok) : Result'.MemOk (execChainDelayRead h p s) := by
  exact Result'.MemOk.host hm chainDelayReadCmd_keeps

theorem execDiagChainCounters_memOk (h : Hdr) (p : List Word) (s : State) (hm : s.mem.Ok) : Result'.MemOk (execDiagChainCounters h p s) := by
  exact Result'.MemOk.host hm diagChainCountersCmd_keeps

theorem execTimeRead_memOk (h : Hdr) (p : List Word) (s : State) (hm : s.mem.Ok) : Result'.MemOk (execTimeRead h p s) := by
  exact Result'.MemOk.host hm timeReadCmd_keeps

theorem execTimeStage_memOk (h : Hdr) (p : List Word) (s : State) (hm : s.mem.Ok) : Result'.MemOk (execTimeStage h p s) := by
  exact Result'.MemOk.host hm timeStageCmd_keeps

theorem execTimeRate_memOk (h : Hdr) (p : List Word) (s : State) (hm : s.mem.Ok) : Result'.MemOk (execTimeRate h p s) := by
  exact Result'.MemOk.host hm timeRateCmd_keeps

theorem execTimeCpWrite_memOk (h : Hdr) (p : List Word) (s : State) (hm : s.mem.Ok) : Result'.MemOk (execTimeCpWrite h p s) := by
  exact Result'.MemOk.host hm timeCpWriteCmd_keeps

theorem execTimeCapCfg_memOk (h : Hdr) (p : List Word) (s : State) (hm : s.mem.Ok) : Result'.MemOk (execTimeCapCfg h p s) := by
  exact Result'.MemOk.host hm timeCapCfgCmd_keeps

theorem execTimeCapRead_memOk (h : Hdr) (p : List Word) (s : State) (hm : s.mem.Ok) : Result'.MemOk (execTimeCapRead h p s) := by
  exact Result'.MemOk.host hm timeCapReadCmd_keeps

theorem execDiagActRead_memOk (h : Hdr) (p : List Word) (s : State) (hm : s.mem.Ok) : Result'.MemOk (execDiagActRead h p s) := by
  exact Result'.MemOk.host hm diagActReadCmd_keeps

theorem execDiagHeadroomRead_memOk (h : Hdr) (p : List Word) (s : State) (hm : s.mem.Ok) : Result'.MemOk (execDiagHeadroomRead h p s) := by
  exact Result'.MemOk.host hm diagHeadroomReadCmd_keeps

theorem execDiagSchedRead_memOk (h : Hdr) (p : List Word) (s : State) (hm : s.mem.Ok) : Result'.MemOk (execDiagSchedRead h p s) := by
  exact Result'.MemOk.host hm diagSchedReadCmd_keeps

theorem execDiagQueueSnapshot_memOk (h : Hdr) (p : List Word) (s : State) (hm : s.mem.Ok) : Result'.MemOk (execDiagQueueSnapshot h p s) := by
  exact Result'.MemOk.host hm diagQueueSnapshotCmd_keeps

theorem execDiagLoopCounters_memOk (h : Hdr) (p : List Word) (s : State) (hm : s.mem.Ok) : Result'.MemOk (execDiagLoopCounters h p s) := by
  exact Result'.MemOk.host hm diagLoopCountersCmd_keeps

theorem execDiagCoreTest_memOk (h : Hdr) (p : List Word) (s : State) (hm : s.mem.Ok) : Result'.MemOk (execDiagCoreTest h p s) := by
  exact Result'.MemOk.host hm diagCoreTestCmd_keeps

theorem execDiagMemStatus_memOk (h : Hdr) (p : List Word) (s : State) (hm : s.mem.Ok) : Result'.MemOk (execDiagMemStatus h p s) := by
  exact Result'.MemOk.host hm diagMemStatusCmd_keeps

theorem execMoveStart_memOk (h : Hdr) (p : List Word) (s : State) (hm : s.mem.Ok) : Result'.MemOk (execMoveStart h p s) := by
  exact Result'.MemOk.host hm moveStartCmd_keeps

theorem execMoveQuickStop_memOk (h : Hdr) (p : List Word) (s : State) (hm : s.mem.Ok) : Result'.MemOk (execMoveQuickStop h p s) := by
  exact Result'.MemOk.host hm moveQuickStopCmd_keeps

theorem execMoveHold_memOk (h : Hdr) (p : List Word) (s : State) (hm : s.mem.Ok) : Result'.MemOk (execMoveHold h p s) := by
  exact Result'.MemOk.host hm moveHoldCmd_keeps

theorem execMoveResume_memOk (h : Hdr) (p : List Word) (s : State) (hm : s.mem.Ok) : Result'.MemOk (execMoveResume h p s) := by
  exact Result'.MemOk.host hm moveResumeCmd_keeps

theorem execMoveAbort_memOk (h : Hdr) (p : List Word) (s : State) (hm : s.mem.Ok) : Result'.MemOk (execMoveAbort h p s) := by
  exact Result'.MemOk.host hm moveAbortCmd_keeps

theorem execMoveSetStop_memOk (h : Hdr) (p : List Word) (s : State) (hm : s.mem.Ok) : Result'.MemOk (execMoveSetStop h p s) := by
  exact Result'.MemOk.host hm moveSetStopCmd_keeps

theorem execLoopCfgWrite_memOk (h : Hdr) (p : List Word) (s : State) (hm : s.mem.Ok) : Result'.MemOk (execLoopCfgWrite h p s) := by
  exact Result'.MemOk.host hm loopCfgWriteCmd_keeps

theorem execLoopCfgRead_memOk (h : Hdr) (p : List Word) (s : State) (hm : s.mem.Ok) : Result'.MemOk (execLoopCfgRead h p s) := by
  exact Result'.MemOk.host hm loopCfgReadCmd_keeps

theorem execLoopCurWrite_memOk (h : Hdr) (p : List Word) (s : State) (hm : s.mem.Ok) : Result'.MemOk (execLoopCurWrite h p s) := by
  exact Result'.MemOk.host hm loopCurWriteCmd_keeps

theorem execLoopCoefWrite_memOk (h : Hdr) (p : List Word) (s : State) (hm : s.mem.Ok) : Result'.MemOk (execLoopCoefWrite h p s) := by
  exact Result'.MemOk.host hm loopCoefWriteCmd_keeps

theorem execLoopParamWrite_memOk (h : Hdr) (p : List Word) (s : State) (hm : s.mem.Ok) : Result'.MemOk (execLoopParamWrite h p s) := by
  exact Result'.MemOk.host hm loopParamWriteCmd_keeps

theorem execLoopReady_memOk (h : Hdr) (p : List Word) (s : State) (hm : s.mem.Ok) : Result'.MemOk (execLoopReady h p s) := by
  exact Result'.MemOk.host hm loopReadyCmd_keeps

theorem execLoopSwap_memOk (h : Hdr) (p : List Word) (s : State) (hm : s.mem.Ok) : Result'.MemOk (execLoopSwap h p s) := by
  exact Result'.MemOk.host hm loopSwapCmd_keeps

theorem execLoopCoefRead_memOk (h : Hdr) (p : List Word) (s : State) (hm : s.mem.Ok) : Result'.MemOk (execLoopCoefRead h p s) := by
  exact Result'.MemOk.host hm loopCoefReadCmd_keeps

theorem execTableWinWrite_memOk (h : Hdr) (p : List Word) (s : State) (hm : s.mem.Ok) : Result'.MemOk (execTableWinWrite h p s) := by
  exact Result'.MemOk.host hm tableWinWriteCmd_keeps

theorem execTableMapWrite_memOk (h : Hdr) (p : List Word) (s : State) (hm : s.mem.Ok) : Result'.MemOk (execTableMapWrite h p s) := by
  exact Result'.MemOk.host hm tableMapWriteCmd_keeps

theorem execTableNodeWrite_memOk (h : Hdr) (p : List Word) (s : State) (hm : s.mem.Ok) : Result'.MemOk (execTableNodeWrite h p s) := by
  exact Result'.MemOk.host hm tableNodeWriteCmd_keeps

theorem execTableBudgetWrite_memOk (h : Hdr) (p : List Word) (s : State) (hm : s.mem.Ok) : Result'.MemOk (execTableBudgetWrite h p s) := by
  exact Result'.MemOk.host hm tableBudgetWriteCmd_keeps

theorem execTableRead_memOk (h : Hdr) (p : List Word) (s : State) (hm : s.mem.Ok) : Result'.MemOk (execTableRead h p s) := by
  exact Result'.MemOk.host hm tableReadCmd_keeps

theorem execTableStage_memOk (h : Hdr) (p : List Word) (s : State) (hm : s.mem.Ok) : Result'.MemOk (execTableStage h p s) := by
  exact Result'.MemOk.host hm tableStageCmd_keeps

theorem execTableCommit_memOk (h : Hdr) (p : List Word) (s : State) (hm : s.mem.Ok) : Result'.MemOk (execTableCommit h p s) := by
  exact Result'.MemOk.host hm tableCommitCmd_keeps

theorem execPulsePinCfg_memOk (h : Hdr) (p : List Word) (s : State) (hm : s.mem.Ok) : Result'.MemOk (execPulsePinCfg h p s) := by
  exact Result'.MemOk.host hm pulsePinCfgCmd_keeps

theorem execPulseStpCfg_memOk (h : Hdr) (p : List Word) (s : State) (hm : s.mem.Ok) : Result'.MemOk (execPulseStpCfg h p s) := by
  exact Result'.MemOk.host hm pulseStpCfgCmd_keeps

theorem execPulseRead_memOk (h : Hdr) (p : List Word) (s : State) (hm : s.mem.Ok) : Result'.MemOk (execPulseRead h p s) := by
  exact Result'.MemOk.host hm pulseReadCmd_keeps

theorem execFeedbackCfgWrite_memOk (h : Hdr) (p : List Word) (s : State) (hm : s.mem.Ok) : Result'.MemOk (execFeedbackCfgWrite h p s) := by
  exact Result'.MemOk.host hm feedbackCfgWriteCmd_keeps

theorem execFeedbackCfgRead_memOk (h : Hdr) (p : List Word) (s : State) (hm : s.mem.Ok) : Result'.MemOk (execFeedbackCfgRead h p s) := by
  exact Result'.MemOk.host hm feedbackCfgReadCmd_keeps

theorem execFeedbackResultRead_memOk (h : Hdr) (p : List Word) (s : State) (hm : s.mem.Ok) : Result'.MemOk (execFeedbackResultRead h p s) := by
  exact Result'.MemOk.host hm feedbackResultReadCmd_keeps

theorem execFeedbackSingleRead_memOk (h : Hdr) (p : List Word) (s : State) (hm : s.mem.Ok) : Result'.MemOk (execFeedbackSingleRead h p s) := by
  exact Result'.MemOk.host hm feedbackSingleReadCmd_keeps

theorem execAdcCfgWrite_memOk (h : Hdr) (p : List Word) (s : State) (hm : s.mem.Ok) : Result'.MemOk (execAdcCfgWrite h p s) := by
  exact Result'.MemOk.host hm adcCfgWriteCmd_keeps

theorem execAdcSeqWrite_memOk (h : Hdr) (p : List Word) (s : State) (hm : s.mem.Ok) : Result'.MemOk (execAdcSeqWrite h p s) := by
  exact Result'.MemOk.host hm adcSeqWriteCmd_keeps

theorem execAdcStart_memOk (h : Hdr) (p : List Word) (s : State) (hm : s.mem.Ok) : Result'.MemOk (execAdcStart h p s) := by
  exact Result'.MemOk.host hm adcStartCmd_keeps

theorem execAdcResultRead_memOk (h : Hdr) (p : List Word) (s : State) (hm : s.mem.Ok) : Result'.MemOk (execAdcResultRead h p s) := by
  exact Result'.MemOk.host hm adcResultReadCmd_keeps

theorem execAdcStatRead_memOk (h : Hdr) (p : List Word) (s : State) (hm : s.mem.Ok) : Result'.MemOk (execAdcStatRead h p s) := by
  exact Result'.MemOk.host hm adcStatReadCmd_keeps

theorem execEnvRead_memOk (h : Hdr) (p : List Word) (s : State) (hm : s.mem.Ok) : Result'.MemOk (execEnvRead h p s) := by
  exact Result'.MemOk.host (hm.of_eq (by simp)) envReadCmd_keeps

theorem execEnvClampRead_memOk (h : Hdr) (p : List Word) (s : State) (hm : s.mem.Ok) : Result'.MemOk (execEnvClampRead h p s) := by
  exact Result'.MemOk.host hm envClampReadCmd_keeps

theorem execTwinCfgWrite_memOk (h : Hdr) (p : List Word) (s : State) (hm : s.mem.Ok) : Result'.MemOk (execTwinCfgWrite h p s) := by
  exact Result'.MemOk.host hm twinCfgWriteCmd_keeps

theorem execTwinStatus_memOk (h : Hdr) (p : List Word) (s : State) (hm : s.mem.Ok) : Result'.MemOk (execTwinStatus h p s) := by
  exact Result'.MemOk.host hm twinStatusCmd_keeps

theorem execTwinSwap_memOk (h : Hdr) (p : List Word) (s : State) (hm : s.mem.Ok) : Result'.MemOk (execTwinSwap h p s) := by
  exact Result'.MemOk.host hm twinSwapCmd_keeps

theorem execClusterCfgWrite_memOk (h : Hdr) (p : List Word) (s : State) (hm : s.mem.Ok) : Result'.MemOk (execClusterCfgWrite h p s) := by
  exact Result'.MemOk.host hm clusterCfgWriteCmd_keeps

theorem execClusterStatus_memOk (h : Hdr) (p : List Word) (s : State) (hm : s.mem.Ok) : Result'.MemOk (execClusterStatus h p s) := by
  exact Result'.MemOk.host hm clusterStatusCmd_keeps

theorem execClusterMoveAxis_memOk (h : Hdr) (p : List Word) (s : State) (hm : s.mem.Ok) : Result'.MemOk (execClusterMoveAxis h p s) := by
  exact Result'.MemOk.host hm clusterMoveAxisCmd_keeps

theorem execTraceCfgWrite_memOk (h : Hdr) (p : List Word) (s : State) (hm : s.mem.Ok) : Result'.MemOk (execTraceCfgWrite h p s) := by
  exact Result'.MemOk.host hm traceCfgWriteCmd_keeps

theorem execTraceSigWrite_memOk (h : Hdr) (p : List Word) (s : State) (hm : s.mem.Ok) : Result'.MemOk (execTraceSigWrite h p s) := by
  exact Result'.MemOk.host hm traceSigWriteCmd_keeps

theorem execTraceTrigWrite_memOk (h : Hdr) (p : List Word) (s : State) (hm : s.mem.Ok) : Result'.MemOk (execTraceTrigWrite h p s) := by
  exact Result'.MemOk.host hm traceTrigWriteCmd_keeps

theorem execTraceArm_memOk (h : Hdr) (p : List Word) (s : State) (hm : s.mem.Ok) : Result'.MemOk (execTraceArm h p s) := by
  exact Result'.MemOk.host hm traceArmCmd_keeps

theorem execTraceStop_memOk (h : Hdr) (p : List Word) (s : State) (hm : s.mem.Ok) : Result'.MemOk (execTraceStop h p s) := by
  exact Result'.MemOk.host hm traceStopCmd_keeps

theorem execTraceStatus_memOk (h : Hdr) (p : List Word) (s : State) (hm : s.mem.Ok) : Result'.MemOk (execTraceStatus h p s) := by
  exact Result'.MemOk.host hm traceStatusCmd_keeps

theorem execFilterJobStart_memOk (h : Hdr) (p : List Word) (s : State) (hm : s.mem.Ok) : Result'.MemOk (execFilterJobStart h p s) := by
  exact Result'.MemOk.host hm filterJobStartCmd_keeps

theorem execFilterJobStatus_memOk (h : Hdr) (p : List Word) (s : State) (hm : s.mem.Ok) : Result'.MemOk (execFilterJobStatus h p s) := by
  exact Result'.MemOk.host hm filterJobStatusCmd_keeps

theorem execFilterJobAbort_memOk (h : Hdr) (p : List Word) (s : State) (hm : s.mem.Ok) : Result'.MemOk (execFilterJobAbort h p s) := by
  exact Result'.MemOk.host hm filterJobAbortCmd_keeps

theorem execEventClassWrite_memOk (h : Hdr) (p : List Word) (s : State) (hm : s.mem.Ok) : Result'.MemOk (execEventClassWrite h p s) := by
  exact Result'.MemOk.host hm eventClassWriteCmd_keeps

theorem execEventClassRead_memOk (h : Hdr) (p : List Word) (s : State) (hm : s.mem.Ok) : Result'.MemOk (execEventClassRead h p s) := by
  exact Result'.MemOk.host hm eventClassReadCmd_keeps

theorem execBbrRead_memOk (h : Hdr) (p : List Word) (s : State) (hm : s.mem.Ok) : Result'.MemOk (execBbrRead h p s) := by
  exact Result'.MemOk.host hm bbrReadCmd_keeps

theorem execBbrWrite_memOk (h : Hdr) (p : List Word) (s : State) (hm : s.mem.Ok) : Result'.MemOk (execBbrWrite h p s) := by
  exact Result'.MemOk.host hm bbrWriteCmd_keeps

theorem execFwWrite_memOk (h : Hdr) (p : List Word) (s : State) (hm : s.mem.Ok) : Result'.MemOk (execFwWrite h p s) := by
  exact Result'.MemOk.host hm fwWriteCmd_keeps

theorem execFwVerify_memOk (h : Hdr) (p : List Word) (s : State) (hm : s.mem.Ok) : Result'.MemOk (execFwVerify h p s) := by
  exact Result'.MemOk.host hm fwVerifyCmd_keeps

theorem execFwActivate_memOk (h : Hdr) (p : List Word) (s : State) (hm : s.mem.Ok) : Result'.MemOk (execFwActivate h p s) := by
  exact Result'.MemOk.host hm fwActivateCmd_keeps

theorem execFwInfo_memOk (h : Hdr) (p : List Word) (s : State) (hm : s.mem.Ok) : Result'.MemOk (execFwInfo h p s) := by
  exact Result'.MemOk.host hm fwInfoCmd_keeps

theorem execSafeCfgWrite_memOk (h : Hdr) (p : List Word) (s : State) (hm : s.mem.Ok) : Result'.MemOk (execSafeCfgWrite h p s) := by
  exact Result'.MemOk.host hm safeCfgWriteCmd_keeps

theorem execSafeZoneWrite_memOk (h : Hdr) (p : List Word) (s : State) (hm : s.mem.Ok) : Result'.MemOk (execSafeZoneWrite h p s) := by
  exact Result'.MemOk.host hm safeZoneWriteCmd_keeps

theorem execSafeAxisWrite_memOk (h : Hdr) (p : List Word) (s : State) (hm : s.mem.Ok) : Result'.MemOk (execSafeAxisWrite h p s) := by
  exact Result'.MemOk.host hm safeAxisWriteCmd_keeps

theorem execSafeSiWrite_memOk (h : Hdr) (p : List Word) (s : State) (hm : s.mem.Ok) : Result'.MemOk (execSafeSiWrite h p s) := by
  exact Result'.MemOk.host hm safeSiWriteCmd_keeps

theorem execSafeRead_memOk (h : Hdr) (p : List Word) (s : State) (hm : s.mem.Ok) : Result'.MemOk (execSafeRead h p s) := by
  exact Result'.MemOk.host hm safeReadCmd_keeps

theorem execSafeConfirm_memOk (h : Hdr) (p : List Word) (s : State) (hm : s.mem.Ok) : Result'.MemOk (execSafeConfirm h p s) := by
  exact Result'.MemOk.host hm safeConfirmCmd_keeps

theorem execSafeDemand_memOk (h : Hdr) (p : List Word) (s : State) (hm : s.mem.Ok) : Result'.MemOk (execSafeDemand h p s) := by
  exact Result'.MemOk.host hm safeDemandCmd_keeps

theorem execSafeStatus_memOk (h : Hdr) (p : List Word) (s : State) (hm : s.mem.Ok) : Result'.MemOk (execSafeStatus h p s) := by
  exact Result'.MemOk.host hm safeStatusCmd_keeps

theorem execSysIdent_memOk (h : Hdr) (p : List Word) (s : State) (hm : s.mem.Ok) : Result'.MemOk (execSysIdent h p s) := by
  exact Result'.MemOk.host hm sysIdentCmd_keeps

theorem execSysReset_memOk (h : Hdr) (p : List Word) (s : State) (hm : s.mem.Ok) : Result'.MemOk (execSysReset h p s) := by
  exact Result'.MemOk.host hm sysResetCmd_keeps

theorem execSysNop_memOk (h : Hdr) (p : List Word) (s : State) (hm : s.mem.Ok) : Result'.MemOk (execSysNop h p s) := by
  exact Result'.MemOk.host hm sysNopCmd_keeps

theorem execModeRead_memOk (h : Hdr) (p : List Word) (s : State) (hm : s.mem.Ok) : Result'.MemOk (execModeRead h p s) := by
  exact Result'.MemOk.host hm modeReadCmd_keeps

theorem execModeSet_memOk (h : Hdr) (p : List Word) (s : State) (hm : s.mem.Ok) : Result'.MemOk (execModeSet h p s) := by
  exact Result'.MemOk.host hm modeSetCmd_keeps

theorem execGearRead_memOk (h : Hdr) (p : List Word) (s : State) (hm : s.mem.Ok) : Result'.MemOk (execGearRead h p s) := by
  exact Result'.MemOk.host hm gearReadCmd_keeps

theorem execGearSet_memOk (h : Hdr) (p : List Word) (s : State) (hm : s.mem.Ok) : Result'.MemOk (execGearSet h p s) := by
  exact Result'.MemOk.host hm gearSetCmd_keeps

theorem execGearShift_memOk (h : Hdr) (p : List Word) (s : State) (hm : s.mem.Ok) : Result'.MemOk (execGearShift h p s) := by
  exact Result'.MemOk.host hm gearShiftCmd_keeps

theorem execLimitDebounced_memOk (n : Fin 16) (positive : Bool) (x : LimitLevel) (s : State) (hm : s.mem.Ok) : Result'.MemOk (execLimitDebounced n positive x s) := by
  unfold execLimitDebounced; simp [hm]

theorem execPulseInputStep_memOk (n : Fin 16) (e : PulseStep) (t : Nat) (s : State) (hm : s.mem.Ok) : Result'.MemOk (execPulseInputStep n e t s) := by
  unfold execPulseInputStep; simp [hm]

theorem execStepPulse_memOk (n : Fin 16) (s : State) (hm : s.mem.Ok) : Result'.MemOk (execStepPulse n s) := by
  unfold execStepPulse; dsimp only; (repeat' split) <;> simp [hm]

theorem execStepRateExpiry_memOk (n : Fin 16) (s : State) (hm : s.mem.Ok) : Result'.MemOk (execStepRateExpiry n s) := by
  unfold execStepRateExpiry; simp [hm]

theorem execCaptureEdge_memOk (n : Fin 4) (level : Bool) (t : Nat) (s : State) (hm : s.mem.Ok) : Result'.MemOk (execCaptureEdge n level t s) := by
  unfold execCaptureEdge; simp [hm]

theorem execEncoderRequest_memOk (n : Fin 16) (s : State) (hm : s.mem.Ok) : Result'.MemOk (execEncoderRequest n s) := by
  unfold execEncoderRequest; simp [hm]

theorem execEncoderRequestEdge_memOk (n : Fin 16) (t : Nat) (s : State) (hm : s.mem.Ok) : Result'.MemOk (execEncoderRequestEdge n t s) := by
  unfold execEncoderRequestEdge; simp [hm]

theorem execEncoderStartEdge_memOk (n : Fin 16) (t : Nat) (s : State) (hm : s.mem.Ok) : Result'.MemOk (execEncoderStartEdge n t s) := by
  unfold execEncoderStartEdge; dsimp only; (repeat' split) <;> simp [hm]

theorem execEncoderTimeout_memOk (n : Fin 16) (s : State) (hm : s.mem.Ok) : Result'.MemOk (execEncoderTimeout n s) := by
  unfold execEncoderTimeout; dsimp only; (repeat' split) <;> simp [hm]

theorem execEncoderWordDone_memOk (n : Fin 16) (bits : List Bool) (s : State) (hm : s.mem.Ok) : Result'.MemOk (execEncoderWordDone n bits s) := by
  unfold execEncoderWordDone; dsimp only; (repeat' split) <;> simp [hm]

theorem execQuadratureEdge_memOk (n : Fin 16) (e : QuadEdge) (t : Nat) (s : State) (hm : s.mem.Ok) : Result'.MemOk (execQuadratureEdge n e t s) := by
  unfold execQuadratureEdge; simp [hm]

theorem execIncrementalLatch_memOk (n : Fin 16) (s : State) (hm : s.mem.Ok) : Result'.MemOk (execIncrementalLatch n s) := by
  unfold execIncrementalLatch; simp [hm]

theorem execIndexEdge_memOk (n : Fin 16) (t : Nat) (s : State) (hm : s.mem.Ok) : Result'.MemOk (execIndexEdge n t s) := by
  unfold execIndexEdge; simp [hm]

theorem execAdcTimeTrigger_memOk (x : Fin 2) (s : State) (hm : s.mem.Ok) : Result'.MemOk (execAdcTimeTrigger x s) := by
  unfold execAdcTimeTrigger; dsimp only; (repeat' split) <;> simp [hm]

theorem execConversionDone_memOk (x : Fin 2) (v : Conversion) (s : State) (hm : s.mem.Ok) : Result'.MemOk (execConversionDone x v s) := by
  unfold execConversionDone; dsimp only; (repeat' split) <;> simp [hm]

theorem execMainsCrossing_memOk (x : Fin 2) (t : Nat) (s : State) (hm : s.mem.Ok) : Result'.MemOk (execMainsCrossing x t s) := by
  unfold execMainsCrossing; simp [hm]

theorem execMainsLockTimeout_memOk (x : Fin 2) (s : State) (hm : s.mem.Ok) : Result'.MemOk (execMainsLockTimeout x s) := by
  unfold execMainsLockTimeout; dsimp only; (repeat' split) <;> simp [hm]

theorem execRefSettled_memOk (x : Fin 2) (s : State) (hm : s.mem.Ok) : Result'.MemOk (execRefSettled x s) := by
  unfold execRefSettled; simp [hm]

theorem execRxqTailWrite_memOk (n : Fin 2) (v : Word) (s : State) (hm : s.mem.Ok) : Result'.MemOk (execRxqTailWrite n v s) := by
  unfold execRxqTailWrite; simp [hm]

theorem execRxwRead_memOk (n : Fin 2) (s : State) (hm : s.mem.Ok) : Result'.MemOk (execRxwRead n s) := by
  unfold execRxwRead; simp [hm]

theorem execCanFrameReceived_memOk (n : Fin 2) (f : CanFrame) (t : Nat) (s : State) (hm : s.mem.Ok) : Result'.MemOk (execCanFrameReceived n f t s) := by
  unfold execCanFrameReceived; dsimp only; (repeat' split) <;> simp [hm]

theorem execReferenceMessage_memOk (n : Fin 2) (f : RefMessage) (t : Nat) (s : State) (hm : s.mem.Ok) : Result'.MemOk (execReferenceMessage n f t s) := by
  unfold execReferenceMessage; dsimp only; (repeat' split) <;> simp [hm]

theorem execCanTxOffer_memOk (n : Fin 2) (s : State) (hm : s.mem.Ok) : Result'.MemOk (execCanTxOffer n s) := by
  unfold execCanTxOffer; dsimp only; (repeat' split) <;> simp [hm]

theorem execCanTxDone_memOk (n : Fin 2) (t : Nat) (s : State) (hm : s.mem.Ok) : Result'.MemOk (execCanTxDone n t s) := by
  unfold execCanTxDone; dsimp only; (repeat' split) <;> simp [hm]

theorem execCanError_memOk (n : Fin 2) (e : CanErr) (s : State) (hm : s.mem.Ok) : Result'.MemOk (execCanError n e s) := by
  unfold execCanError; dsimp only; (repeat' split) <;> simp [hm]

theorem execCanRecoveryDone_memOk (n : Fin 2) (s : State) (hm : s.mem.Ok) : Result'.MemOk (execCanRecoveryDone n s) := by
  unfold execCanRecoveryDone; dsimp only; (repeat' split) <;> simp [hm]

theorem execTtBasicCycle_memOk (n : Fin 2) (s : State) (hm : s.mem.Ok) : Result'.MemOk (execTtBasicCycle n s) := by
  unfold execTtBasicCycle; dsimp only; (repeat' split) <;> simp [hm]

theorem execTtWindowStart_memOk (n : Fin 2) (w : Nat) (free_ : Bool) (s : State) (hm : s.mem.Ok) : Result'.MemOk (execTtWindowStart n w free_ s) := by
  unfold execTtWindowStart; dsimp only; (repeat' split) <;> simp [hm]

theorem execTtWindowMiss_memOk (n : Fin 2) (w : Nat) (s : State) (hm : s.mem.Ok) : Result'.MemOk (execTtWindowMiss n w s) := by
  unfold execTtWindowMiss; dsimp only; (repeat' split) <;> simp [hm]

theorem execReferenceTimeout_memOk (n : Fin 2) (s : State) (hm : s.mem.Ok) : Result'.MemOk (execReferenceTimeout n s) := by
  unfold execReferenceTimeout; dsimp only; (repeat' split) <;> simp [hm]

theorem execReferencesLost_memOk (n : Fin 2) (s : State) (hm : s.mem.Ok) : Result'.MemOk (execReferencesLost n s) := by
  unfold execReferencesLost; dsimp only; (repeat' split) <;> simp [hm]

theorem execCandidateSpoke_memOk (c : Fin 2) (b : Bool) (k : Fin 128) (fb : Feedback) (t : Nat) (s : State) (hm : s.mem.Ok) : Result'.MemOk (execCandidateSpoke c b k fb t s) := by
  unfold execCandidateSpoke; simp [hm]

theorem execCopyConfirm_memOk (c : Fin 2) (b : Bool) (i : CopyInfo) (t : Nat) (s : State) (hm : s.mem.Ok) : Result'.MemOk (execCopyConfirm c b i t s) := by
  unfold execCopyConfirm; simp [hm]

theorem execMissInstant_memOk (c : Fin 2) (s : State) (hm : s.mem.Ok) : Result'.MemOk (execMissInstant c s) := by
  unfold execMissInstant; simp [hm]

theorem execServiceCopyReturn_memOk (c : Fin 2) (b : Bool) (i : CopyInfo) (replies : List Reply) (safe : List Byte) (t : Nat) (s : State)
    (hm : s.mem.Ok) : Result'.MemOk (execServiceCopyReturn c b i replies safe t s) := by
  unfold execServiceCopyReturn
  dsimp only
  rw [Result'.memOk_next]
  split
  · simp [hm]
  · split
    · rename_i u e; exact Rams.Ok.of_eq hm (by rw [State.discards_mem e]; simp)
    · simp [hm]

theorem execDiscoveryCopyReturn_memOk (c : Fin 2) (b : Bool) (i : CopyInfo) (hops : Nat) (recs : List CensusRec) (t : Nat) (s : State)
    (hm : s.mem.Ok) : Result'.MemOk (execDiscoveryCopyReturn c b i hops recs t s) := by
  unfold execDiscoveryCopyReturn
  dsimp only
  rw [Result'.memOk_next]
  split
  · simp [hm]
  · split
    · rename_i u e; exact Rams.Ok.of_eq hm (by rw [State.discards_mem e]; simp)
    · simp [hm]

theorem execDelayCopyReturn_memOk (c : Fin 2) (b : Bool) (i : CopyInfo) (round : Fin 16) (hops : Nat) (recs : List DelayRec) (t : Nat)
    (s : State) (hm : s.mem.Ok) : Result'.MemOk (execDelayCopyReturn c b i round hops recs t s) := by
  unfold execDelayCopyReturn
  dsimp only
  rw [Result'.memOk_next]
  split
  · simp [hm]
  · split
    · rename_i u e; exact Rams.Ok.of_eq hm (by rw [State.discards_mem e]; simp)
    · simp [hm]

theorem execForeignFrame_memOk (c : Fin 2) (s : State) (hm : s.mem.Ok) : Result'.MemOk (execForeignFrame c s) := by
  unfold execForeignFrame; simp [hm]

theorem execPassThroughForward_memOk (c : Fin 2) (f : PassFrame) (t : Nat) (s : State) (hm : s.mem.Ok) : Result'.MemOk (execPassThroughForward c f t s) := by
  unfold execPassThroughForward; simp [hm]

theorem execLinkUp_memOk (c : Fin 2) (right : Bool) (t : Nat) (s : State) (hm : s.mem.Ok) : Result'.MemOk (execLinkUp c right t s) := by
  unfold execLinkUp; simp [hm]

theorem execLinkDown_memOk (c : Fin 2) (right : Bool) (t : Nat) (s : State) (hm : s.mem.Ok) : Result'.MemOk (execLinkDown c right t s) := by
  unfold execLinkDown; simp [hm]

theorem execPhyStatusPoll_memOk (up : BitVec 4) (t : Nat) (s : State) (hm : s.mem.Ok) : Result'.MemOk (execPhyStatusPoll up t s) := by
  unfold execPhyStatusPoll; simp [hm]

@[simp] theorem State.missSource_memOk (s : State) (i : Nat) (h : s.mem.Ok) : (s.missSource i).mem.Ok := by
  unfold State.missSource
  dsimp only
  (repeat' split)
  · exact h
  · simp only [State.occur_mem]; exact ⟨h.1, Memory.writeWord_wf _ _ _ h.2⟩
  · simp [h]

@[simp] theorem State.takeStream_memOk (s : State) (i : Nat) (h : s.mem.Ok) : (s.takeStream i).mem.Ok := by
  unfold State.takeStream
  dsimp only
  split
  · exact State.missSource_memOk _ _ (h.of_eq (by simp))
  · exact ⟨(h.of_eq (State.updAx_mem _ _ _)).1, Memory.writeWord_wf _ _ _ (h.of_eq (State.updAx_mem _ _ _)).2⟩

@[simp] theorem State.takeConverter_memOk (s : State) (i : Nat) (h : s.mem.Ok) : (s.takeConverter i).mem.Ok := by
  unfold State.takeConverter
  dsimp only
  (repeat' split) <;> first | exact h.of_eq (by simp; done) | exact State.missSource_memOk _ _ (h.of_eq (by simp; done))

@[simp] theorem State.takeSetPoint_memOk (s : State) (i : Nat) (h : s.mem.Ok) : (s.takeSetPoint i).mem.Ok := by
  unfold State.takeSetPoint
  dsimp only
  (repeat' split) <;> first | exact h | exact State.takeStream_memOk _ _ h | exact State.takeConverter_memOk _ _ h

@[simp] theorem State.startAxes_memOk (s : State) (h : s.mem.Ok) : s.startAxes.mem.Ok := by
  unfold State.startAxes
  dsimp only
  have h1 := fun l u (hu : u.mem.Ok) => foldl_memOk State.takeSetPoint (fun t k => State.takeSetPoint_memOk t k) l u hu
  simp [h, h1]

@[simp] theorem State.write2_memOk (s : State) (a : Nat) (b : Byte) (h : s.mem.Ok) : (s.write2 a b).mem.Ok := by
  unfold State.write2
  (repeat' split) <;> first | exact h | exact ⟨h.1, Memory.write_wf _ _ _ h.2⟩ | exact h.of_eq (by simp)

@[simp] theorem State.write2s_memOk (s : State) (wrap a : Nat) (l : List Byte) (h : s.mem.Ok) : (s.write2s wrap a l).mem.Ok := by
  induction l generalizing s a with
  | nil => exact h
  | cons b l ih => exact ih _ _ (State.write2_memOk s a b h)

@[simp] theorem State.writePart_memOk (s : State) (off : Nat) (bs : List Byte) (h : s.mem.Ok) : (s.writePart off bs).mem.Ok := by
  unfold State.writePart
  dsimp only
  (repeat' split) <;> first | exact h | exact State.write2s_memOk _ _ _ _ (h.of_eq (by simp)) | exact h.of_eq (by simp)

@[simp] theorem State.write0_memOk (f : Nat) (s : State) (off : Nat) (bs : List Byte) (h : s.mem.Ok) : (State.write0 f s off bs).mem.Ok := by
  induction f generalizing s off bs with
  | zero => exact h
  | succ f ih =>
    unfold State.write0
    dsimp only
    split
    · exact h
    · exact ih _ _ _ (State.writePart_memOk _ _ _ h)

@[simp] theorem State.doAccess_memOk (s : State) (a : MemAccess) (h : s.mem.Ok) : (s.doAccess a).mem.Ok := by
  unfold State.doAccess
  dsimp only
  (repeat' split) <;> first
    | exact State.write2s_memOk _ _ _ _ h | exact State.write0_memOk _ _ _ _ h | exact h.of_eq (by simp)

@[simp] theorem State.pausePcie_memOk (s : State) (a : MemAccess) (l : List MemAccess) (h : s.mem.Ok) : (s.pausePcie a l).mem.Ok := by
  have h1 : ∀ k, (({ s.countDefer 6 with budget := (s.countDefer 6).hostSpend k } : State).doAccess (accessPart a k)).mem.Ok :=
    fun k => State.doAccess_memOk _ _ (h.of_eq (by simp))
  unfold State.pausePcie
  dsimp only
  split
  · exact h.of_eq (by simp)
  · split <;> exact h1 _

@[simp] theorem State.access_memOk (s : State) (a : MemAccess) (h : s.mem.Ok) : (s.access a).mem.Ok := by
  unfold State.access
  dsimp only
  split
  · exact h.of_eq (by simp)
  · split
    · rename_i t e; exact State.doAccess_memOk _ _ (h.of_eq (State.chargeHost_mem e))
    · exact State.pausePcie_memOk _ _ _ h

@[simp] theorem State.releasePcie_memOk (f : Nat) (s : State) (h : s.mem.Ok) : (State.releasePcie f s).mem.Ok := by
  induction f generalizing s with
  | zero => exact h
  | succ f ih =>
    unfold State.releasePcie
    split
    · exact h
    · split
      · rename_i t e
        exact ih _ (State.serve_memOk (State.doAccess_memOk _ _ (h.of_eq (State.chargeHost_mem e :))))
      · exact State.pausePcie_memOk _ _ _ h

@[simp] theorem State.qspiLand_memOk (s : State) (addr : Nat) (bs : List Byte) (h : s.mem.Ok) : (s.qspiLand addr bs).mem.Ok := by
  unfold State.qspiLand
  (repeat' split) <;> first | exact h | exact State.write2s_memOk _ _ _ _ h | exact State.write0_memOk _ _ _ _ h

@[simp] theorem State.qspiPart_memOk (s : State) (addr : Nat) (bs : List Byte) (h : s.mem.Ok) : (s.qspiPart addr bs).mem.Ok := by
  unfold State.qspiPart
  dsimp only
  split
  · exact h.of_eq (by simp)
  · exact State.qspiLand_memOk _ _ _ (h.of_eq (by simp))

@[simp] theorem State.qspiPut_memOk (s : State) (addr : Nat) (bs : List Byte) (h : s.mem.Ok) : (s.qspiPut addr bs).mem.Ok := by
  unfold State.qspiPut
  dsimp only
  split
  · exact h.of_eq (by simp)
  · split
    · rename_i t e; exact State.qspiLand_memOk _ _ _ (h.of_eq (State.chargeHost_mem e))
    · exact (State.qspiPart_memOk s addr bs h).of_eq (by simp)

@[simp] theorem State.releaseQspi_memOk (f : Nat) (s : State) (h : s.mem.Ok) : (State.releaseQspi f s).mem.Ok := by
  induction f generalizing s with
  | zero => exact h
  | succ f ih =>
    unfold State.releaseQspi
    split
    · exact h
    · split
      · rename_i t e
        exact ih _ (State.serve_memOk (State.qspiLand_memOk _ _ _ (h.of_eq (State.chargeHost_mem e :))))
      · exact State.qspiPart_memOk s _ _ h

@[simp] theorem State.portWrite_memOk (s : State) (addr : Nat) (bs : List Byte) (h : s.mem.Ok) : (s.portWrite addr bs).mem.Ok := by
  unfold State.portWrite
  split
  · exact State.qspiPut_memOk _ _ _ h
  · exact State.access_memOk _ _ h

theorem execCanTxEntryOwn_memOk (n : Fin 2) (i : Fin 32) (w0 w1 w2 w3 : Word) (data : List Byte) (s : State) (hm : s.mem.Ok) :
    Result'.MemOk (execCanTxEntryOwn n i w0 w1 w2 w3 data s) := by
  unfold execCanTxEntryOwn
  dsimp only
  rw [Result'.memOk_next]
  split
  · exact hm
  · split
    · exact hm.of_eq (by simp)
    · exact State.portWrite_memOk _ _ _ (State.portWrite_memOk _ _ _ (State.portWrite_memOk _ _ _ hm))

@[simp] theorem State.releaseHeld_memOk (s : State) (h : s.mem.Ok) : s.releaseHeld.mem.Ok := by
  unfold State.releaseHeld
  exact State.releaseQspi_memOk _ _ (State.releasePcie_memOk _ _ h)

@[simp] theorem State.beginCycle_memOk (s : State) (h : s.mem.Ok) : s.beginCycle.mem.Ok := by
  unfold State.beginCycle
  dsimp only
  (repeat' split) <;> simp [h]

@[simp] theorem State.eventsSent_mem (s : State) : (State.eventsSent s).mem = s.mem := by
  simp [State.eventsSent]

@[simp] theorem State.crossBoundary_memOk (s : State) (ringPeriod : Nat) (h : s.mem.Ok) : (s.crossBoundary ringPeriod).mem.Ok := by
  unfold State.crossBoundary
  dsimp only
  (repeat' split) <;> simp [h]

theorem execListenEnd_memOk (s : State) (hm : s.mem.Ok) : Result'.MemOk (execListenEnd s) := by
  unfold execListenEnd; simp [hm]

theorem execClaimPeriod_memOk (s : State) (hm : s.mem.Ok) : Result'.MemOk (execClaimPeriod s) := by
  unfold execClaimPeriod; simp [hm]

theorem execClaimFrameReceived_memOk (c : Fin 2) (f : ClaimFrame) (t : Nat) (s : State) (hm : s.mem.Ok) : Result'.MemOk (execClaimFrameReceived c f t s) := by
  unfold execClaimFrameReceived; simp [hm]

theorem execPpsEdge_memOk (t : Nat) (s : State) (hm : s.mem.Ok) : Result'.MemOk (execPpsEdge t s) := by
  unfold execPpsEdge; simp [hm]

theorem execRateStep_memOk (s : State) (hm : s.mem.Ok) : Result'.MemOk (execRateStep s) := by
  unfold execRateStep; simp [hm]

theorem execClaimReport_memOk (m : Fin 4) (won : Bool) (s : State) (hm : s.mem.Ok) : Result'.MemOk (execClaimReport m won s) := by
  unfold execClaimReport; simp [hm]

theorem execClaimOrder_memOk (step : Bool) (value : Option Nat) (s : State) (hm : s.mem.Ok) : Result'.MemOk (execClaimOrder step value s) := by
  unfold execClaimOrder; simp [hm]

theorem execLeaseRenewal_memOk (s : State) (hm : s.mem.Ok) : Result'.MemOk (execLeaseRenewal s) := by
  unfold execLeaseRenewal; simp [hm]

theorem execLeaseLapse_memOk (s : State) (hm : s.mem.Ok) : Result'.MemOk (execLeaseLapse s) := by
  unfold execLeaseLapse; simp [hm]

theorem execHeartbeatReceived_memOk (seq : Word) (t : Nat) (s : State) (hm : s.mem.Ok) : Result'.MemOk (execHeartbeatReceived seq t s) := by
  unfold execHeartbeatReceived; simp [hm]

theorem execBeaconReceived_memOk (c : Fin 2) (f : BeaconFrame) (t : Nat) (s : State) (hm : s.mem.Ok) : Result'.MemOk (execBeaconReceived c f t s) := by
  unfold execBeaconReceived; simp [hm]

theorem execSilenceCheck_memOk (s : State) (hm : s.mem.Ok) : Result'.MemOk (execSilenceCheck s) := by
  unfold execSilenceCheck; simp [hm]

theorem execTakeover_memOk (s : State) (hm : s.mem.Ok) : Result'.MemOk (execTakeover s) := by
  unfold execTakeover; simp [hm]

theorem execSyncLinkLock_memOk (peer : PairId) (s : State) (hm : s.mem.Ok) : Result'.MemOk (execSyncLinkLock peer s) := by
  unfold execSyncLinkLock; (repeat' split) <;> simp [hm]

theorem execSyncLinkChange_memOk (lanes : BitVec 2) (s : State) (hm : s.mem.Ok) : Result'.MemOk (execSyncLinkChange lanes s) := by
  unfold execSyncLinkChange; simp [hm]

theorem execCopyControlBlock_memOk (cb : ControlBlock) (recs : List AxisRec) (precs : List ProfileRec) (t : Nat) (s : State) (hm : s.mem.Ok) : Result'.MemOk (execCopyControlBlock cb recs precs t s) := by
  unfold execCopyControlBlock; simp [hm]

theorem execCopyAcknowledge_memOk (seq : Word) (s : State) (hm : s.mem.Ok) : Result'.MemOk (execCopyAcknowledge seq s) := by
  unfold execCopyAcknowledge; simp [hm]

theorem execForwardedChange_memOk (gen : Word) (x : Forwarded) (t : Nat) (s : State) (hm : s.mem.Ok) : Result'.MemOk (execForwardedChange gen x t s) := by
  unfold execForwardedChange; simp [hm]

theorem execConfigRefreshDone_memOk (gen : Word) (s : State) (hm : s.mem.Ok) : Result'.MemOk (execConfigRefreshDone gen s) := by
  unfold execConfigRefreshDone; simp [hm]

theorem execRefreshRequest_memOk (s : State) (hm : s.mem.Ok) : Result'.MemOk (execRefreshRequest s) := by
  unfold execRefreshRequest; simp [hm]

theorem execSwapNotice_memOk (e : Nat) (s : State) (hm : s.mem.Ok) : Result'.MemOk (execSwapNotice e s) := by
  unfold execSwapNotice; simp [hm]

theorem execSwapAck_memOk (e : Nat) (s : State) (hm : s.mem.Ok) : Result'.MemOk (execSwapAck e s) := by
  unfold execSwapAck; dsimp only; (repeat' split) <;> simp [hm]

theorem execSwapDue_memOk (s : State) (hm : s.mem.Ok) : Result'.MemOk (execSwapDue s) := by
  unfold execSwapDue; simp [hm]

theorem execMirroredEvent_memOk (m : Fin 4) (n : Fin 128) (a16 : BitVec 16) (a32 : Word) (time : Nat) (s : State) (hm : s.mem.Ok) : Result'.MemOk (execMirroredEvent m n a16 a32 time s) := by
  unfold execMirroredEvent; simp [hm]

theorem execMemberHealth_memOk (m : Fin 4) (ok : BitVec 5) (cycle : Nat) (t : Nat) (s : State) (hm : s.mem.Ok) : Result'.MemOk (execMemberHealth m ok cycle t s) := by
  unfold execMemberHealth; simp [hm]

theorem execLeaseGrant_memOk (g : Grant) (t : Nat) (s : State) (hm : s.mem.Ok) : Result'.MemOk (execLeaseGrant g t s) := by
  unfold execLeaseGrant; simp [hm]

theorem execBridgeResponse_memOk (m : Fin 4) (tag : Byte) (opcode : BitVec 16) (status : Byte) (p : List Word) (s : State) (hm : s.mem.Ok) : Result'.MemOk (execBridgeResponse m tag opcode status p s) := by
  unfold execBridgeResponse; dsimp only; (repeat' split) <;> simp [hm]

theorem execForwardedCommand_memOk (h : Hdr) (opcode : BitVec 16) (p : List Word) (s : State) (hm : s.mem.Ok) :
    Result'.MemOk (execForwardedCommand h opcode p s) := by
  unfold execForwardedCommand
  rw [Result'.memOk_next]
  dsimp only
  split
  · exact hm
  · split
    · simp [hm]
    · split
      · simp [hm]
      · split
        · rename_i c e; exact Rams.Ok.of_eq hm (HostCmd.bridged_mem (cmdOf_keeps e) h p s)
        · simp [hm]

theorem execMemberEvent_memOk (m : Fin 4) (n : Fin 128) (a16 : BitVec 16) (a32 : Word) (time : Nat) (s : State) (hm : s.mem.Ok) : Result'.MemOk (execMemberEvent m n a16 a32 time s) := by
  unfold execMemberEvent; simp [hm]

theorem execMemberLost_memOk (m : Fin 4) (s : State) (hm : s.mem.Ok) : Result'.MemOk (execMemberLost m s) := by
  unfold execMemberLost; simp [hm]

theorem execMemberJoined_memOk (m : Fin 4) (id : PairId) (dup : Bool) (s : State) (hm : s.mem.Ok) : Result'.MemOk (execMemberJoined m id dup s) := by
  unfold execMemberJoined; simp [hm]

theorem execBridgeChange_memOk (otherWay : Bool) (s : State) (hm : s.mem.Ok) : Result'.MemOk (execBridgeChange otherWay s) := by
  unfold execBridgeChange; simp [hm]

theorem execCycleBoundary_memOk (b : BoundaryIn) (s : State) (h : s.mem.Ok) : Result'.MemOk (execCycleBoundary b s) := by
  intro t e
  unfold execCycleBoundary at e
  cases e
  split
  · exact State.crossBoundary_memOk _ _ h
  · exact h

theorem execCyclePoint_memOk (k : Fin 8) (s : State) (hm : s.mem.Ok) : Result'.MemOk (execCyclePoint k s) := by
  unfold execCyclePoint; simp [hm]

theorem execServiceFrameLaunch_memOk (c : Fin 2) (s : State) (hm : s.mem.Ok) : Result'.MemOk (execServiceFrameLaunch c s) := by
  unfold execServiceFrameLaunch; dsimp only; (repeat' split) <;> simp [hm]

theorem execOpenFrameLaunch_memOk (c : Fin 2) (s : State) (hm : s.mem.Ok) : Result'.MemOk (execOpenFrameLaunch c s) := by
  unfold execOpenFrameLaunch; dsimp only; (repeat' split) <;> simp [hm]

theorem execAcyclicFill_memOk (c : Fin 2) (open_ : Bool) (s : State) (hm : s.mem.Ok) : Result'.MemOk (execAcyclicFill c open_ s) := by
  unfold execAcyclicFill; dsimp only; (repeat' split) <;> simp [hm]

theorem execBeaconLaunch_memOk (c : Fin 2) (s : State) (hm : s.mem.Ok) : Result'.MemOk (execBeaconLaunch c s) := by
  unfold execBeaconLaunch; dsimp only; (repeat' split) <;> simp [hm]

theorem execDiscoveryLaunch_memOk (c : Fin 2) (s : State) (hm : s.mem.Ok) : Result'.MemOk (execDiscoveryLaunch c s) := by
  unfold execDiscoveryLaunch; (repeat' split) <;> simp [hm]

theorem execEnvKeyWrite_memOk (v : Word) (we : Bool) (s : State) (hm : s.mem.Ok) : Result'.MemOk (execEnvKeyWrite v we s) := by
  unfold execEnvKeyWrite; simp [hm]

theorem execEnvDataWrite_memOk (v : Word) (we : Bool) (s : State) (hm : s.mem.Ok) : Result'.MemOk (execEnvDataWrite v we s) := by
  unfold execEnvDataWrite; simp [hm]

theorem execEnvKeyTimeout_memOk (s : State) (hm : s.mem.Ok) : Result'.MemOk (execEnvKeyTimeout s) := by
  unfold execEnvKeyTimeout; dsimp only; (repeat' split) <;> simp [hm]

theorem execEnvLockoutEnd_memOk (s : State) (hm : s.mem.Ok) : Result'.MemOk (execEnvLockoutEnd s) := by
  unfold execEnvLockoutEnd; dsimp only; (repeat' split) <;> simp [hm]

theorem execEnvPathTimeout_memOk (s : State) (hm : s.mem.Ok) : Result'.MemOk (execEnvPathTimeout s) := by
  unfold execEnvPathTimeout; (repeat' split) <;> simp [hm]

theorem execEnvWeFall_memOk (s : State) (hm : s.mem.Ok) : Result'.MemOk (execEnvWeFall s) := by
  unfold execEnvWeFall; simp [hm]

theorem execEnvSealUpdateDone_memOk (s : State) (hm : s.mem.Ok) : Result'.MemOk (execEnvSealUpdateDone s) := by
  unfold execEnvSealUpdateDone; simp [hm]

theorem execSealCheck_memOk (s : State) (hm : s.mem.Ok) : Result'.MemOk (execSealCheck s) := by
  unfold execSealCheck; simp [hm]

theorem execCmdqTailWrite_memOk (v : Word) (s : State) (hm : s.mem.Ok) : Result'.MemOk (execCmdqTailWrite v s) := by
  unfold execCmdqTailWrite; simp [hm]

theorem execRspqHeadWrite_memOk (v : Word) (s : State) (hm : s.mem.Ok) : Result'.MemOk (execRspqHeadWrite v s) := by
  unfold execRspqHeadWrite; simp [hm]

theorem execEvtqHeadWrite_memOk (v : Word) (s : State) (hm : s.mem.Ok) : Result'.MemOk (execEvtqHeadWrite v s) := by
  unfold execEvtqHeadWrite; simp [hm]

theorem execIrqPendWrite_memOk (k : Fin 4) (v : Word) (s : State) (hm : s.mem.Ok) : Result'.MemOk (execIrqPendWrite k v s) := by
  unfold execIrqPendWrite; simp [hm]

theorem execIrqMaskWrite_memOk (k : Fin 4) (v : Word) (s : State) (hm : s.mem.Ok) : Result'.MemOk (execIrqMaskWrite k v s) := by
  unfold execIrqMaskWrite; simp [hm]

theorem execIrqRouteWrite_memOk (w : Fin 32) (v : Word) (s : State) (hm : s.mem.Ok) : Result'.MemOk (execIrqRouteWrite w v s) := by
  unfold execIrqRouteWrite; simp [hm]

theorem execRegisterWrite_memOk (off : BitVec 16) (v : HostWord) (s : State) (hm : s.mem.Ok) : Result'.MemOk (execRegisterWrite off v s) := by
  unfold execRegisterWrite; simp [hm]

theorem execQspiWrite_memOk (ins : QspiIns) (addr : BitVec 24) (data : List Byte) (s : State) (h : s.mem.Ok) :
    Result'.MemOk (execQspiWrite ins addr data s) := by
  intro t e
  unfold execQspiWrite at e
  split at e <;> cases e
  · exact h
  · exact State.serve_memOk (State.qspiPut_memOk _ _ _ (h.of_eq (by simp)))

theorem execQspiRead_memOk (ins : QspiIns) (addr : BitVec 24) (n : Nat) (s : State) (hm : s.mem.Ok) : Result'.MemOk (execQspiRead ins addr n s) := by
  unfold execQspiRead; (repeat' split) <;> simp [hm]

theorem execPcieMemoryAccess_memOk (a : MemAccess) (s : State) (hm : s.mem.Ok) : Result'.MemOk (execPcieMemoryAccess a s) := by
  unfold execPcieMemoryAccess; (repeat' split) <;> simp [hm]

theorem execPerstAssert_memOk (s : State) (hm : s.mem.Ok) : Result'.MemOk (execPerstAssert s) := by
  unfold execPerstAssert; simp [hm]

theorem execPerstRelease_memOk (s : State) (hm : s.mem.Ok) : Result'.MemOk (execPerstRelease s) := by
  unfold execPerstRelease; simp [hm]

theorem execHostLink_memOk (gen : BitVec 2) (x2 : Bool) (s : State) (hm : s.mem.Ok) : Result'.MemOk (execHostLink gen x2 s) := by
  unfold execHostLink; (repeat' split) <;> simp [hm]

theorem execMsixPendingSend_memOk (v : Fin 32) (enabled : Bool) (s : State) (hm : s.mem.Ok) : Result'.MemOk (execMsixPendingSend v enabled s) := by
  unfold execMsixPendingSend; dsimp only; (repeat' split) <;> simp [hm]

theorem execEventLost_memOk (s : State) (hm : s.mem.Ok) : Result'.MemOk (execEventLost s) := by
  unfold execEventLost; simp [hm]

theorem execPorstLow_memOk (s : State) (hm : s.mem.Ok) : Result'.MemOk (execPorstLow s) := by
  unfold execPorstLow; simp [hm]

theorem execResetEnd_memOk (x : StrapLevels) (s : State) (hm : s.mem.Ok) : Result'.MemOk (execResetEnd x s) := by
  unfold execResetEnd; simp [hm]

theorem execSysResetExpiry_memOk (s : State) (hm : s.mem.Ok) : Result'.MemOk (execSysResetExpiry s) := by
  unfold execSysResetExpiry; (repeat' split) <;> simp [hm]

theorem execHardwareWatchdog_memOk (s : State) (hm : s.mem.Ok) : Result'.MemOk (execHardwareWatchdog s) := by
  unfold execHardwareWatchdog; simp [hm]

theorem execRailPowerFail_memOk (vbat : Bool) (s : State) (hm : s.mem.Ok) : Result'.MemOk (execRailPowerFail vbat s) := by
  unfold execRailPowerFail; dsimp only; (repeat' split) <;> simp [hm]

theorem execRailsInRange_memOk (s : State) (hm : s.mem.Ok) : Result'.MemOk (execRailsInRange s) := by
  unfold execRailsInRange; simp [hm]

theorem execBbrSupplyChangeover_memOk (toVbat : Bool) (s : State) (hm : s.mem.Ok) : Result'.MemOk (execBbrSupplyChangeover toVbat s) := by
  unfold execBbrSupplyChangeover; simp [hm]

theorem execVbatPowerOnClear_memOk (s : State) (hm : s.mem.Ok) : Result'.MemOk (execVbatPowerOnClear s) := by
  unfold execVbatPowerOnClear; simp [hm]

theorem execBankWake_memOk (s : State) (hm : s.mem.Ok) : Result'.MemOk (execBankWake s) := by
  unfold execBankWake; simp [hm]

theorem execMemoryClearDone_memOk (s : State) (hm : s.mem.Ok) : Result'.MemOk (execMemoryClearDone s) := by
  unfold execMemoryClearDone; dsimp only; (repeat' split) <;> simp [hm]

theorem execImageVerified_memOk (h : ImageHeader) (s : State) (hm : s.mem.Ok) : Result'.MemOk (execImageVerified h s) := by
  unfold execImageVerified; dsimp only; (repeat' split) <;> simp [hm]

theorem execSelfTestDone_memOk (f : SelfTest) (s : State) (hm : s.mem.Ok) : Result'.MemOk (execSelfTestDone f s) := by
  unfold execSelfTestDone; dsimp only; (repeat' split) <;> simp [hm]

theorem execBootDone_memOk (s : State) (hm : s.mem.Ok) : Result'.MemOk (execBootDone s) := by
  unfold execBootDone; dsimp only; (repeat' split) <;> simp [hm]

theorem execExtestEntry_memOk (s : State) (hm : s.mem.Ok) : Result'.MemOk (execExtestEntry s) := by
  unfold execExtestEntry; simp [hm]

theorem execExtestExit_memOk (s : State) (hm : s.mem.Ok) : Result'.MemOk (execExtestExit s) := by
  unfold execExtestExit; simp [hm]

theorem execSupervisorHeartbeat_memOk (s : State) (hm : s.mem.Ok) : Result'.MemOk (execSupervisorHeartbeat s) := by
  unfold execSupervisorHeartbeat; simp [hm]

theorem execOscFault_memOk (lost : Bool) (ppm : Int) (s : State) (hm : s.mem.Ok) : Result'.MemOk (execOscFault lost ppm s) := by
  unfold execOscFault; dsimp only; (repeat' split) <;> simp [hm]

theorem execSupplyDetector_memOk (rail : Fin 6) (mv : Nat) (s : State) (hm : s.mem.Ok) : Result'.MemOk (execSupplyDetector rail mv s) := by
  unfold execSupplyDetector; dsimp only; (repeat' split) <;> simp [hm]

theorem execTempDetector_memOk (tj : Int) (s : State) (hm : s.mem.Ok) : Result'.MemOk (execTempDetector tj s) := by
  unfold execTempDetector; dsimp only; (repeat' split) <;> simp [hm]

theorem execVbatLow_memOk (mv : Nat) (s : State) (hm : s.mem.Ok) : Result'.MemOk (execVbatLow mv s) := by
  unfold execVbatLow; simp [hm]

theorem execMemEccError_memOk (area : Fin 5) (uncorrectable : Bool) (off : Nat) (s : State) (hm : s.mem.Ok) : Result'.MemOk (execMemEccError area uncorrectable off s) := by
  unfold execMemEccError; dsimp only; (repeat' split) <;> simp [hm]

theorem execScrubPass_memOk (areas : List (Fin 5)) (s : State) (hm : s.mem.Ok) : Result'.MemOk (execScrubPass areas s) := by
  unfold execScrubPass; simp [hm]

theorem execFlashOperationDone_memOk (r : FlashResult) (s : State) (hm : s.mem.Ok) : Result'.MemOk (execFlashOperationDone r s) := by
  unfold execFlashOperationDone; dsimp only; (repeat' split) <;> simp [hm]

theorem execCoreTestDone_memOk (x : Fin 16) (passed : Bool) (s : State) (hm : s.mem.Ok) : Result'.MemOk (execCoreTestDone x passed s) := by
  unfold execCoreTestDone; dsimp only; (repeat' split) <;> simp [hm]

theorem execModeSetTimeout_memOk (s : State) (hm : s.mem.Ok) : Result'.MemOk (execModeSetTimeout s) := by
  unfold execModeSetTimeout; dsimp only; (repeat' split) <;> simp [hm]

theorem execSafeCycleStart_memOk (rc : Nat) (s : State) (hm : s.mem.Ok) : Result'.MemOk (execSafeCycleStart rc s) := by
  unfold execSafeCycleStart; dsimp only; (repeat' split) <;> simp [hm]

theorem execSafeEvaluation_memOk (v : SafeExchange) (s : State) (hm : s.mem.Ok) : Result'.MemOk (execSafeEvaluation v s) := by
  unfold execSafeEvaluation; (repeat' split) <;> simp [hm]

theorem execSafeExchangeTimeout_memOk (s : State) (hm : s.mem.Ok) : Result'.MemOk (execSafeExchangeTimeout s) := by
  unfold execSafeExchangeTimeout; dsimp only; (repeat' split) <;> simp [hm]

theorem execSafeInputSample_memOk (a : Byte) (b : Byte) (s : State) (hm : s.mem.Ok) : Result'.MemOk (execSafeInputSample a b s) := by
  unfold execSafeInputSample; dsimp only; (repeat' split) <;> simp [hm]

theorem execSiDiscrepancy_memOk (m : Fin 8) (s : State) (hm : s.mem.Ok) : Result'.MemOk (execSiDiscrepancy m s) := by
  unfold execSiDiscrepancy; dsimp only; (repeat' split) <;> simp [hm]

theorem execRestartSample_memOk (r : RestartLevels) (s : State) (hm : s.mem.Ok) : Result'.MemOk (execRestartSample r s) := by
  unfold execRestartSample; dsimp only; (repeat' split) <;> simp [hm]

theorem execRestartStuck_memOk (s : State) (hm : s.mem.Ok) : Result'.MemOk (execRestartStuck s) := by
  unfold execRestartStuck; dsimp only; (repeat' split) <;> simp [hm]

theorem execOffPulseTest_memOk (pair : Fin 4) (sideB : Bool) (r : Readback) (s : State) (hm : s.mem.Ok) : Result'.MemOk (execOffPulseTest pair sideB r s) := by
  unfold execOffPulseTest; simp [hm]

theorem execOutTestFail_memOk (pair : Fin 4) (sideB : Bool) (_stuck : Bool) (s : State) (hm : s.mem.Ok) : Result'.MemOk (execOutTestFail pair sideB _stuck s) := by
  unfold execOutTestFail; simp [hm]

theorem execDispatch_memOk (x : Executor) (s : State) (hm : s.mem.Ok) : Result'.MemOk (execDispatch x s) := by
  unfold execDispatch; simp [hm]

theorem execSpillReturn_memOk (level : Fin 8) (s : State) (hm : s.mem.Ok) : Result'.MemOk (execSpillReturn level s) := by
  unfold execSpillReturn; simp [hm]

theorem execItemComplete_memOk (x : Executor) (occ : Nat) (residueOk : Bool) (t : Nat) (s : State) (h : s.mem.Ok) :
    Result'.MemOk (execItemComplete x occ residueOk t s) := by
  intro t e
  unfold execItemComplete at e
  dsimp only at e
  cases e
  split
  · exact State.complete_memOk _ _ _ _ _ _ (h.of_eq (by simp))
  · exact h.of_eq (by simp)

@[simp] theorem State.releaseFlow_memOk (s : State) (f : Nat) (h : s.mem.Ok) : (s.releaseFlow f).mem.Ok := by
  unfold State.releaseFlow
  (repeat' split) <;> first | exact h | exact State.chunkDone_memOk _ _ (h.of_eq (by simp; done)) | exact h.of_eq (by simp; done)

theorem execRelease_memOk (flow : Fin 64) (t : Nat) (s : State) (hm : s.mem.Ok) : Result'.MemOk (execRelease flow t s) := by
  unfold execRelease; simp [hm]

theorem execItemDeadline_memOk (s : State) (hm : s.mem.Ok) : Result'.MemOk (execItemDeadline s) := by
  unfold execItemDeadline; (repeat' split) <;> simp [hm]

theorem execDispatchAckTimeout_memOk (x : Fin 16) (s : State) (hm : s.mem.Ok) : Result'.MemOk (execDispatchAckTimeout x s) := by
  unfold execDispatchAckTimeout; (repeat' split) <;> simp [hm]

theorem execOccupancyLimit_memOk (x : Fin 16) (s : State) (hm : s.mem.Ok) : Result'.MemOk (execOccupancyLimit x s) := by
  unfold execOccupancyLimit; (repeat' split) <;> simp [hm]

theorem execArbiterGrant_memOk (r : Fin 4) (s : State) (hm : s.mem.Ok) : Result'.MemOk (execArbiterGrant r s) := by
  unfold execArbiterGrant; simp [hm]

theorem execArbCutoff_memOk (r : Fin 4) (s : State) (hm : s.mem.Ok) : Result'.MemOk (execArbCutoff r s) := by
  unfold execArbCutoff; dsimp only; (repeat' split) <;> simp [hm]

theorem execTraceRecordWrite_memOk (s : State) (h : s.mem.Ok) : Result'.MemOk (execTraceRecordWrite s) := by
  intro t e
  cases e
  exact State.traceWrite_memOk _ h

theorem execFaultLogWrite_memOk (s : State) (hm : s.mem.Ok) : Result'.MemOk (execFaultLogWrite s) := by
  unfold execFaultLogWrite; dsimp only; (repeat' split) <;> simp [hm]

end Sys2Proof.Machine
end

