-- ==== Sys2Proof/Laws/Frames.lean ====
section
/-!
SUPPORT. What the operations that report to the outside can change, said once: raising an event, writing a response and forwarding a
change touch the queues, the interrupts, the trace's event word and what is sent to the twin and the cluster, and nothing else.
-/
namespace Sys2Proof.Machine

/-- Setting a pending bit changes the interrupts only. -/
theorem State.signal_frame (s : State) (e : Nat) : ∃ q : Irq, s.signal e = { s with irq := q } := ⟨_, rfl⟩

/-- The EVENT_LOST entry changes the host port and the interrupts only. -/
theorem State.flushLost_frame (s : State) : ∃ (h : HostPort) (q : Irq), s.flushLost = { s with host := h, irq := q } := by
  unfold State.flushLost
  split
  · exact ⟨s.host, s.irq, rfl⟩
  · exact ⟨_, _, rfl⟩

/-- An event entry changes the host port and the interrupts only. -/
theorem State.post_frame (s : State) (n : Nat) (w : List Word) : ∃ (h : HostPort) (q : Irq), s.post n w = { s with host := h, irq := q } := by
  obtain ⟨h, q, e⟩ := s.flushLost_frame
  unfold State.post
  rw [e]
  exact ⟨_, _, rfl⟩

/-- Raising an event changes the host port, the interrupts, the trace's event word and what goes to the twin or the lead. -/
theorem State.raise_frame (s : State) (n a b : Nat) : ∃ (h : HostPort) (q : Irq) (t : Trace) (l : TwinLink) (c : Cluster),
    s.raise n a b = { s with host := h, irq := q, trace := t, link := l, clu := c } := by
  unfold State.raise
  split
  · exact ⟨s.host, s.irq, s.trace, s.link, s.clu, rfl⟩
  · dsimp only
    split
    · exact ⟨s.host, s.irq, _, s.link, _, rfl⟩
    · split
      · obtain ⟨h, q, e⟩ := State.post_frame { { s with trace := { s.trace with events := putBit s.trace.events n true } } with
            link := { s.link with mirrored := s.link.mirrored ++ [eventWords n true s.straps.cid a b s.now] } } n (eventWords n false s.straps.cid a b s.now)
        exact ⟨h, q, _, _, s.clu, e⟩
      · obtain ⟨h, q, e⟩ := State.post_frame { s with trace := { s.trace with events := putBit s.trace.events n true } } n
            (eventWords n false s.straps.cid a b s.now)
        exact ⟨h, q, _, s.link, s.clu, e⟩

/-- Writing a response changes the host port, the interrupts and what goes over the bridge. -/
theorem State.respond_frame (s : State) (r : MsgRef) (st : Nat) (p : List Word) : ∃ (h : HostPort) (q : Irq) (c : Cluster),
    s.respond r st p = { s with host := h, irq := q, clu := c } := by
  unfold State.respond State.respondAs
  dsimp only
  split
  · exact ⟨s.host, s.irq, _, rfl⟩
  · split
    · exact ⟨_, s.irq, s.clu, rfl⟩
    · exact ⟨_, _, s.clu, rfl⟩

/-- Forwarding a change touches what goes over the sync link only. -/
theorem State.forward_frame (s : State) (op : Nat) (p : List Word) (e : Nat) : ∃ l : TwinLink, s.forward op p e = { s with link := l } := by
  unfold State.forward
  split
  · exact ⟨_, rfl⟩
  · exact ⟨s.link, rfl⟩

/-- Marking an axis changed touches what goes over the sync link only. -/
theorem State.markChanged_frame (s : State) (i : Nat) : ∃ l : TwinLink, s.markChanged i = { s with link := l } := by
  unfold State.markChanged
  split
  · exact ⟨s.link, rfl⟩
  · exact ⟨_, rfl⟩

/-- Raising several events changes what raising one changes. -/
theorem State.raiseAll_frame (l : List EvReq) : ∀ s : State, ∃ (h : HostPort) (q : Irq) (t : Trace) (k : TwinLink) (c : Cluster),
    s.raiseAll l = { s with host := h, irq := q, trace := t, link := k, clu := c } := by
  induction l with
  | nil => exact fun s => ⟨s.host, s.irq, s.trace, s.link, s.clu, rfl⟩
  | cons x l ih =>
    obtain ⟨n, a, b⟩ := x
    intro s
    obtain ⟨h, q, t, k, c, e⟩ := s.raise_frame n a b
    obtain ⟨h', q', t', k', c', e'⟩ := ih (s.raise n a b)
    exact ⟨h', q', t', k', c', by unfold State.raiseAll; rw [e', e]⟩

@[simp] theorem State.raise_can (s : State) (n a b : Nat) : (s.raise n a b).can = s.can := by
  obtain ⟨h, q, t, l, c, e⟩ := s.raise_frame n a b; rw [e]
@[simp] theorem State.raise_axes (s : State) (n a b : Nat) : (s.raise n a b).axes = s.axes := by
  obtain ⟨h, q, t, l, c, e⟩ := s.raise_frame n a b; rw [e]
@[simp] theorem State.raise_clk (s : State) (n a b : Nat) : (s.raise n a b).clk = s.clk := by
  obtain ⟨h, q, t, l, c, e⟩ := s.raise_frame n a b; rw [e]
@[simp] theorem State.raise_md (s : State) (n a b : Nat) : (s.raise n a b).md = s.md := by
  obtain ⟨h, q, t, l, c, e⟩ := s.raise_frame n a b; rw [e]
@[simp] theorem State.raise_faults (s : State) (n a b : Nat) : (s.raise n a b).faults = s.faults := by
  obtain ⟨h, q, t, l, c, e⟩ := s.raise_frame n a b; rw [e]
@[simp] theorem State.raise_safe (s : State) (n a b : Nat) : (s.raise n a b).safe = s.safe := by
  obtain ⟨h, q, t, l, c, e⟩ := s.raise_frame n a b; rw [e]
@[simp] theorem State.raise_twin (s : State) (n a b : Nat) : (s.raise n a b).twin = s.twin := by
  obtain ⟨h, q, t, l, c, e⟩ := s.raise_frame n a b; rw [e]
@[simp] theorem State.raise_power (s : State) (n a b : Nat) : (s.raise n a b).power = s.power := by
  obtain ⟨h, q, t, l, c, e⟩ := s.raise_frame n a b; rw [e]
@[simp] theorem State.raise_pins (s : State) (n a b : Nat) : (s.raise n a b).pins = s.pins := by
  obtain ⟨h, q, t, l, c, e⟩ := s.raise_frame n a b; rw [e]
@[simp] theorem State.raise_sched (s : State) (n a b : Nat) : (s.raise n a b).sched = s.sched := by
  obtain ⟨h, q, t, l, c, e⟩ := s.raise_frame n a b; rw [e]
@[simp] theorem State.raise_chains (s : State) (n a b : Nat) : (s.raise n a b).ch0 = s.ch0 ∧ (s.raise n a b).ch1 = s.ch1 := by
  obtain ⟨h, q, t, l, c, e⟩ := s.raise_frame n a b; rw [e]; exact ⟨rfl, rfl⟩

end Sys2Proof.Machine
end

