-- ==== Sys2Proof/Laws/Keeps.lean ====
section
/-!
SUPPORT. Which commands leave the addressed memories as they stand: one lemma per command of the table but the seven that may write
them.
-/
namespace Sys2Proof.Machine

/-- A meaning's next state has the addressed memories of s. -/
def Result'.Keeps (s : State) (r : Result') : Prop := ∀ t, r = .next t → t.mem = s.mem
@[simp] theorem Result'.keeps_next (s t : State) : Result'.Keeps s (.next t) ↔ t.mem = s.mem :=
  ⟨fun h => h t rfl, fun h u e => by cases e; exact h⟩
theorem Result'.Keeps.host {c : HostCmd} {h : Hdr} {p : List Word} {s : State} (hc : c.KeepsMem) :
    Result'.Keeps s (.next (hostCommand c h p s)) := by
  intro t e
  cases e
  exact hostCommand_mem hc h p s

theorem execAxisEnable_keeps (h : Hdr) (p : List Word) (s : State) : Result'.Keeps s (execAxisEnable h p s) := by
  exact Result'.Keeps.host axisEnableCmd_keeps

theorem execAxisDisable_keeps (h : Hdr) (p : List Word) (s : State) : Result'.Keeps s (execAxisDisable h p s) := by
  exact Result'.Keeps.host axisDisableCmd_keeps

theorem execAxisStatusRead_keeps (h : Hdr) (p : List Word) (s : State) : Result'.Keeps s (execAxisStatusRead h p s) := by
  exact Result'.Keeps.host axisStatusReadCmd_keeps

theorem execAxisPrfCfgWrite_keeps (h : Hdr) (p : List Word) (s : State) : Result'.Keeps s (execAxisPrfCfgWrite h p s) := by
  exact Result'.Keeps.host axisPrfCfgWriteCmd_keeps

theorem execAxisPrfCfgRead_keeps (h : Hdr) (p : List Word) (s : State) : Result'.Keeps s (execAxisPrfCfgRead h p s) := by
  exact Result'.Keeps.host axisPrfCfgReadCmd_keeps

theorem execAxisMissWindow_keeps (h : Hdr) (p : List Word) (s : State) : Result'.Keeps s (execAxisMissWindow h p s) := by
  exact Result'.Keeps.host axisMissWindowCmd_keeps

theorem execAxisStreamInfo_keeps (h : Hdr) (p : List Word) (s : State) : Result'.Keeps s (execAxisStreamInfo h p s) := by
  exact Result'.Keeps.host axisStreamInfoCmd_keeps

theorem execAxisAuxWrite_keeps (h : Hdr) (p : List Word) (s : State) : Result'.Keeps s (execAxisAuxWrite h p s) := by
  exact Result'.Keeps.host axisAuxWriteCmd_keeps

theorem execCanCfgWrite_keeps (h : Hdr) (p : List Word) (s : State) : Result'.Keeps s (execCanCfgWrite h p s) := by
  exact Result'.Keeps.host canCfgWriteCmd_keeps

theorem execCanFilterWrite_keeps (h : Hdr) (p : List Word) (s : State) : Result'.Keeps s (execCanFilterWrite h p s) := by
  exact Result'.Keeps.host canFilterWriteCmd_keeps

theorem execCanSchedWrite_keeps (h : Hdr) (p : List Word) (s : State) : Result'.Keeps s (execCanSchedWrite h p s) := by
  exact Result'.Keeps.host canSchedWriteCmd_keeps

theorem execCanSafeWrite_keeps (h : Hdr) (p : List Word) (s : State) : Result'.Keeps s (execCanSafeWrite h p s) := by
  exact Result'.Keeps.host canSafeWriteCmd_keeps

theorem execCanAbort_keeps (h : Hdr) (p : List Word) (s : State) : Result'.Keeps s (execCanAbort h p s) := by
  exact Result'.Keeps.host canAbortCmd_keeps

theorem execCanRecover_keeps (h : Hdr) (p : List Word) (s : State) : Result'.Keeps s (execCanRecover h p s) := by
  exact Result'.Keeps.host canRecoverCmd_keeps

theorem execCanInfo_keeps (h : Hdr) (p : List Word) (s : State) : Result'.Keeps s (execCanInfo h p s) := by
  exact Result'.Keeps.host canInfoCmd_keeps

theorem execCanRead_keeps (h : Hdr) (p : List Word) (s : State) : Result'.Keeps s (execCanRead h p s) := by
  exact Result'.Keeps.host canReadCmd_keeps

theorem execDiagCanCounters_keeps (h : Hdr) (p : List Word) (s : State) : Result'.Keeps s (execDiagCanCounters h p s) := by
  exact Result'.Keeps.host diagCanCountersCmd_keeps

theorem execChainCfgWrite_keeps (h : Hdr) (p : List Word) (s : State) : Result'.Keeps s (execChainCfgWrite h p s) := by
  exact Result'.Keeps.host chainCfgWriteCmd_keeps

theorem execChainCfgRead_keeps (h : Hdr) (p : List Word) (s : State) : Result'.Keeps s (execChainCfgRead h p s) := by
  exact Result'.Keeps.host chainCfgReadCmd_keeps

theorem execChainSupvWrite_keeps (h : Hdr) (p : List Word) (s : State) : Result'.Keeps s (execChainSupvWrite h p s) := by
  exact Result'.Keeps.host chainSupvWriteCmd_keeps

theorem execChainGuardWrite_keeps (h : Hdr) (p : List Word) (s : State) : Result'.Keeps s (execChainGuardWrite h p s) := by
  exact Result'.Keeps.host chainGuardWriteCmd_keeps

theorem execChainMissAtWrite_keeps (h : Hdr) (p : List Word) (s : State) : Result'.Keeps s (execChainMissAtWrite h p s) := by
  exact Result'.Keeps.host chainMissAtWriteCmd_keeps

theorem execChainSupvRead_keeps (h : Hdr) (p : List Word) (s : State) : Result'.Keeps s (execChainSupvRead h p s) := by
  exact Result'.Keeps.host chainSupvReadCmd_keeps

theorem execChainNodeRead_keeps (h : Hdr) (p : List Word) (s : State) : Result'.Keeps s (execChainNodeRead h p s) := by
  exact Result'.Keeps.host chainNodeReadCmd_keeps

theorem execChainNodeWrite_keeps (h : Hdr) (p : List Word) (s : State) : Result'.Keeps s (execChainNodeWrite h p s) := by
  exact Result'.Keeps.host chainNodeWriteCmd_keeps

theorem execChainDescRead_keeps (h : Hdr) (p : List Word) (s : State) : Result'.Keeps s (execChainDescRead h p s) := by
  exact Result'.Keeps.host chainDescReadCmd_keeps

theorem execChainCensusRead_keeps (h : Hdr) (p : List Word) (s : State) : Result'.Keeps s (execChainCensusRead h p s) := by
  exact Result'.Keeps.host chainCensusReadCmd_keeps

theorem execChainDelayRead_keeps (h : Hdr) (p : List Word) (s : State) : Result'.Keeps s (execChainDelayRead h p s) := by
  exact Result'.Keeps.host chainDelayReadCmd_keeps

theorem execDiagChainCounters_keeps (h : Hdr) (p : List Word) (s : State) : Result'.Keeps s (execDiagChainCounters h p s) := by
  exact Result'.Keeps.host diagChainCountersCmd_keeps

theorem execTimeRead_keeps (h : Hdr) (p : List Word) (s : State) : Result'.Keeps s (execTimeRead h p s) := by
  exact Result'.Keeps.host timeReadCmd_keeps

theorem execTimeStage_keeps (h : Hdr) (p : List Word) (s : State) : Result'.Keeps s (execTimeStage h p s) := by
  exact Result'.Keeps.host timeStageCmd_keeps

theorem execTimeRate_keeps (h : Hdr) (p : List Word) (s : State) : Result'.Keeps s (execTimeRate h p s) := by
  exact Result'.Keeps.host timeRateCmd_keeps

theorem execTimeCpWrite_keeps (h : Hdr) (p : List Word) (s : State) : Result'.Keeps s (execTimeCpWrite h p s) := by
  exact Result'.Keeps.host timeCpWriteCmd_keeps

theorem execTimeCapCfg_keeps (h : Hdr) (p : List Word) (s : State) : Result'.Keeps s (execTimeCapCfg h p s) := by
  exact Result'.Keeps.host timeCapCfgCmd_keeps

theorem execTimeCapRead_keeps (h : Hdr) (p : List Word) (s : State) : Result'.Keeps s (execTimeCapRead h p s) := by
  exact Result'.Keeps.host timeCapReadCmd_keeps

theorem execDiagActRead_keeps (h : Hdr) (p : List Word) (s : State) : Result'.Keeps s (execDiagActRead h p s) := by
  exact Result'.Keeps.host diagActReadCmd_keeps

theorem execDiagHeadroomRead_keeps (h : Hdr) (p : List Word) (s : State) : Result'.Keeps s (execDiagHeadroomRead h p s) := by
  exact Result'.Keeps.host diagHeadroomReadCmd_keeps

theorem execDiagSchedRead_keeps (h : Hdr) (p : List Word) (s : State) : Result'.Keeps s (execDiagSchedRead h p s) := by
  exact Result'.Keeps.host diagSchedReadCmd_keeps

theorem execDiagQueueSnapshot_keeps (h : Hdr) (p : List Word) (s : State) : Result'.Keeps s (execDiagQueueSnapshot h p s) := by
  exact Result'.Keeps.host diagQueueSnapshotCmd_keeps

theorem execDiagLoopCounters_keeps (h : Hdr) (p : List Word) (s : State) : Result'.Keeps s (execDiagLoopCounters h p s) := by
  exact Result'.Keeps.host diagLoopCountersCmd_keeps

theorem execDiagCoreTest_keeps (h : Hdr) (p : List Word) (s : State) : Result'.Keeps s (execDiagCoreTest h p s) := by
  exact Result'.Keeps.host diagCoreTestCmd_keeps

theorem execDiagMemStatus_keeps (h : Hdr) (p : List Word) (s : State) : Result'.Keeps s (execDiagMemStatus h p s) := by
  exact Result'.Keeps.host diagMemStatusCmd_keeps

theorem execMoveStart_keeps (h : Hdr) (p : List Word) (s : State) : Result'.Keeps s (execMoveStart h p s) := by
  exact Result'.Keeps.host moveStartCmd_keeps

theorem execMoveQuickStop_keeps (h : Hdr) (p : List Word) (s : State) : Result'.Keeps s (execMoveQuickStop h p s) := by
  exact Result'.Keeps.host moveQuickStopCmd_keeps

theorem execMoveHold_keeps (h : Hdr) (p : List Word) (s : State) : Result'.Keeps s (execMoveHold h p s) := by
  exact Result'.Keeps.host moveHoldCmd_keeps

theorem execMoveResume_keeps (h : Hdr) (p : List Word) (s : State) : Result'.Keeps s (execMoveResume h p s) := by
  exact Result'.Keeps.host moveResumeCmd_keeps

theorem execMoveAbort_keeps (h : Hdr) (p : List Word) (s : State) : Result'.Keeps s (execMoveAbort h p s) := by
  exact Result'.Keeps.host moveAbortCmd_keeps

theorem execMoveSetStop_keeps (h : Hdr) (p : List Word) (s : State) : Result'.Keeps s (execMoveSetStop h p s) := by
  exact Result'.Keeps.host moveSetStopCmd_keeps

theorem execLoopCfgWrite_keeps (h : Hdr) (p : List Word) (s : State) : Result'.Keeps s (execLoopCfgWrite h p s) := by
  exact Result'.Keeps.host loopCfgWriteCmd_keeps

theorem execLoopCfgRead_keeps (h : Hdr) (p : List Word) (s : State) : Result'.Keeps s (execLoopCfgRead h p s) := by
  exact Result'.Keeps.host loopCfgReadCmd_keeps

theorem execLoopCurWrite_keeps (h : Hdr) (p : List Word) (s : State) : Result'.Keeps s (execLoopCurWrite h p s) := by
  exact Result'.Keeps.host loopCurWriteCmd_keeps

theorem execLoopCoefWrite_keeps (h : Hdr) (p : List Word) (s : State) : Result'.Keeps s (execLoopCoefWrite h p s) := by
  exact Result'.Keeps.host loopCoefWriteCmd_keeps

theorem execLoopParamWrite_keeps (h : Hdr) (p : List Word) (s : State) : Result'.Keeps s (execLoopParamWrite h p s) := by
  exact Result'.Keeps.host loopParamWriteCmd_keeps

theorem execLoopReady_keeps (h : Hdr) (p : List Word) (s : State) : Result'.Keeps s (execLoopReady h p s) := by
  exact Result'.Keeps.host loopReadyCmd_keeps

theorem execLoopSwap_keeps (h : Hdr) (p : List Word) (s : State) : Result'.Keeps s (execLoopSwap h p s) := by
  exact Result'.Keeps.host loopSwapCmd_keeps

theorem execLoopCoefRead_keeps (h : Hdr) (p : List Word) (s : State) : Result'.Keeps s (execLoopCoefRead h p s) := by
  exact Result'.Keeps.host loopCoefReadCmd_keeps

theorem execTableWinWrite_keeps (h : Hdr) (p : List Word) (s : State) : Result'.Keeps s (execTableWinWrite h p s) := by
  exact Result'.Keeps.host tableWinWriteCmd_keeps

theorem execTableMapWrite_keeps (h : Hdr) (p : List Word) (s : State) : Result'.Keeps s (execTableMapWrite h p s) := by
  exact Result'.Keeps.host tableMapWriteCmd_keeps

theorem execTableNodeWrite_keeps (h : Hdr) (p : List Word) (s : State) : Result'.Keeps s (execTableNodeWrite h p s) := by
  exact Result'.Keeps.host tableNodeWriteCmd_keeps

theorem execTableBudgetWrite_keeps (h : Hdr) (p : List Word) (s : State) : Result'.Keeps s (execTableBudgetWrite h p s) := by
  exact Result'.Keeps.host tableBudgetWriteCmd_keeps

theorem execTableRead_keeps (h : Hdr) (p : List Word) (s : State) : Result'.Keeps s (execTableRead h p s) := by
  exact Result'.Keeps.host tableReadCmd_keeps

theorem execTableStage_keeps (h : Hdr) (p : List Word) (s : State) : Result'.Keeps s (execTableStage h p s) := by
  exact Result'.Keeps.host tableStageCmd_keeps

theorem execTableCommit_keeps (h : Hdr) (p : List Word) (s : State) : Result'.Keeps s (execTableCommit h p s) := by
  exact Result'.Keeps.host tableCommitCmd_keeps

theorem execPulsePinCfg_keeps (h : Hdr) (p : List Word) (s : State) : Result'.Keeps s (execPulsePinCfg h p s) := by
  exact Result'.Keeps.host pulsePinCfgCmd_keeps

theorem execPulseStpCfg_keeps (h : Hdr) (p : List Word) (s : State) : Result'.Keeps s (execPulseStpCfg h p s) := by
  exact Result'.Keeps.host pulseStpCfgCmd_keeps

theorem execPulseRead_keeps (h : Hdr) (p : List Word) (s : State) : Result'.Keeps s (execPulseRead h p s) := by
  exact Result'.Keeps.host pulseReadCmd_keeps

theorem execFeedbackCfgWrite_keeps (h : Hdr) (p : List Word) (s : State) : Result'.Keeps s (execFeedbackCfgWrite h p s) := by
  exact Result'.Keeps.host feedbackCfgWriteCmd_keeps

theorem execFeedbackCfgRead_keeps (h : Hdr) (p : List Word) (s : State) : Result'.Keeps s (execFeedbackCfgRead h p s) := by
  exact Result'.Keeps.host feedbackCfgReadCmd_keeps

theorem execFeedbackResultRead_keeps (h : Hdr) (p : List Word) (s : State) : Result'.Keeps s (execFeedbackResultRead h p s) := by
  exact Result'.Keeps.host feedbackResultReadCmd_keeps

theorem execFeedbackSingleRead_keeps (h : Hdr) (p : List Word) (s : State) : Result'.Keeps s (execFeedbackSingleRead h p s) := by
  exact Result'.Keeps.host feedbackSingleReadCmd_keeps

theorem execAdcCfgWrite_keeps (h : Hdr) (p : List Word) (s : State) : Result'.Keeps s (execAdcCfgWrite h p s) := by
  exact Result'.Keeps.host adcCfgWriteCmd_keeps

theorem execAdcSeqWrite_keeps (h : Hdr) (p : List Word) (s : State) : Result'.Keeps s (execAdcSeqWrite h p s) := by
  exact Result'.Keeps.host adcSeqWriteCmd_keeps

theorem execAdcStart_keeps (h : Hdr) (p : List Word) (s : State) : Result'.Keeps s (execAdcStart h p s) := by
  exact Result'.Keeps.host adcStartCmd_keeps

theorem execAdcResultRead_keeps (h : Hdr) (p : List Word) (s : State) : Result'.Keeps s (execAdcResultRead h p s) := by
  exact Result'.Keeps.host adcResultReadCmd_keeps

theorem execAdcStatRead_keeps (h : Hdr) (p : List Word) (s : State) : Result'.Keeps s (execAdcStatRead h p s) := by
  exact Result'.Keeps.host adcStatReadCmd_keeps

theorem execEnvRead_keeps (h : Hdr) (p : List Word) (s : State) : Result'.Keeps s (execEnvRead h p s) := by
  exact (Result'.keeps_next _ _).2 ((hostCommand_mem envReadCmd_keeps h p (s.seesWe h.we)).trans (by simp))

theorem execEnvClampRead_keeps (h : Hdr) (p : List Word) (s : State) : Result'.Keeps s (execEnvClampRead h p s) := by
  exact Result'.Keeps.host envClampReadCmd_keeps

theorem execTwinCfgWrite_keeps (h : Hdr) (p : List Word) (s : State) : Result'.Keeps s (execTwinCfgWrite h p s) := by
  exact Result'.Keeps.host twinCfgWriteCmd_keeps

theorem execTwinStatus_keeps (h : Hdr) (p : List Word) (s : State) : Result'.Keeps s (execTwinStatus h p s) := by
  exact Result'.Keeps.host twinStatusCmd_keeps

theorem execTwinSwap_keeps (h : Hdr) (p : List Word) (s : State) : Result'.Keeps s (execTwinSwap h p s) := by
  exact Result'.Keeps.host twinSwapCmd_keeps

theorem execClusterCfgWrite_keeps (h : Hdr) (p : List Word) (s : State) : Result'.Keeps s (execClusterCfgWrite h p s) := by
  exact Result'.Keeps.host clusterCfgWriteCmd_keeps

theorem execClusterStatus_keeps (h : Hdr) (p : List Word) (s : State) : Result'.Keeps s (execClusterStatus h p s) := by
  exact Result'.Keeps.host clusterStatusCmd_keeps

theorem execClusterMoveAxis_keeps (h : Hdr) (p : List Word) (s : State) : Result'.Keeps s (execClusterMoveAxis h p s) := by
  exact Result'.Keeps.host clusterMoveAxisCmd_keeps

theorem execTraceCfgWrite_keeps (h : Hdr) (p : List Word) (s : State) : Result'.Keeps s (execTraceCfgWrite h p s) := by
  exact Result'.Keeps.host traceCfgWriteCmd_keeps

theorem execTraceSigWrite_keeps (h : Hdr) (p : List Word) (s : State) : Result'.Keeps s (execTraceSigWrite h p s) := by
  exact Result'.Keeps.host traceSigWriteCmd_keeps

theorem execTraceTrigWrite_keeps (h : Hdr) (p : List Word) (s : State) : Result'.Keeps s (execTraceTrigWrite h p s) := by
  exact Result'.Keeps.host traceTrigWriteCmd_keeps

theorem execTraceArm_keeps (h : Hdr) (p : List Word) (s : State) : Result'.Keeps s (execTraceArm h p s) := by
  exact Result'.Keeps.host traceArmCmd_keeps

theorem execTraceStop_keeps (h : Hdr) (p : List Word) (s : State) : Result'.Keeps s (execTraceStop h p s) := by
  exact Result'.Keeps.host traceStopCmd_keeps

theorem execTraceStatus_keeps (h : Hdr) (p : List Word) (s : State) : Result'.Keeps s (execTraceStatus h p s) := by
  exact Result'.Keeps.host traceStatusCmd_keeps

theorem execFilterJobStart_keeps (h : Hdr) (p : List Word) (s : State) : Result'.Keeps s (execFilterJobStart h p s) := by
  exact Result'.Keeps.host filterJobStartCmd_keeps

theorem execFilterJobStatus_keeps (h : Hdr) (p : List Word) (s : State) : Result'.Keeps s (execFilterJobStatus h p s) := by
  exact Result'.Keeps.host filterJobStatusCmd_keeps

theorem execFilterJobAbort_keeps (h : Hdr) (p : List Word) (s : State) : Result'.Keeps s (execFilterJobAbort h p s) := by
  exact Result'.Keeps.host filterJobAbortCmd_keeps

theorem execEventClassWrite_keeps (h : Hdr) (p : List Word) (s : State) : Result'.Keeps s (execEventClassWrite h p s) := by
  exact Result'.Keeps.host eventClassWriteCmd_keeps

theorem execEventClassRead_keeps (h : Hdr) (p : List Word) (s : State) : Result'.Keeps s (execEventClassRead h p s) := by
  exact Result'.Keeps.host eventClassReadCmd_keeps

theorem execBbrRead_keeps (h : Hdr) (p : List Word) (s : State) : Result'.Keeps s (execBbrRead h p s) := by
  exact Result'.Keeps.host bbrReadCmd_keeps

theorem execBbrWrite_keeps (h : Hdr) (p : List Word) (s : State) : Result'.Keeps s (execBbrWrite h p s) := by
  exact Result'.Keeps.host bbrWriteCmd_keeps

theorem execFwWrite_keeps (h : Hdr) (p : List Word) (s : State) : Result'.Keeps s (execFwWrite h p s) := by
  exact Result'.Keeps.host fwWriteCmd_keeps

theorem execFwVerify_keeps (h : Hdr) (p : List Word) (s : State) : Result'.Keeps s (execFwVerify h p s) := by
  exact Result'.Keeps.host fwVerifyCmd_keeps

theorem execFwActivate_keeps (h : Hdr) (p : List Word) (s : State) : Result'.Keeps s (execFwActivate h p s) := by
  exact Result'.Keeps.host fwActivateCmd_keeps

theorem execFwInfo_keeps (h : Hdr) (p : List Word) (s : State) : Result'.Keeps s (execFwInfo h p s) := by
  exact Result'.Keeps.host fwInfoCmd_keeps

theorem execSafeCfgWrite_keeps (h : Hdr) (p : List Word) (s : State) : Result'.Keeps s (execSafeCfgWrite h p s) := by
  exact Result'.Keeps.host safeCfgWriteCmd_keeps

theorem execSafeZoneWrite_keeps (h : Hdr) (p : List Word) (s : State) : Result'.Keeps s (execSafeZoneWrite h p s) := by
  exact Result'.Keeps.host safeZoneWriteCmd_keeps

theorem execSafeAxisWrite_keeps (h : Hdr) (p : List Word) (s : State) : Result'.Keeps s (execSafeAxisWrite h p s) := by
  exact Result'.Keeps.host safeAxisWriteCmd_keeps

theorem execSafeSiWrite_keeps (h : Hdr) (p : List Word) (s : State) : Result'.Keeps s (execSafeSiWrite h p s) := by
  exact Result'.Keeps.host safeSiWriteCmd_keeps

theorem execSafeRead_keeps (h : Hdr) (p : List Word) (s : State) : Result'.Keeps s (execSafeRead h p s) := by
  exact Result'.Keeps.host safeReadCmd_keeps

theorem execSafeConfirm_keeps (h : Hdr) (p : List Word) (s : State) : Result'.Keeps s (execSafeConfirm h p s) := by
  exact Result'.Keeps.host safeConfirmCmd_keeps

theorem execSafeDemand_keeps (h : Hdr) (p : List Word) (s : State) : Result'.Keeps s (execSafeDemand h p s) := by
  exact Result'.Keeps.host safeDemandCmd_keeps

theorem execSafeStatus_keeps (h : Hdr) (p : List Word) (s : State) : Result'.Keeps s (execSafeStatus h p s) := by
  exact Result'.Keeps.host safeStatusCmd_keeps

theorem execSysIdent_keeps (h : Hdr) (p : List Word) (s : State) : Result'.Keeps s (execSysIdent h p s) := by
  exact Result'.Keeps.host sysIdentCmd_keeps

theorem execSysReset_keeps (h : Hdr) (p : List Word) (s : State) : Result'.Keeps s (execSysReset h p s) := by
  exact Result'.Keeps.host sysResetCmd_keeps

theorem execSysNop_keeps (h : Hdr) (p : List Word) (s : State) : Result'.Keeps s (execSysNop h p s) := by
  exact Result'.Keeps.host sysNopCmd_keeps

theorem execModeRead_keeps (h : Hdr) (p : List Word) (s : State) : Result'.Keeps s (execModeRead h p s) := by
  exact Result'.Keeps.host modeReadCmd_keeps

theorem execModeSet_keeps (h : Hdr) (p : List Word) (s : State) : Result'.Keeps s (execModeSet h p s) := by
  exact Result'.Keeps.host modeSetCmd_keeps

theorem execGearRead_keeps (h : Hdr) (p : List Word) (s : State) : Result'.Keeps s (execGearRead h p s) := by
  exact Result'.Keeps.host gearReadCmd_keeps

theorem execGearSet_keeps (h : Hdr) (p : List Word) (s : State) : Result'.Keeps s (execGearSet h p s) := by
  exact Result'.Keeps.host gearSetCmd_keeps

theorem execGearShift_keeps (h : Hdr) (p : List Word) (s : State) : Result'.Keeps s (execGearShift h p s) := by
  exact Result'.Keeps.host gearShiftCmd_keeps

theorem execLimitDebounced_keeps (n : Fin 16) (positive : Bool) (x : LimitLevel) (s : State) : Result'.Keeps s (execLimitDebounced n positive x s) := by
  unfold execLimitDebounced; simp

theorem execPulseInputStep_keeps (n : Fin 16) (e : PulseStep) (t : Nat) (s : State) : Result'.Keeps s (execPulseInputStep n e t s) := by
  unfold execPulseInputStep; simp

theorem execStepPulse_keeps (n : Fin 16) (s : State) : Result'.Keeps s (execStepPulse n s) := by
  unfold execStepPulse; dsimp only; (repeat' split) <;> simp

theorem execStepRateExpiry_keeps (n : Fin 16) (s : State) : Result'.Keeps s (execStepRateExpiry n s) := by
  unfold execStepRateExpiry; simp

theorem execCaptureEdge_keeps (n : Fin 4) (level : Bool) (t : Nat) (s : State) : Result'.Keeps s (execCaptureEdge n level t s) := by
  unfold execCaptureEdge; simp

theorem execEncoderRequest_keeps (n : Fin 16) (s : State) : Result'.Keeps s (execEncoderRequest n s) := by
  unfold execEncoderRequest; simp

theorem execEncoderRequestEdge_keeps (n : Fin 16) (t : Nat) (s : State) : Result'.Keeps s (execEncoderRequestEdge n t s) := by
  unfold execEncoderRequestEdge; simp

theorem execEncoderStartEdge_keeps (n : Fin 16) (t : Nat) (s : State) : Result'.Keeps s (execEncoderStartEdge n t s) := by
  unfold execEncoderStartEdge; dsimp only; (repeat' split) <;> simp

theorem execEncoderTimeout_keeps (n : Fin 16) (s : State) : Result'.Keeps s (execEncoderTimeout n s) := by
  unfold execEncoderTimeout; dsimp only; (repeat' split) <;> simp

theorem execEncoderWordDone_keeps (n : Fin 16) (bits : List Bool) (s : State) : Result'.Keeps s (execEncoderWordDone n bits s) := by
  unfold execEncoderWordDone; dsimp only; (repeat' split) <;> simp

theorem execQuadratureEdge_keeps (n : Fin 16) (e : QuadEdge) (t : Nat) (s : State) : Result'.Keeps s (execQuadratureEdge n e t s) := by
  unfold execQuadratureEdge; simp

theorem execIncrementalLatch_keeps (n : Fin 16) (s : State) : Result'.Keeps s (execIncrementalLatch n s) := by
  unfold execIncrementalLatch; simp

theorem execIndexEdge_keeps (n : Fin 16) (t : Nat) (s : State) : Result'.Keeps s (execIndexEdge n t s) := by
  unfold execIndexEdge; simp

theorem execAdcTimeTrigger_keeps (x : Fin 2) (s : State) : Result'.Keeps s (execAdcTimeTrigger x s) := by
  unfold execAdcTimeTrigger; dsimp only; (repeat' split) <;> simp

theorem execConversionDone_keeps (x : Fin 2) (v : Conversion) (s : State) : Result'.Keeps s (execConversionDone x v s) := by
  unfold execConversionDone; dsimp only; (repeat' split) <;> simp

theorem execMainsCrossing_keeps (x : Fin 2) (t : Nat) (s : State) : Result'.Keeps s (execMainsCrossing x t s) := by
  unfold execMainsCrossing; simp

theorem execMainsLockTimeout_keeps (x : Fin 2) (s : State) : Result'.Keeps s (execMainsLockTimeout x s) := by
  unfold execMainsLockTimeout; dsimp only; (repeat' split) <;> simp

theorem execRefSettled_keeps (x : Fin 2) (s : State) : Result'.Keeps s (execRefSettled x s) := by
  unfold execRefSettled; simp

theorem execRxqTailWrite_keeps (n : Fin 2) (v : Word) (s : State) : Result'.Keeps s (execRxqTailWrite n v s) := by
  unfold execRxqTailWrite; simp

theorem execRxwRead_keeps (n : Fin 2) (s : State) : Result'.Keeps s (execRxwRead n s) := by
  unfold execRxwRead; simp

theorem execCanFrameReceived_keeps (n : Fin 2) (f : CanFrame) (t : Nat) (s : State) : Result'.Keeps s (execCanFrameReceived n f t s) := by
  unfold execCanFrameReceived; dsimp only; (repeat' split) <;> simp

theorem execReferenceMessage_keeps (n : Fin 2) (f : RefMessage) (t : Nat) (s : State) : Result'.Keeps s (execReferenceMessage n f t s) := by
  unfold execReferenceMessage; dsimp only; (repeat' split) <;> simp

theorem execCanTxOffer_keeps (n : Fin 2) (s : State) : Result'.Keeps s (execCanTxOffer n s) := by
  unfold execCanTxOffer; dsimp only; (repeat' split) <;> simp

theorem execCanTxDone_keeps (n : Fin 2) (t : Nat) (s : State) : Result'.Keeps s (execCanTxDone n t s) := by
  unfold execCanTxDone; dsimp only; (repeat' split) <;> simp

theorem execCanError_keeps (n : Fin 2) (e : CanErr) (s : State) : Result'.Keeps s (execCanError n e s) := by
  unfold execCanError; dsimp only; (repeat' split) <;> simp

theorem execCanRecoveryDone_keeps (n : Fin 2) (s : State) : Result'.Keeps s (execCanRecoveryDone n s) := by
  unfold execCanRecoveryDone; dsimp only; (repeat' split) <;> simp

theorem execTtBasicCycle_keeps (n : Fin 2) (s : State) : Result'.Keeps s (execTtBasicCycle n s) := by
  unfold execTtBasicCycle; dsimp only; (repeat' split) <;> simp

theorem execTtWindowStart_keeps (n : Fin 2) (w : Nat) (free_ : Bool) (s : State) : Result'.Keeps s (execTtWindowStart n w free_ s) := by
  unfold execTtWindowStart; dsimp only; (repeat' split) <;> simp

theorem execTtWindowMiss_keeps (n : Fin 2) (w : Nat) (s : State) : Result'.Keeps s (execTtWindowMiss n w s) := by
  unfold execTtWindowMiss; dsimp only; (repeat' split) <;> simp

theorem execReferenceTimeout_keeps (n : Fin 2) (s : State) : Result'.Keeps s (execReferenceTimeout n s) := by
  unfold execReferenceTimeout; dsimp only; (repeat' split) <;> simp

theorem execReferencesLost_keeps (n : Fin 2) (s : State) : Result'.Keeps s (execReferencesLost n s) := by
  unfold execReferencesLost; dsimp only; (repeat' split) <;> simp

theorem execCandidateSpoke_keeps (c : Fin 2) (b : Bool) (k : Fin 128) (fb : Feedback) (t : Nat) (s : State) : Result'.Keeps s (execCandidateSpoke c b k fb t s) := by
  unfold execCandidateSpoke; simp

theorem execCopyConfirm_keeps (c : Fin 2) (b : Bool) (i : CopyInfo) (t : Nat) (s : State) : Result'.Keeps s (execCopyConfirm c b i t s) := by
  unfold execCopyConfirm; simp

theorem execMissInstant_keeps (c : Fin 2) (s : State) : Result'.Keeps s (execMissInstant c s) := by
  unfold execMissInstant; simp

theorem execServiceCopyReturn_keeps (c : Fin 2) (b : Bool) (i : CopyInfo) (replies : List Reply) (safe : List Byte) (t : Nat) (s : State) : Result'.Keeps s (execServiceCopyReturn c b i replies safe t s) := by
  unfold execServiceCopyReturn
  dsimp only
  rw [Result'.keeps_next]
  split
  · simp
  · split
    · rename_i u e; exact (by rw [State.discards_mem e]; simp)
    · simp

theorem execDiscoveryCopyReturn_keeps (c : Fin 2) (b : Bool) (i : CopyInfo) (hops : Nat) (recs : List CensusRec) (t : Nat) (s : State) : Result'.Keeps s (execDiscoveryCopyReturn c b i hops recs t s) := by
  unfold execDiscoveryCopyReturn
  dsimp only
  rw [Result'.keeps_next]
  split
  · simp
  · split
    · rename_i u e; exact (by rw [State.discards_mem e]; simp)
    · simp

theorem execDelayCopyReturn_keeps (c : Fin 2) (b : Bool) (i : CopyInfo) (round : Fin 16) (hops : Nat) (recs : List DelayRec) (t : Nat) (s : State) : Result'.Keeps s (execDelayCopyReturn c b i round hops recs t s) := by
  unfold execDelayCopyReturn
  dsimp only
  rw [Result'.keeps_next]
  split
  · simp
  · split
    · rename_i u e; exact (by rw [State.discards_mem e]; simp)
    · simp

theorem execForeignFrame_keeps (c : Fin 2) (s : State) : Result'.Keeps s (execForeignFrame c s) := by
  unfold execForeignFrame; simp

theorem execPassThroughForward_keeps (c : Fin 2) (f : PassFrame) (t : Nat) (s : State) : Result'.Keeps s (execPassThroughForward c f t s) := by
  unfold execPassThroughForward; simp

theorem execLinkUp_keeps (c : Fin 2) (right : Bool) (t : Nat) (s : State) : Result'.Keeps s (execLinkUp c right t s) := by
  unfold execLinkUp; simp

theorem execLinkDown_keeps (c : Fin 2) (right : Bool) (t : Nat) (s : State) : Result'.Keeps s (execLinkDown c right t s) := by
  unfold execLinkDown; simp

theorem execPhyStatusPoll_keeps (up : BitVec 4) (t : Nat) (s : State) : Result'.Keeps s (execPhyStatusPoll up t s) := by
  unfold execPhyStatusPoll; simp

theorem execListenEnd_keeps (s : State) : Result'.Keeps s (execListenEnd s) := by
  unfold execListenEnd; simp

theorem execClaimPeriod_keeps (s : State) : Result'.Keeps s (execClaimPeriod s) := by
  unfold execClaimPeriod; simp

theorem execClaimFrameReceived_keeps (c : Fin 2) (f : ClaimFrame) (t : Nat) (s : State) : Result'.Keeps s (execClaimFrameReceived c f t s) := by
  unfold execClaimFrameReceived; simp

theorem execPpsEdge_keeps (t : Nat) (s : State) : Result'.Keeps s (execPpsEdge t s) := by
  unfold execPpsEdge; simp

theorem execRateStep_keeps (s : State) : Result'.Keeps s (execRateStep s) := by
  unfold execRateStep; simp

theorem execClaimReport_keeps (m : Fin 4) (won : Bool) (s : State) : Result'.Keeps s (execClaimReport m won s) := by
  unfold execClaimReport; simp

theorem execClaimOrder_keeps (step : Bool) (value : Option Nat) (s : State) : Result'.Keeps s (execClaimOrder step value s) := by
  unfold execClaimOrder; simp

theorem execLeaseRenewal_keeps (s : State) : Result'.Keeps s (execLeaseRenewal s) := by
  unfold execLeaseRenewal; simp

theorem execLeaseLapse_keeps (s : State) : Result'.Keeps s (execLeaseLapse s) := by
  unfold execLeaseLapse; simp

theorem execHeartbeatReceived_keeps (seq : Word) (t : Nat) (s : State) : Result'.Keeps s (execHeartbeatReceived seq t s) := by
  unfold execHeartbeatReceived; simp

theorem execBeaconReceived_keeps (c : Fin 2) (f : BeaconFrame) (t : Nat) (s : State) : Result'.Keeps s (execBeaconReceived c f t s) := by
  unfold execBeaconReceived; simp

theorem execSilenceCheck_keeps (s : State) : Result'.Keeps s (execSilenceCheck s) := by
  unfold execSilenceCheck; simp

theorem execTakeover_keeps (s : State) : Result'.Keeps s (execTakeover s) := by
  unfold execTakeover; simp

theorem execSyncLinkLock_keeps (peer : PairId) (s : State) : Result'.Keeps s (execSyncLinkLock peer s) := by
  unfold execSyncLinkLock; dsimp only; (repeat' split) <;> simp

theorem execSyncLinkChange_keeps (lanes : BitVec 2) (s : State) : Result'.Keeps s (execSyncLinkChange lanes s) := by
  unfold execSyncLinkChange; simp

theorem execCopyControlBlock_keeps (cb : ControlBlock) (recs : List AxisRec) (precs : List ProfileRec) (t : Nat) (s : State) : Result'.Keeps s (execCopyControlBlock cb recs precs t s) := by
  unfold execCopyControlBlock; simp

theorem execCopyAcknowledge_keeps (seq : Word) (s : State) : Result'.Keeps s (execCopyAcknowledge seq s) := by
  unfold execCopyAcknowledge; simp

theorem execForwardedChange_keeps (gen : Word) (x : Forwarded) (t : Nat) (s : State) : Result'.Keeps s (execForwardedChange gen x t s) := by
  unfold execForwardedChange; simp

theorem execConfigRefreshDone_keeps (gen : Word) (s : State) : Result'.Keeps s (execConfigRefreshDone gen s) := by
  unfold execConfigRefreshDone; simp

theorem execRefreshRequest_keeps (s : State) : Result'.Keeps s (execRefreshRequest s) := by
  unfold execRefreshRequest; simp

theorem execSwapNotice_keeps (e : Nat) (s : State) : Result'.Keeps s (execSwapNotice e s) := by
  unfold execSwapNotice; simp

theorem execSwapAck_keeps (e : Nat) (s : State) : Result'.Keeps s (execSwapAck e s) := by
  unfold execSwapAck; dsimp only; (repeat' split) <;> simp

theorem execSwapDue_keeps (s : State) : Result'.Keeps s (execSwapDue s) := by
  unfold execSwapDue; simp

theorem execMirroredEvent_keeps (m : Fin 4) (n : Fin 128) (a16 : BitVec 16) (a32 : Word) (time : Nat) (s : State) : Result'.Keeps s (execMirroredEvent m n a16 a32 time s) := by
  unfold execMirroredEvent; simp

theorem execMemberHealth_keeps (m : Fin 4) (ok : BitVec 5) (cycle t : Nat) (s : State) : Result'.Keeps s (execMemberHealth m ok cycle t s) := by
  unfold execMemberHealth; simp

theorem execLeaseGrant_keeps (g : Grant) (t : Nat) (s : State) : Result'.Keeps s (execLeaseGrant g t s) := by
  unfold execLeaseGrant; simp

theorem execBridgeResponse_keeps (m : Fin 4) (tag : Byte) (opcode : BitVec 16) (status : Byte) (p : List Word) (s : State) : Result'.Keeps s (execBridgeResponse m tag opcode status p s) := by
  unfold execBridgeResponse; dsimp only; (repeat' split) <;> simp

theorem execForwardedCommand_keeps (h : Hdr) (opcode : BitVec 16) (p : List Word) (s : State) :
    Result'.Keeps s (execForwardedCommand h opcode p s) := by
  unfold execForwardedCommand
  rw [Result'.keeps_next]
  dsimp only
  split
  · rfl
  · split
    · simp
    · split
      · simp
      · split
        · rename_i c e; exact HostCmd.bridged_mem (cmdOf_keeps e) h p s
        · simp

theorem execMemberEvent_keeps (m : Fin 4) (n : Fin 128) (a16 : BitVec 16) (a32 : Word) (time : Nat) (s : State) : Result'.Keeps s (execMemberEvent m n a16 a32 time s) := by
  unfold execMemberEvent; simp

theorem execMemberLost_keeps (m : Fin 4) (s : State) : Result'.Keeps s (execMemberLost m s) := by
  unfold execMemberLost; simp

theorem execMemberJoined_keeps (m : Fin 4) (id : PairId) (dup : Bool) (s : State) : Result'.Keeps s (execMemberJoined m id dup s) := by
  unfold execMemberJoined; simp

theorem execBridgeChange_keeps (otherWay : Bool) (s : State) : Result'.Keeps s (execBridgeChange otherWay s) := by
  unfold execBridgeChange; simp

theorem execCyclePoint_keeps (k : Fin 8) (s : State) : Result'.Keeps s (execCyclePoint k s) := by
  unfold execCyclePoint; simp

theorem execServiceFrameLaunch_keeps (c : Fin 2) (s : State) : Result'.Keeps s (execServiceFrameLaunch c s) := by
  unfold execServiceFrameLaunch; dsimp only; (repeat' split) <;> simp

theorem execOpenFrameLaunch_keeps (c : Fin 2) (s : State) : Result'.Keeps s (execOpenFrameLaunch c s) := by
  unfold execOpenFrameLaunch; dsimp only; (repeat' split) <;> simp

theorem execAcyclicFill_keeps (c : Fin 2) (open_ : Bool) (s : State) : Result'.Keeps s (execAcyclicFill c open_ s) := by
  unfold execAcyclicFill; dsimp only; (repeat' split) <;> simp

theorem execBeaconLaunch_keeps (c : Fin 2) (s : State) : Result'.Keeps s (execBeaconLaunch c s) := by
  unfold execBeaconLaunch; dsimp only; (repeat' split) <;> simp

theorem execDiscoveryLaunch_keeps (c : Fin 2) (s : State) : Result'.Keeps s (execDiscoveryLaunch c s) := by
  unfold execDiscoveryLaunch; (repeat' split) <;> simp

theorem execEnvKeyWrite_keeps (v : Word) (we : Bool) (s : State) : Result'.Keeps s (execEnvKeyWrite v we s) := by
  unfold execEnvKeyWrite; simp

theorem execEnvDataWrite_keeps (v : Word) (we : Bool) (s : State) : Result'.Keeps s (execEnvDataWrite v we s) := by
  unfold execEnvDataWrite; simp

theorem execEnvKeyTimeout_keeps (s : State) : Result'.Keeps s (execEnvKeyTimeout s) := by
  unfold execEnvKeyTimeout; dsimp only; (repeat' split) <;> simp

theorem execEnvLockoutEnd_keeps (s : State) : Result'.Keeps s (execEnvLockoutEnd s) := by
  unfold execEnvLockoutEnd; dsimp only; (repeat' split) <;> simp

theorem execEnvPathTimeout_keeps (s : State) : Result'.Keeps s (execEnvPathTimeout s) := by
  unfold execEnvPathTimeout; (repeat' split) <;> simp

theorem execEnvWeFall_keeps (s : State) : Result'.Keeps s (execEnvWeFall s) := by
  unfold execEnvWeFall; simp

theorem execEnvSealUpdateDone_keeps (s : State) : Result'.Keeps s (execEnvSealUpdateDone s) := by
  unfold execEnvSealUpdateDone; simp

theorem execSealCheck_keeps (s : State) : Result'.Keeps s (execSealCheck s) := by
  unfold execSealCheck; simp

theorem execCmdqTailWrite_keeps (v : Word) (s : State) : Result'.Keeps s (execCmdqTailWrite v s) := by
  unfold execCmdqTailWrite; simp

theorem execRspqHeadWrite_keeps (v : Word) (s : State) : Result'.Keeps s (execRspqHeadWrite v s) := by
  unfold execRspqHeadWrite; simp

theorem execEvtqHeadWrite_keeps (v : Word) (s : State) : Result'.Keeps s (execEvtqHeadWrite v s) := by
  unfold execEvtqHeadWrite; simp

theorem execIrqPendWrite_keeps (k : Fin 4) (v : Word) (s : State) : Result'.Keeps s (execIrqPendWrite k v s) := by
  unfold execIrqPendWrite; simp

theorem execIrqMaskWrite_keeps (k : Fin 4) (v : Word) (s : State) : Result'.Keeps s (execIrqMaskWrite k v s) := by
  unfold execIrqMaskWrite; simp

theorem execIrqRouteWrite_keeps (w : Fin 32) (v : Word) (s : State) : Result'.Keeps s (execIrqRouteWrite w v s) := by
  unfold execIrqRouteWrite; simp

theorem execRegisterWrite_keeps (off : BitVec 16) (v : HostWord) (s : State) : Result'.Keeps s (execRegisterWrite off v s) := by
  unfold execRegisterWrite; simp

theorem execQspiRead_keeps (ins : QspiIns) (addr : BitVec 24) (n : Nat) (s : State) : Result'.Keeps s (execQspiRead ins addr n s) := by
  unfold execQspiRead; (repeat' split) <;> simp

theorem execPerstAssert_keeps (s : State) : Result'.Keeps s (execPerstAssert s) := by
  unfold execPerstAssert; simp

theorem execPerstRelease_keeps (s : State) : Result'.Keeps s (execPerstRelease s) := by
  unfold execPerstRelease; simp

theorem execHostLink_keeps (gen : BitVec 2) (x2 : Bool) (s : State) : Result'.Keeps s (execHostLink gen x2 s) := by
  unfold execHostLink; (repeat' split) <;> simp

theorem execMsixPendingSend_keeps (v : Fin 32) (enabled : Bool) (s : State) : Result'.Keeps s (execMsixPendingSend v enabled s) := by
  unfold execMsixPendingSend; dsimp only; (repeat' split) <;> simp

theorem execEventLost_keeps (s : State) : Result'.Keeps s (execEventLost s) := by
  unfold execEventLost; simp

theorem execPorstLow_keeps (s : State) : Result'.Keeps s (execPorstLow s) := by
  unfold execPorstLow; simp

theorem execResetEnd_keeps (x : StrapLevels) (s : State) : Result'.Keeps s (execResetEnd x s) := by
  unfold execResetEnd; simp

theorem execSysResetExpiry_keeps (s : State) : Result'.Keeps s (execSysResetExpiry s) := by
  unfold execSysResetExpiry; (repeat' split) <;> simp

theorem execHardwareWatchdog_keeps (s : State) : Result'.Keeps s (execHardwareWatchdog s) := by
  unfold execHardwareWatchdog; simp

theorem execRailsInRange_keeps (s : State) : Result'.Keeps s (execRailsInRange s) := by
  unfold execRailsInRange; simp

theorem execBbrSupplyChangeover_keeps (toVbat : Bool) (s : State) : Result'.Keeps s (execBbrSupplyChangeover toVbat s) := by
  unfold execBbrSupplyChangeover; simp

theorem execVbatPowerOnClear_keeps (s : State) : Result'.Keeps s (execVbatPowerOnClear s) := by
  unfold execVbatPowerOnClear; simp

theorem execBankWake_keeps (s : State) : Result'.Keeps s (execBankWake s) := by
  unfold execBankWake; simp

theorem execImageVerified_keeps (h : ImageHeader) (s : State) : Result'.Keeps s (execImageVerified h s) := by
  unfold execImageVerified; dsimp only; (repeat' split) <;> simp

theorem execSelfTestDone_keeps (f : SelfTest) (s : State) : Result'.Keeps s (execSelfTestDone f s) := by
  unfold execSelfTestDone; dsimp only; (repeat' split) <;> simp

theorem execBootDone_keeps (s : State) : Result'.Keeps s (execBootDone s) := by
  unfold execBootDone; dsimp only; (repeat' split) <;> simp

theorem execExtestEntry_keeps (s : State) : Result'.Keeps s (execExtestEntry s) := by
  unfold execExtestEntry; simp

theorem execExtestExit_keeps (s : State) : Result'.Keeps s (execExtestExit s) := by
  unfold execExtestExit; simp

theorem execSupervisorHeartbeat_keeps (s : State) : Result'.Keeps s (execSupervisorHeartbeat s) := by
  unfold execSupervisorHeartbeat; simp

theorem execOscFault_keeps (lost : Bool) (ppm : Int) (s : State) : Result'.Keeps s (execOscFault lost ppm s) := by
  unfold execOscFault; dsimp only; (repeat' split) <;> simp

theorem execSupplyDetector_keeps (rail : Fin 6) (mv : Nat) (s : State) : Result'.Keeps s (execSupplyDetector rail mv s) := by
  unfold execSupplyDetector; dsimp only; (repeat' split) <;> simp

theorem execTempDetector_keeps (tj : Int) (s : State) : Result'.Keeps s (execTempDetector tj s) := by
  unfold execTempDetector; dsimp only; (repeat' split) <;> simp

theorem execVbatLow_keeps (mv : Nat) (s : State) : Result'.Keeps s (execVbatLow mv s) := by
  unfold execVbatLow; simp

theorem execMemEccError_keeps (area : Fin 5) (uncorrectable : Bool) (off : Nat) (s : State) : Result'.Keeps s (execMemEccError area uncorrectable off s) := by
  unfold execMemEccError; dsimp only; (repeat' split) <;> simp

theorem execScrubPass_keeps (areas : List (Fin 5)) (s : State) : Result'.Keeps s (execScrubPass areas s) := by
  unfold execScrubPass; simp

theorem execFlashOperationDone_keeps (r : FlashResult) (s : State) : Result'.Keeps s (execFlashOperationDone r s) := by
  unfold execFlashOperationDone; dsimp only; (repeat' split) <;> simp

theorem execCoreTestDone_keeps (x : Fin 16) (passed : Bool) (s : State) : Result'.Keeps s (execCoreTestDone x passed s) := by
  unfold execCoreTestDone; dsimp only; (repeat' split) <;> simp

theorem execModeSetTimeout_keeps (s : State) : Result'.Keeps s (execModeSetTimeout s) := by
  unfold execModeSetTimeout; dsimp only; (repeat' split) <;> simp

theorem execSafeCycleStart_keeps (rc : Nat) (s : State) : Result'.Keeps s (execSafeCycleStart rc s) := by
  unfold execSafeCycleStart; dsimp only; (repeat' split) <;> simp

theorem execSafeEvaluation_keeps (v : SafeExchange) (s : State) : Result'.Keeps s (execSafeEvaluation v s) := by
  unfold execSafeEvaluation; (repeat' split) <;> simp

theorem execSafeExchangeTimeout_keeps (s : State) : Result'.Keeps s (execSafeExchangeTimeout s) := by
  unfold execSafeExchangeTimeout; dsimp only; (repeat' split) <;> simp

theorem execSafeInputSample_keeps (a b : Byte) (s : State) : Result'.Keeps s (execSafeInputSample a b s) := by
  unfold execSafeInputSample; dsimp only; (repeat' split) <;> simp

theorem execSiDiscrepancy_keeps (m : Fin 8) (s : State) : Result'.Keeps s (execSiDiscrepancy m s) := by
  unfold execSiDiscrepancy; dsimp only; (repeat' split) <;> simp

theorem execRestartSample_keeps (r : RestartLevels) (s : State) : Result'.Keeps s (execRestartSample r s) := by
  unfold execRestartSample; dsimp only; (repeat' split) <;> simp

theorem execRestartStuck_keeps (s : State) : Result'.Keeps s (execRestartStuck s) := by
  unfold execRestartStuck; dsimp only; (repeat' split) <;> simp

theorem execOffPulseTest_keeps (pair : Fin 4) (sideB : Bool) (r : Readback) (s : State) : Result'.Keeps s (execOffPulseTest pair sideB r s) := by
  unfold execOffPulseTest; dsimp only; (repeat' split) <;> simp

theorem execOutTestFail_keeps (pair : Fin 4) (sideB : Bool) (level : Bool) (s : State) : Result'.Keeps s (execOutTestFail pair sideB level s) := by
  unfold execOutTestFail; simp

theorem execDispatch_keeps (x : Executor) (s : State) : Result'.Keeps s (execDispatch x s) := by
  unfold execDispatch; simp

theorem execSpillReturn_keeps (level : Fin 8) (s : State) : Result'.Keeps s (execSpillReturn level s) := by
  unfold execSpillReturn; simp

theorem execItemDeadline_keeps (s : State) : Result'.Keeps s (execItemDeadline s) := by
  unfold execItemDeadline; (repeat' split) <;> simp

theorem execDispatchAckTimeout_keeps (x : Fin 16) (s : State) : Result'.Keeps s (execDispatchAckTimeout x s) := by
  unfold execDispatchAckTimeout; (repeat' split) <;> simp

theorem execOccupancyLimit_keeps (x : Fin 16) (s : State) : Result'.Keeps s (execOccupancyLimit x s) := by
  unfold execOccupancyLimit; (repeat' split) <;> simp

theorem execArbiterGrant_keeps (r : Fin 4) (s : State) : Result'.Keeps s (execArbiterGrant r s) := by
  unfold execArbiterGrant; simp

theorem execArbCutoff_keeps (r : Fin 4) (s : State) : Result'.Keeps s (execArbCutoff r s) := by
  unfold execArbCutoff; dsimp only; (repeat' split) <;> simp

theorem execFaultLogWrite_keeps (s : State) : Result'.Keeps s (execFaultLogWrite s) := by
  unfold execFaultLogWrite; dsimp only; (repeat' split) <;> simp

end Sys2Proof.Machine
end

