-- ==== Sys2Proof/Laws/Mailbox.lean ====
section
/-!
SUPPORT. What a host command that is taken at once leaves behind (R353 to R356): cited in place of unfolding the mailbox.
-/
namespace Sys2Proof.Machine

@[simp] theorem refOf_viaBridge (op : Nat) (h : Hdr) : (refOf op h).viaBridge = false := rfl

/-- The payload of an entry whose `MSG.LEN` is the number of words written is those words. -/
theorem entryPayload_full (mem : Tbl Word) (slot len : Nat) (p : List Word) (e : len = p.length) :
    entryPayload mem slot len p = p := by
  subst e
  simp [entryPayload, Tbl.getRange]

/-- A command taken at once goes straight to its specific checks and effect. -/
theorem hostCommand_taken {c : HostCmd} {h : Hdr} {p : List Word} {s : State} (k : Taken c h p s) :
    hostCommand c h p s = (c.carry (refOf c.opcode h) p (s.entered c.opcode h p)).finish (refOf c.opcode h) := by
  have hb : s.bar0Write = s := by simp [State.bar0Write, k.keys]
  have hc : s.canTake h.fence = true := by
    cases hf : h.fence with
    | false => simp [State.canTake, k.room]
    | true => simp [State.canTake, k.room, k.fence hf]
  have hpay := entryPayload_full s.host.cmdMem (s.host.cmdTail % 64) h.len.toNat p k.len
  have hl : ¬ h.len.toNat > 62 := by have := k.len; have := k.fits; omega
  have ho : (s.entered c.opcode h p).others = 0 := k.alone
  have hm : c.modeStatus (s.entered c.opcode h p).md.mode = 0 := k.mode
  have hh : headerOk c h (s.entered c.opcode h p) = true := by
    simp [headerOk, State.memberOk, k.plain, State.entered, k.here]
  have he : c.execute (refOf c.opcode h) p (s.entered c.opcode h p) = c.carry (refOf c.opcode h) p (s.entered c.opcode h p) := by
    simp [HostCmd.execute, hm, k.valid, ho]
  have ht : c.taken h p (s.entered c.opcode h p)
      = (c.carry (refOf c.opcode h) p (s.entered c.opcode h p)).finish (refOf c.opcode h) := by
    have h1 : (s.entered c.opcode h p).straps.lead = true := k.ownPort
    have h2 : h.target.val = (s.entered c.opcode h p).straps.cid := k.here
    simp [HostCmd.taken, h1, hl, hh, h2, he]
  unfold hostCommand
  rw [hb]
  dsimp only
  rw [hpay]
  rw [if_neg (by simp [State.served, k.served]), if_neg (by simp [k.empty]), if_neg (by simp [k.charged]), if_pos (by simp [k.empty, hc])]
  exact ht

/-- A taken command that is accepted: its effect, forwarded to the twin where the command changes the configuration, then its
response with status OK. -/
theorem hostCommand_ok {c : HostCmd} {h : Hdr} {p : List Word} {s t : State} {q : List Word} (k : Taken c h p s)
    (e : c.run (refOf c.opcode h) p (s.entered c.opcode h p) = ok t q) :
    hostCommand c h p s = (if c.config then t.forward c.opcode p (Answer.effect q) else t).respond (refOf c.opcode h) 0 q := by
  rw [hostCommand_taken k, HostCmd.carry, e]
  simp [ok, Answer.finish, stOk, stCommitLate]

/-- A taken command that is answered at completion leaves what its body leaves. -/
theorem hostCommand_wait {c : HostCmd} {h : Hdr} {p : List Word} {s t : State} (k : Taken c h p s)
    (e : c.run (refOf c.opcode h) p (s.entered c.opcode h p) = .wait t) : hostCommand c h p s = t := by
  rw [hostCommand_taken k, HostCmd.carry, e]
  rfl

/-- A taken command that is refused changes nothing but the queues. -/
theorem hostCommand_refused {c : HostCmd} {h : Hdr} {p : List Word} {s : State} {st : Nat} (k : Taken c h p s)
    (e : c.run (refOf c.opcode h) p (s.entered c.opcode h p) = refuse (s.entered c.opcode h p) st) (h0 : st ≠ stOk)
    (h1 : st ≠ stCommitLate) : hostCommand c h p s = (s.entered c.opcode h p).respond (refOf c.opcode h) st [] := by
  rw [hostCommand_taken k, HostCmd.carry, e]
  simp [refuse, Answer.finish, h0, h1]

/-! ## A taken command finds everything but the host port and its budget as it stood -/

@[simp] theorem hostSpend_shadow (s : State) (n : Nat) : (s.hostSpend n).shadow = s.budget.shadow := by unfold State.hostSpend; split <;> rfl
@[simp] theorem hostSpend_shadowW5 (s : State) (n : Nat) : (s.hostSpend n).shadowW5 = s.budget.shadowW5 := by unfold State.hostSpend; split <;> rfl
@[simp] theorem hostSpend_active (s : State) (n : Nat) : (s.hostSpend n).active = s.budget.active := by unfold State.hostSpend; split <;> rfl
@[simp] theorem hostSpend_activeW5 (s : State) (n : Nat) : (s.hostSpend n).activeW5 = s.budget.activeW5 := by unfold State.hostSpend; split <;> rfl
@[simp] theorem hostSpend_used (s : State) (n : Nat) : (s.hostSpend n).used = s.budget.used := by unfold State.hostSpend; split <;> rfl
@[simp] theorem hostSpend_peak (s : State) (n : Nat) : (s.hostSpend n).peak = s.budget.peak := by unfold State.hostSpend; split <;> rfl
@[simp] theorem hostSpend_run (s : State) (n : Nat) : (s.hostSpend n).run = s.budget.run := by unfold State.hostSpend; split <;> rfl
@[simp] theorem hostSpend_defer (s : State) (n : Nat) : (s.hostSpend n).defer = s.budget.defer := by unfold State.hostSpend; split <;> rfl
@[simp] theorem hostSpend_drop (s : State) (n : Nat) : (s.hostSpend n).drop = s.budget.drop := by unfold State.hostSpend; split <;> rfl

@[simp] theorem entered_pending (op : Nat) (h : Hdr) (p : List Word) (s : State) : (s.entered op h p).pending = s.pending := rfl
@[simp] theorem entered_free (op : Nat) (h : Hdr) (p : List Word) (s : State) : (s.entered op h p).free = s.free := rfl
@[simp] theorem entered_clk (op : Nat) (h : Hdr) (p : List Word) (s : State) : (s.entered op h p).clk = s.clk := rfl
@[simp] theorem entered_straps (op : Nat) (h : Hdr) (p : List Word) (s : State) : (s.entered op h p).straps = s.straps := rfl
@[simp] theorem entered_md (op : Nat) (h : Hdr) (p : List Word) (s : State) : (s.entered op h p).md = s.md := rfl
@[simp] theorem entered_startup (op : Nat) (h : Hdr) (p : List Word) (s : State) : (s.entered op h p).startup = s.startup := rfl
@[simp] theorem entered_irq (op : Nat) (h : Hdr) (p : List Word) (s : State) : (s.entered op h p).irq = s.irq := rfl
@[simp] theorem entered_port (op : Nat) (h : Hdr) (p : List Word) (s : State) : (s.entered op h p).port = s.port := rfl
@[simp] theorem entered_env (op : Nat) (h : Hdr) (p : List Word) (s : State) : (s.entered op h p).env = s.env := rfl
@[simp] theorem entered_bbr (op : Nat) (h : Hdr) (p : List Word) (s : State) : (s.entered op h p).bbr = s.bbr := rfl
@[simp] theorem entered_fw (op : Nat) (h : Hdr) (p : List Word) (s : State) : (s.entered op h p).fw = s.fw := rfl
@[simp] theorem entered_ch0 (op : Nat) (h : Hdr) (p : List Word) (s : State) : (s.entered op h p).ch0 = s.ch0 := rfl
@[simp] theorem entered_ch1 (op : Nat) (h : Hdr) (p : List Word) (s : State) : (s.entered op h p).ch1 = s.ch1 := rfl
@[simp] theorem entered_budget (op : Nat) (h : Hdr) (p : List Word) (s : State) : (s.entered op h p).budget = s.hostSpend (entryBytes p) := rfl
@[simp] theorem entered_room (op : Nat) (h : Hdr) (p : List Word) (s : State) : (s.entered op h p).room = s.room := rfl
@[simp] theorem entered_pend (op : Nat) (h : Hdr) (p : List Word) (s : State) : (s.entered op h p).pend = s.pend := rfl
@[simp] theorem entered_axes (op : Nat) (h : Hdr) (p : List Word) (s : State) : (s.entered op h p).axes = s.axes := rfl
@[simp] theorem entered_sched (op : Nat) (h : Hdr) (p : List Word) (s : State) : (s.entered op h p).sched = s.sched := rfl
@[simp] theorem entered_faults (op : Nat) (h : Hdr) (p : List Word) (s : State) : (s.entered op h p).faults = s.faults := rfl
@[simp] theorem entered_power (op : Nat) (h : Hdr) (p : List Word) (s : State) : (s.entered op h p).power = s.power := rfl
@[simp] theorem entered_safe (op : Nat) (h : Hdr) (p : List Word) (s : State) : (s.entered op h p).safe = s.safe := rfl
@[simp] theorem entered_twin (op : Nat) (h : Hdr) (p : List Word) (s : State) : (s.entered op h p).twin = s.twin := rfl
@[simp] theorem entered_link (op : Nat) (h : Hdr) (p : List Word) (s : State) : (s.entered op h p).link = s.link := rfl
@[simp] theorem entered_clu (op : Nat) (h : Hdr) (p : List Word) (s : State) : (s.entered op h p).clu = s.clu := rfl
@[simp] theorem entered_can (op : Nat) (h : Hdr) (p : List Word) (s : State) : (s.entered op h p).can = s.can := rfl
@[simp] theorem entered_trace (op : Nat) (h : Hdr) (p : List Word) (s : State) : (s.entered op h p).trace = s.trace := rfl
@[simp] theorem entered_jobs (op : Nat) (h : Hdr) (p : List Word) (s : State) : (s.entered op h p).jobs = s.jobs := rfl
@[simp] theorem entered_arb (op : Nat) (h : Hdr) (p : List Word) (s : State) : (s.entered op h p).arb = s.arb := rfl
@[simp] theorem entered_pins (op : Nat) (h : Hdr) (p : List Word) (s : State) : (s.entered op h p).pins = s.pins := rfl
@[simp] theorem entered_mem (op : Nat) (h : Hdr) (p : List Word) (s : State) : (s.entered op h p).mem = s.mem := rfl
@[simp] theorem entered_arbLimits (op : Nat) (h : Hdr) (p : List Word) (s : State) : State.arbLimits (s.entered op h p) = State.arbLimits s := rfl
@[simp] theorem entered_canTwinOk (op : Nat) (h : Hdr) (p : List Word) (s : State) (w1 : Word) (tc : Nat) : State.canTwinOk (s.entered op h p) w1 tc = State.canTwinOk s w1 tc := rfl
@[simp] theorem entered_canSafeOk (op : Nat) (h : Hdr) (p : List Word) (s : State) (w0 w1 w2 : Word) : State.canSafeOk (s.entered op h p) w0 w1 w2 = State.canSafeOk s w0 w1 w2 := rfl
@[simp] theorem entered_tablesOk (op : Nat) (h : Hdr) (p : List Word) (s : State) (c tc : Nat) (t : Tables) : State.tablesOk (s.entered op h p) c tc t = State.tablesOk s c tc t := rfl
@[simp] theorem entered_axisFits (op : Nat) (h : Hdr) (p : List Word) (s : State) (m0 m1 : Tbl Word) (gear i : Nat) (x : Axis) : State.axisFits (s.entered op h p) m0 m1 gear i x = State.axisFits s m0 m1 gear i x := rfl
@[simp] theorem entered_templated (op : Nat) (h : Hdr) (p : List Word) (s : State) : State.templated (s.entered op h p) = State.templated s := rfl
@[simp] theorem entered_curAxes (op : Nat) (h : Hdr) (p : List Word) (s : State) : State.curAxes (s.entered op h p) = State.curAxes s := rfl
@[simp] theorem entered_limitsOk (op : Nat) (h : Hdr) (p : List Word) (s : State) (g : Nat) (t0 t1 : Tables) : State.limitsOk (s.entered op h p) g t0 t1 = State.limitsOk s g t0 t1 := rfl
@[simp] theorem entered_commitStatus (op : Nat) (h : Hdr) (p : List Word) (s : State) (g : Nat) (n0 n1 : Bool) (t0 t1 : Tables) : State.commitStatus (s.entered op h p) g n0 n1 t0 t1 = State.commitStatus s g n0 n1 t0 t1 := rfl
@[simp] theorem entered_budgetStatus (op : Nat) (h : Hdr) (p : List Word) (s : State) (g : Nat) (b : Nat → Word) (w5 : Word) : State.budgetStatus (s.entered op h p) g b w5 = State.budgetStatus s g b w5 := rfl
@[simp] theorem entered_portsFit (op : Nat) (h : Hdr) (p : List Word) (s : State) (g : Nat) : State.portsFit (s.entered op h p) g = State.portsFit s g := rfl
@[simp] theorem entered_leaveFault (op : Nat) (h : Hdr) (p : List Word) (s : State) : State.leaveFault (s.entered op h p) = State.leaveFault s := rfl
@[simp] theorem entered_lateEffect (op : Nat) (h : Hdr) (p : List Word) (s : State) (lag e : Nat) : State.lateEffect (s.entered op h p) lag e = State.lateEffect s lag e := rfl
@[simp] theorem entered_shiftCycle (op : Nat) (h : Hdr) (p : List Word) (s : State) (lag : Nat) : State.shiftCycle (s.entered op h p) lag = State.shiftCycle s lag := rfl
@[simp] theorem entered_shiftLocks (op : Nat) (h : Hdr) (p : List Word) (s : State) : State.shiftLocks (s.entered op h p) = State.shiftLocks s := rfl
@[simp] theorem entered_enableOk (op : Nat) (h : Hdr) (p : List Word) (s : State) (i : Nat) : State.enableOk (s.entered op h p) i = State.enableOk s i := rfl
@[simp] theorem entered_slotInfo (op : Nat) (h : Hdr) (p : List Word) (s : State) (b : Bool) : State.slotInfo (s.entered op h p) b = State.slotInfo s b := rfl
@[simp] theorem entered_swapNames (op : Nat) (h : Hdr) (p : List Word) (s : State) (i : Nat) : State.swapNames (s.entered op h p) i = State.swapNames s i := rfl
@[simp] theorem entered_chirping (op : Nat) (h : Hdr) (p : List Word) (s : State) (i : Nat) : State.chirping (s.entered op h p) i = State.chirping s i := rfl
@[simp] theorem entered_startStatus (op : Nat) (h : Hdr) (p : List Word) (s : State) (i : Nat) : State.startStatus (s.entered op h p) i = State.startStatus s i := rfl
@[simp] theorem entered_inWindow (op : Nat) (h : Hdr) (p : List Word) (s : State) (i : Nat) (t : Int) : State.inWindow (s.entered op h p) i t = State.inWindow s i t := rfl
@[simp] theorem entered_queuedMoves (op : Nat) (h : Hdr) (p : List Word) (s : State) : State.queuedMoves (s.entered op h p) = State.queuedMoves s := rfl
@[simp] theorem entered_enabledAxes (op : Nat) (h : Hdr) (p : List Word) (s : State) : State.enabledAxes (s.entered op h p) = State.enabledAxes s := rfl
@[simp] theorem entered_curAxesOk (op : Nat) (h : Hdr) (p : List Word) (s : State) (g : Nat) : State.curAxesOk (s.entered op h p) g = State.curAxesOk s g := rfl
@[simp] theorem entered_moving (op : Nat) (h : Hdr) (p : List Word) (s : State) : State.moving (s.entered op h p) = State.moving s := rfl
@[simp] theorem entered_setsFit (op : Nat) (h : Hdr) (p : List Word) (s : State) (g : Nat) : State.setsFit (s.entered op h p) g = State.setsFit s g := rfl
@[simp] theorem entered_movingFit (op : Nat) (h : Hdr) (p : List Word) (s : State) (g : Nat) : State.movingFit (s.entered op h p) g = State.movingFit s g := rfl
@[simp] theorem entered_shiftTables (op : Nat) (h : Hdr) (p : List Word) (s : State) (w0 w1 : List Word) : State.shiftTables (s.entered op h p) w0 w1 = State.shiftTables s w0 w1 := rfl
@[simp] theorem entered_shiftEffect (op : Nat) (h : Hdr) (p : List Word) (s : State) (lag e : Nat) : State.shiftEffect (s.entered op h p) lag e = State.shiftEffect s lag e := rfl
@[simp] theorem entered_commitNames (op : Nat) (h : Hdr) (p : List Word) (s : State) (c : Nat) : State.commitNames (s.entered op h p) c = State.commitNames s c := rfl
@[simp] theorem entered_commitBudgetPending (op : Nat) (h : Hdr) (p : List Word) (s : State) : State.commitBudgetPending (s.entered op h p) = State.commitBudgetPending s := rfl
@[simp] theorem entered_stagedStatus (op : Nat) (h : Hdr) (p : List Word) (s : State) (c e : Nat) : State.stagedStatus (s.entered op h p) c e = State.stagedStatus s c e := rfl
@[simp] theorem entered_stagedExempt (op : Nat) (h : Hdr) (p : List Word) (s : State) (n0 n1 : Bool) (e : Nat) : State.stagedExempt (s.entered op h p) n0 n1 e = State.stagedExempt s n0 n1 e := rfl
@[simp] theorem entered_freeJob (op : Nat) (h : Hdr) (p : List Word) (s : State) : State.freeJob (s.entered op h p) = State.freeJob s := rfl
@[simp] theorem entered_jobKnown (op : Nat) (h : Hdr) (p : List Word) (s : State) (p2 : List Word) : State.jobKnown (s.entered op h p) p2 = State.jobKnown s p2 := rfl
@[simp] theorem entered_twinRole (op : Nat) (h : Hdr) (p : List Word) (s : State) : State.twinRole (s.entered op h p) = State.twinRole s := rfl
@[simp] theorem entered_twinStat (op : Nat) (h : Hdr) (p : List Word) (s : State) : State.twinStat (s.entered op h p) = State.twinStat s := rfl
@[simp] theorem entered_swapDelayReq (op : Nat) (h : Hdr) (p : List Word) (s : State) (c a : Nat) : State.swapDelayReq (s.entered op h p) c a = State.swapDelayReq s c a := rfl
@[simp] theorem entered_moveStatus (op : Nat) (h : Hdr) (p : List Word) (s : State) (m : AxisMove) : State.moveStatus (s.entered op h p) m = State.moveStatus s m := rfl
@[simp] theorem entered_envOf (op : Nat) (h : Hdr) (p : List Word) (s : State) (i : Nat) : State.envOf (s.entered op h p) i = State.envOf s i := rfl
@[simp] theorem entered_runs (op : Nat) (h : Hdr) (p : List Word) (s : State) (b : Bool) : State.runs (s.entered op h p) b = State.runs s b := rfl
@[simp] theorem entered_bootChoice (op : Nat) (h : Hdr) (p : List Word) (s : State) : State.bootChoice (s.entered op h p) = State.bootChoice s := rfl
@[simp] theorem entered_memberOk (op : Nat) (h : Hdr) (p : List Word) (s : State) (m : Nat) : State.memberOk (s.entered op h p) m = State.memberOk s m := rfl
@[simp] theorem entered_nd (op : Nat) (h : Hdr) (p : List Word) (s : State) (c a : Nat) : State.nd (s.entered op h p) c a = State.nd s c a := rfl
@[simp] theorem entered_chains (op : Nat) (h : Hdr) (p : List Word) (s : State) : State.chains (s.entered op h p) = State.chains s := rfl
@[simp] theorem entered_now (op : Nat) (h : Hdr) (p : List Word) (s : State) : State.now (s.entered op h p) = State.now s := rfl
@[simp] theorem entered_bNow (op : Nat) (h : Hdr) (p : List Word) (s : State) : State.bNow (s.entered op h p) = State.bNow s := rfl
@[simp] theorem entered_tc (op : Nat) (h : Hdr) (p : List Word) (s : State) : State.tc (s.entered op h p) = State.tc s := rfl
@[simp] theorem entered_ch (op : Nat) (h : Hdr) (p : List Word) (s : State) (c : Nat) : State.ch (s.entered op h p) c = State.ch s c := rfl
@[simp] theorem entered_ax (op : Nat) (h : Hdr) (p : List Word) (s : State) (i : Nat) : State.ax (s.entered op h p) i = State.ax s i := rfl
@[simp] theorem entered_axisList (op : Nat) (h : Hdr) (p : List Word) (s : State) : State.axisList (s.entered op h p) = State.axisList s := rfl
@[simp] theorem entered_pin (op : Nat) (h : Hdr) (p : List Word) (s : State) (n : Nat) : State.pin (s.entered op h p) n = State.pin s n := rfl
@[simp] theorem entered_stp (op : Nat) (h : Hdr) (p : List Word) (s : State) (n : Nat) : State.stp (s.entered op h p) n = State.stp s n := rfl
@[simp] theorem entered_fbp (op : Nat) (h : Hdr) (p : List Word) (s : State) (n : Nat) : State.fbp (s.entered op h p) n = State.fbp s n := rfl
@[simp] theorem entered_conv (op : Nat) (h : Hdr) (p : List Word) (s : State) (x : Nat) : State.conv (s.entered op h p) x = State.conv s x := rfl
@[simp] theorem entered_pulseView (op : Nat) (h : Hdr) (p : List Word) (s : State) (x : Axis) : State.pulseView (s.entered op h p) x = State.pulseView s x := rfl
@[simp] theorem entered_canPort (op : Nat) (h : Hdr) (p : List Word) (s : State) (n : Nat) : State.canPort (s.entered op h p) n = State.canPort s n := rfl
@[simp] theorem entered_twinReady (op : Nat) (h : Hdr) (p : List Word) (s : State) : State.twinReady (s.entered op h p) = State.twinReady s := rfl
@[simp] theorem entered_chirps (op : Nat) (h : Hdr) (p : List Word) (s : State) (i : Nat) : State.chirps (s.entered op h p) i = State.chirps s i := rfl
@[simp] theorem entered_inSto (op : Nat) (h : Hdr) (p : List Word) (s : State) (i : Nat) : State.inSto (s.entered op h p) i = State.inSto s i := rfl
@[simp] theorem entered_standing (op : Nat) (h : Hdr) (p : List Word) (s : State) : State.standing (s.entered op h p) = State.standing s := rfl
@[simp] theorem entered_spokeOfAxis (op : Nat) (h : Hdr) (p : List Word) (s : State) (i : Nat) : State.spokeOfAxis (s.entered op h p) i = State.spokeOfAxis s i := rfl
@[simp] theorem entered_job (op : Nat) (h : Hdr) (p : List Word) (s : State) (j : Nat) : State.job (s.entered op h p) j = State.job s j := rfl
@[simp] theorem entered_twinCfgId (op : Nat) (h : Hdr) (p : List Word) (s : State) : State.twinCfgId (s.entered op h p) = State.twinCfgId s := rfl
@[simp] theorem entered_commitChecks (op : Nat) (h : Hdr) (p : List Word) (s : State) (k : Commit) (running : Bool) :
    State.commitChecks (s.entered op h p) k running = State.commitChecks s k running := by simp [State.commitChecks]

end Sys2Proof.Machine
end

