-- ==== Sys2Proof/Laws/Refusal.lean ====
section
/-!
SUPPORT. A refused command has no effect and no payload (R356): one lemma per command of the catalogue. MODE.SET, MOVE.SET_STOP and
AXIS.STATUS_READ, to which the rule gives a payload, have none.
-/
namespace Sys2Proof.Machine

/-- An answer to a command run in `s`: it accepts, or it has no effect and no payload, or it is still to come. -/
def Answer.Clean (s : State) : Answer → Prop
  | .done st q t => st = stOk ∨ st = stCommitLate ∨ (t = s ∧ q = [])
  | .wait _ => True

@[simp] theorem clean_ok (s t : State) (q : List Word) : (ok t q).Clean s := Or.inl rfl

@[simp] theorem clean_refuse (s : State) (st : Nat) : (refuse s st).Clean s := Or.inr (Or.inr ⟨rfl, rfl⟩)

@[simp] theorem clean_wait (s t : State) : (Answer.wait t).Clean s := trivial

@[simp] theorem clean_same (s : State) (st : Nat) : (Answer.done st [] s).Clean s := Or.inr (Or.inr ⟨rfl, rfl⟩)

@[simp] theorem clean_late (s t : State) (q : List Word) (b : Bool) : (Answer.done (if b then stCommitLate else stOk) q t).Clean s := by
  cases b <;> simp [Answer.Clean]

@[simp] theorem clean_ite (s : State) (c : Prop) [Decidable c] (a b : Answer) (ha : a.Clean s) (hb : b.Clean s) : (if c then a else b).Clean s := by
  split <;> assumption

theorem requestRun_clean (k : Nat) (p : List Word) (s : State) : (requestRun k p s).Clean s := by
  simp only [requestRun]; split <;> simp

theorem axisEnableCmd_clean (r : MsgRef) (p : List Word) (s : State) : (axisEnableCmd.run r p s).Clean s := by
  simp only [axisEnableCmd]
  first | exact clean_ok _ _ _ | ((repeat' split) <;> simp; done) | (dsimp only; (repeat' split) <;> simp; done) | ((repeat' split) <;> first | (simp; done) | exact Or.inl rfl | exact Or.inr (Or.inl rfl))

theorem axisDisableCmd_clean (r : MsgRef) (p : List Word) (s : State) : (axisDisableCmd.run r p s).Clean s := by
  simp only [axisDisableCmd]
  first | exact clean_ok _ _ _ | ((repeat' split) <;> simp; done) | (dsimp only; (repeat' split) <;> simp; done) | ((repeat' split) <;> first | (simp; done) | exact Or.inl rfl | exact Or.inr (Or.inl rfl))

theorem axisPrfCfgWriteCmd_clean (r : MsgRef) (p : List Word) (s : State) : (axisPrfCfgWriteCmd.run r p s).Clean s := by
  simp only [axisPrfCfgWriteCmd]
  first | exact clean_ok _ _ _ | ((repeat' split) <;> simp; done) | (dsimp only; (repeat' split) <;> simp; done) | ((repeat' split) <;> first | (simp; done) | exact Or.inl rfl | exact Or.inr (Or.inl rfl))

theorem axisPrfCfgReadCmd_clean (r : MsgRef) (p : List Word) (s : State) : (axisPrfCfgReadCmd.run r p s).Clean s := by
  simp only [axisPrfCfgReadCmd]
  first | exact clean_ok _ _ _ | ((repeat' split) <;> simp; done) | (dsimp only; (repeat' split) <;> simp; done) | ((repeat' split) <;> first | (simp; done) | exact Or.inl rfl | exact Or.inr (Or.inl rfl))

theorem axisMissWindowCmd_clean (r : MsgRef) (p : List Word) (s : State) : (axisMissWindowCmd.run r p s).Clean s := by
  simp only [axisMissWindowCmd]
  first | exact clean_ok _ _ _ | ((repeat' split) <;> simp; done) | (dsimp only; (repeat' split) <;> simp; done) | ((repeat' split) <;> first | (simp; done) | exact Or.inl rfl | exact Or.inr (Or.inl rfl))

theorem axisStreamInfoCmd_clean (r : MsgRef) (p : List Word) (s : State) : (axisStreamInfoCmd.run r p s).Clean s := by
  simp only [axisStreamInfoCmd]
  first | exact clean_ok _ _ _ | ((repeat' split) <;> simp; done) | (dsimp only; (repeat' split) <;> simp; done) | ((repeat' split) <;> first | (simp; done) | exact Or.inl rfl | exact Or.inr (Or.inl rfl))

theorem axisAuxWriteCmd_clean (r : MsgRef) (p : List Word) (s : State) : (axisAuxWriteCmd.run r p s).Clean s := by
  simp only [axisAuxWriteCmd]
  first | exact clean_ok _ _ _ | ((repeat' split) <;> simp; done) | (dsimp only; (repeat' split) <;> simp; done) | ((repeat' split) <;> first | (simp; done) | exact Or.inl rfl | exact Or.inr (Or.inl rfl))

theorem canCfgWriteCmd_clean (r : MsgRef) (p : List Word) (s : State) : (canCfgWriteCmd.run r p s).Clean s := by
  simp only [canCfgWriteCmd]
  first | exact clean_ok _ _ _ | ((repeat' split) <;> simp; done) | (dsimp only; (repeat' split) <;> simp; done) | ((repeat' split) <;> first | (simp; done) | exact Or.inl rfl | exact Or.inr (Or.inl rfl))

theorem canFilterWriteCmd_clean (r : MsgRef) (p : List Word) (s : State) : (canFilterWriteCmd.run r p s).Clean s := by
  simp only [canFilterWriteCmd]
  first | exact clean_ok _ _ _ | ((repeat' split) <;> simp; done) | (dsimp only; (repeat' split) <;> simp; done) | ((repeat' split) <;> first | (simp; done) | exact Or.inl rfl | exact Or.inr (Or.inl rfl))

theorem canSchedWriteCmd_clean (r : MsgRef) (p : List Word) (s : State) : (canSchedWriteCmd.run r p s).Clean s := by
  simp only [canSchedWriteCmd]
  first | exact clean_ok _ _ _ | ((repeat' split) <;> simp; done) | (dsimp only; (repeat' split) <;> simp; done) | ((repeat' split) <;> first | (simp; done) | exact Or.inl rfl | exact Or.inr (Or.inl rfl))

theorem canSafeWriteCmd_clean (r : MsgRef) (p : List Word) (s : State) : (canSafeWriteCmd.run r p s).Clean s := by
  simp only [canSafeWriteCmd]
  first | exact clean_ok _ _ _ | ((repeat' split) <;> simp; done) | (dsimp only; (repeat' split) <;> simp; done) | ((repeat' split) <;> first | (simp; done) | exact Or.inl rfl | exact Or.inr (Or.inl rfl))

theorem canAbortCmd_clean (r : MsgRef) (p : List Word) (s : State) : (canAbortCmd.run r p s).Clean s := by
  simp only [canAbortCmd]
  first | exact clean_ok _ _ _ | ((repeat' split) <;> simp; done) | (dsimp only; (repeat' split) <;> simp; done) | ((repeat' split) <;> first | (simp; done) | exact Or.inl rfl | exact Or.inr (Or.inl rfl))

theorem canRecoverCmd_clean (r : MsgRef) (p : List Word) (s : State) : (canRecoverCmd.run r p s).Clean s := by
  simp only [canRecoverCmd]
  first | exact clean_ok _ _ _ | ((repeat' split) <;> simp; done) | (dsimp only; (repeat' split) <;> simp; done) | ((repeat' split) <;> first | (simp; done) | exact Or.inl rfl | exact Or.inr (Or.inl rfl))

theorem canInfoCmd_clean (r : MsgRef) (p : List Word) (s : State) : (canInfoCmd.run r p s).Clean s := by
  simp only [canInfoCmd]
  first | exact clean_ok _ _ _ | ((repeat' split) <;> simp; done) | (dsimp only; (repeat' split) <;> simp; done) | ((repeat' split) <;> first | (simp; done) | exact Or.inl rfl | exact Or.inr (Or.inl rfl))

theorem canReadCmd_clean (r : MsgRef) (p : List Word) (s : State) : (canReadCmd.run r p s).Clean s := by
  simp only [canReadCmd]
  first | exact clean_ok _ _ _ | ((repeat' split) <;> simp; done) | (dsimp only; (repeat' split) <;> simp; done) | ((repeat' split) <;> first | (simp; done) | exact Or.inl rfl | exact Or.inr (Or.inl rfl))

theorem diagCanCountersCmd_clean (r : MsgRef) (p : List Word) (s : State) : (diagCanCountersCmd.run r p s).Clean s := by
  simp only [diagCanCountersCmd]
  first | exact clean_ok _ _ _ | ((repeat' split) <;> simp; done) | (dsimp only; (repeat' split) <;> simp; done) | ((repeat' split) <;> first | (simp; done) | exact Or.inl rfl | exact Or.inr (Or.inl rfl))

theorem chainCfgWriteCmd_clean (r : MsgRef) (p : List Word) (s : State) : (chainCfgWriteCmd.run r p s).Clean s := by
  simp only [chainCfgWriteCmd]
  first | exact clean_ok _ _ _ | ((repeat' split) <;> simp; done) | (dsimp only; (repeat' split) <;> simp; done) | ((repeat' split) <;> first | (simp; done) | exact Or.inl rfl | exact Or.inr (Or.inl rfl))

theorem chainCfgReadCmd_clean (r : MsgRef) (p : List Word) (s : State) : (chainCfgReadCmd.run r p s).Clean s := by
  simp only [chainCfgReadCmd]
  first | exact clean_ok _ _ _ | ((repeat' split) <;> simp; done) | (dsimp only; (repeat' split) <;> simp; done) | ((repeat' split) <;> first | (simp; done) | exact Or.inl rfl | exact Or.inr (Or.inl rfl))

theorem chainSupvWriteCmd_clean (r : MsgRef) (p : List Word) (s : State) : (chainSupvWriteCmd.run r p s).Clean s := by
  simp only [chainSupvWriteCmd]
  first | exact clean_ok _ _ _ | ((repeat' split) <;> simp; done) | (dsimp only; (repeat' split) <;> simp; done) | ((repeat' split) <;> first | (simp; done) | exact Or.inl rfl | exact Or.inr (Or.inl rfl))

theorem chainGuardWriteCmd_clean (r : MsgRef) (p : List Word) (s : State) : (chainGuardWriteCmd.run r p s).Clean s := by
  simp only [chainGuardWriteCmd]
  first | exact clean_ok _ _ _ | ((repeat' split) <;> simp; done) | (dsimp only; (repeat' split) <;> simp; done) | ((repeat' split) <;> first | (simp; done) | exact Or.inl rfl | exact Or.inr (Or.inl rfl))

theorem chainMissAtWriteCmd_clean (r : MsgRef) (p : List Word) (s : State) : (chainMissAtWriteCmd.run r p s).Clean s := by
  simp only [chainMissAtWriteCmd]
  first | exact clean_ok _ _ _ | ((repeat' split) <;> simp; done) | (dsimp only; (repeat' split) <;> simp; done) | ((repeat' split) <;> first | (simp; done) | exact Or.inl rfl | exact Or.inr (Or.inl rfl))

theorem chainSupvReadCmd_clean (r : MsgRef) (p : List Word) (s : State) : (chainSupvReadCmd.run r p s).Clean s := by
  simp only [chainSupvReadCmd]
  first | exact clean_ok _ _ _ | ((repeat' split) <;> simp; done) | (dsimp only; (repeat' split) <;> simp; done) | ((repeat' split) <;> first | (simp; done) | exact Or.inl rfl | exact Or.inr (Or.inl rfl))

theorem chainNodeReadCmd_clean (r : MsgRef) (p : List Word) (s : State) : (chainNodeReadCmd.run r p s).Clean s := by
  simp only [chainNodeReadCmd]
  first | exact clean_ok _ _ _ | ((repeat' split) <;> simp; done) | (dsimp only; (repeat' split) <;> simp; done) | ((repeat' split) <;> first | (simp; done) | exact Or.inl rfl | exact Or.inr (Or.inl rfl))

theorem chainNodeWriteCmd_clean (r : MsgRef) (p : List Word) (s : State) : (chainNodeWriteCmd.run r p s).Clean s := by
  simp only [chainNodeWriteCmd]
  first | exact clean_ok _ _ _ | ((repeat' split) <;> simp; done) | (dsimp only; (repeat' split) <;> simp; done) | ((repeat' split) <;> first | (simp; done) | exact Or.inl rfl | exact Or.inr (Or.inl rfl))

theorem chainDescReadCmd_clean (r : MsgRef) (p : List Word) (s : State) : (chainDescReadCmd.run r p s).Clean s := by
  simp only [chainDescReadCmd]
  first | exact clean_ok _ _ _ | ((repeat' split) <;> simp; done) | (dsimp only; (repeat' split) <;> simp; done) | ((repeat' split) <;> first | (simp; done) | exact Or.inl rfl | exact Or.inr (Or.inl rfl))

theorem chainCensusReadCmd_clean (r : MsgRef) (p : List Word) (s : State) : (chainCensusReadCmd.run r p s).Clean s := by
  simp only [chainCensusReadCmd]
  first | exact clean_ok _ _ _ | ((repeat' split) <;> simp; done) | (dsimp only; (repeat' split) <;> simp; done) | ((repeat' split) <;> first | (simp; done) | exact Or.inl rfl | exact Or.inr (Or.inl rfl))

theorem chainDelayReadCmd_clean (r : MsgRef) (p : List Word) (s : State) : (chainDelayReadCmd.run r p s).Clean s := by
  simp only [chainDelayReadCmd]
  first | exact clean_ok _ _ _ | ((repeat' split) <;> simp; done) | (dsimp only; (repeat' split) <;> simp; done) | ((repeat' split) <;> first | (simp; done) | exact Or.inl rfl | exact Or.inr (Or.inl rfl))

theorem diagChainCountersCmd_clean (r : MsgRef) (p : List Word) (s : State) : (diagChainCountersCmd.run r p s).Clean s := by
  simp only [diagChainCountersCmd]
  first | exact clean_ok _ _ _ | ((repeat' split) <;> simp; done) | (dsimp only; (repeat' split) <;> simp; done) | ((repeat' split) <;> first | (simp; done) | exact Or.inl rfl | exact Or.inr (Or.inl rfl))

theorem timeReadCmd_clean (r : MsgRef) (p : List Word) (s : State) : (timeReadCmd.run r p s).Clean s := by
  simp only [timeReadCmd]
  first | exact clean_ok _ _ _ | ((repeat' split) <;> simp; done) | (dsimp only; (repeat' split) <;> simp; done) | ((repeat' split) <;> first | (simp; done) | exact Or.inl rfl | exact Or.inr (Or.inl rfl))

theorem timeStageCmd_clean (r : MsgRef) (p : List Word) (s : State) : (timeStageCmd.run r p s).Clean s := by
  simp only [timeStageCmd]
  first | exact clean_ok _ _ _ | ((repeat' split) <;> simp; done) | (dsimp only; (repeat' split) <;> simp; done) | ((repeat' split) <;> first | (simp; done) | exact Or.inl rfl | exact Or.inr (Or.inl rfl))

theorem timeRateCmd_clean (r : MsgRef) (p : List Word) (s : State) : (timeRateCmd.run r p s).Clean s := by
  simp only [timeRateCmd]
  first | exact clean_ok _ _ _ | ((repeat' split) <;> simp; done) | (dsimp only; (repeat' split) <;> simp; done) | ((repeat' split) <;> first | (simp; done) | exact Or.inl rfl | exact Or.inr (Or.inl rfl))

theorem timeCpWriteCmd_clean (r : MsgRef) (p : List Word) (s : State) : (timeCpWriteCmd.run r p s).Clean s := by
  simp only [timeCpWriteCmd]
  first | exact clean_ok _ _ _ | ((repeat' split) <;> simp; done) | (dsimp only; (repeat' split) <;> simp; done) | ((repeat' split) <;> first | (simp; done) | exact Or.inl rfl | exact Or.inr (Or.inl rfl))

theorem timeCapCfgCmd_clean (r : MsgRef) (p : List Word) (s : State) : (timeCapCfgCmd.run r p s).Clean s := by
  simp only [timeCapCfgCmd]
  first | exact clean_ok _ _ _ | ((repeat' split) <;> simp; done) | (dsimp only; (repeat' split) <;> simp; done) | ((repeat' split) <;> first | (simp; done) | exact Or.inl rfl | exact Or.inr (Or.inl rfl))

theorem timeCapReadCmd_clean (r : MsgRef) (p : List Word) (s : State) : (timeCapReadCmd.run r p s).Clean s := by
  simp only [timeCapReadCmd]
  first | exact clean_ok _ _ _ | ((repeat' split) <;> simp; done) | (dsimp only; (repeat' split) <;> simp; done) | ((repeat' split) <;> first | (simp; done) | exact Or.inl rfl | exact Or.inr (Or.inl rfl))

theorem diagActReadCmd_clean (r : MsgRef) (p : List Word) (s : State) : (diagActReadCmd.run r p s).Clean s := by
  simp only [diagActReadCmd]
  first | exact clean_ok _ _ _ | ((repeat' split) <;> simp; done) | (dsimp only; (repeat' split) <;> simp; done) | ((repeat' split) <;> first | (simp; done) | exact Or.inl rfl | exact Or.inr (Or.inl rfl))

theorem diagHeadroomReadCmd_clean (r : MsgRef) (p : List Word) (s : State) : (diagHeadroomReadCmd.run r p s).Clean s := by
  simp only [diagHeadroomReadCmd]
  first | exact clean_ok _ _ _ | ((repeat' split) <;> simp; done) | (dsimp only; (repeat' split) <;> simp; done) | ((repeat' split) <;> first | (simp; done) | exact Or.inl rfl | exact Or.inr (Or.inl rfl))

theorem diagSchedReadCmd_clean (r : MsgRef) (p : List Word) (s : State) : (diagSchedReadCmd.run r p s).Clean s := by
  simp only [diagSchedReadCmd]
  first | exact clean_ok _ _ _ | ((repeat' split) <;> simp; done) | (dsimp only; (repeat' split) <;> simp; done) | ((repeat' split) <;> first | (simp; done) | exact Or.inl rfl | exact Or.inr (Or.inl rfl))

theorem diagQueueSnapshotCmd_clean (r : MsgRef) (p : List Word) (s : State) : (diagQueueSnapshotCmd.run r p s).Clean s := by
  simp only [diagQueueSnapshotCmd]
  first | exact clean_ok _ _ _ | ((repeat' split) <;> simp; done) | (dsimp only; (repeat' split) <;> simp; done) | ((repeat' split) <;> first | (simp; done) | exact Or.inl rfl | exact Or.inr (Or.inl rfl))

theorem diagLoopCountersCmd_clean (r : MsgRef) (p : List Word) (s : State) : (diagLoopCountersCmd.run r p s).Clean s := by
  simp only [diagLoopCountersCmd]
  first | exact clean_ok _ _ _ | ((repeat' split) <;> simp; done) | (dsimp only; (repeat' split) <;> simp; done) | ((repeat' split) <;> first | (simp; done) | exact Or.inl rfl | exact Or.inr (Or.inl rfl))

theorem diagCoreTestCmd_clean (r : MsgRef) (p : List Word) (s : State) : (diagCoreTestCmd.run r p s).Clean s := by
  simp only [diagCoreTestCmd]
  first | exact clean_ok _ _ _ | ((repeat' split) <;> simp; done) | (dsimp only; (repeat' split) <;> simp; done) | ((repeat' split) <;> first | (simp; done) | exact Or.inl rfl | exact Or.inr (Or.inl rfl))

theorem diagMemStatusCmd_clean (r : MsgRef) (p : List Word) (s : State) : (diagMemStatusCmd.run r p s).Clean s := by
  simp only [diagMemStatusCmd]
  first | exact clean_ok _ _ _ | ((repeat' split) <;> simp; done) | (dsimp only; (repeat' split) <;> simp; done) | ((repeat' split) <;> first | (simp; done) | exact Or.inl rfl | exact Or.inr (Or.inl rfl))

theorem State.placeMove_clean (s : State) (i : Nat) (m : Move) (n : Nat) (w : Bool) : (s.placeMove i m n w).Clean s := by
  unfold State.placeMove
  dsimp only
  repeat' (first | exact clean_refuse _ _ | exact clean_ok _ _ _ | exact clean_late _ _ _ _ | split)

theorem moveStartCmd_clean (r : MsgRef) (p : List Word) (s : State) : (moveStartCmd.run r p s).Clean s := by
  simp only [moveStartCmd]
  repeat' (first | exact clean_refuse _ _ | exact State.placeMove_clean _ _ _ _ _ | split)

theorem moveQuickStopCmd_clean (r : MsgRef) (p : List Word) (s : State) : (moveQuickStopCmd.run r p s).Clean s := by
  exact requestRun_clean _ _ _

theorem moveHoldCmd_clean (r : MsgRef) (p : List Word) (s : State) : (moveHoldCmd.run r p s).Clean s := by
  exact requestRun_clean _ _ _

theorem moveResumeCmd_clean (r : MsgRef) (p : List Word) (s : State) : (moveResumeCmd.run r p s).Clean s := by
  exact requestRun_clean _ _ _

theorem moveAbortCmd_clean (r : MsgRef) (p : List Word) (s : State) : (moveAbortCmd.run r p s).Clean s := by
  exact requestRun_clean _ _ _

theorem loopCfgWriteCmd_clean (r : MsgRef) (p : List Word) (s : State) : (loopCfgWriteCmd.run r p s).Clean s := by
  simp only [loopCfgWriteCmd]
  first | exact clean_ok _ _ _ | ((repeat' split) <;> simp; done) | (dsimp only; (repeat' split) <;> simp; done) | ((repeat' split) <;> first | (simp; done) | exact Or.inl rfl | exact Or.inr (Or.inl rfl))

theorem loopCfgReadCmd_clean (r : MsgRef) (p : List Word) (s : State) : (loopCfgReadCmd.run r p s).Clean s := by
  simp only [loopCfgReadCmd]
  first | exact clean_ok _ _ _ | ((repeat' split) <;> simp; done) | (dsimp only; (repeat' split) <;> simp; done) | ((repeat' split) <;> first | (simp; done) | exact Or.inl rfl | exact Or.inr (Or.inl rfl))

theorem loopCurWriteCmd_clean (r : MsgRef) (p : List Word) (s : State) : (loopCurWriteCmd.run r p s).Clean s := by
  simp only [loopCurWriteCmd]
  first | exact clean_ok _ _ _ | ((repeat' split) <;> simp; done) | (dsimp only; (repeat' split) <;> simp; done) | ((repeat' split) <;> first | (simp; done) | exact Or.inl rfl | exact Or.inr (Or.inl rfl))

theorem loopCoefWriteCmd_clean (r : MsgRef) (p : List Word) (s : State) : (loopCoefWriteCmd.run r p s).Clean s := by
  simp only [loopCoefWriteCmd]
  first | exact clean_ok _ _ _ | ((repeat' split) <;> simp; done) | (dsimp only; (repeat' split) <;> simp; done) | ((repeat' split) <;> first | (simp; done) | exact Or.inl rfl | exact Or.inr (Or.inl rfl))

theorem loopParamWriteCmd_clean (r : MsgRef) (p : List Word) (s : State) : (loopParamWriteCmd.run r p s).Clean s := by
  simp only [loopParamWriteCmd]
  first | exact clean_ok _ _ _ | ((repeat' split) <;> simp; done) | (dsimp only; (repeat' split) <;> simp; done) | ((repeat' split) <;> first | (simp; done) | exact Or.inl rfl | exact Or.inr (Or.inl rfl))

theorem loopReadyCmd_clean (r : MsgRef) (p : List Word) (s : State) : (loopReadyCmd.run r p s).Clean s := by
  simp only [loopReadyCmd]
  first | exact clean_ok _ _ _ | ((repeat' split) <;> simp; done) | (dsimp only; (repeat' split) <;> simp; done) | ((repeat' split) <;> first | (simp; done) | exact Or.inl rfl | exact Or.inr (Or.inl rfl))

theorem loopSwapCmd_clean (r : MsgRef) (p : List Word) (s : State) : (loopSwapCmd.run r p s).Clean s := by
  simp only [loopSwapCmd]
  first | exact clean_ok _ _ _ | ((repeat' split) <;> simp; done) | (dsimp only; (repeat' split) <;> simp; done) | ((repeat' split) <;> first | (simp; done) | exact Or.inl rfl | exact Or.inr (Or.inl rfl))

theorem loopCoefReadCmd_clean (r : MsgRef) (p : List Word) (s : State) : (loopCoefReadCmd.run r p s).Clean s := by
  simp only [loopCoefReadCmd]
  first | exact clean_ok _ _ _ | ((repeat' split) <;> simp; done) | (dsimp only; (repeat' split) <;> simp; done) | ((repeat' split) <;> first | (simp; done) | exact Or.inl rfl | exact Or.inr (Or.inl rfl))

theorem tableWinWriteCmd_clean (r : MsgRef) (p : List Word) (s : State) : (tableWinWriteCmd.run r p s).Clean s := by
  simp only [tableWinWriteCmd]
  first | exact clean_ok _ _ _ | ((repeat' split) <;> simp; done) | (dsimp only; (repeat' split) <;> simp; done) | ((repeat' split) <;> first | (simp; done) | exact Or.inl rfl | exact Or.inr (Or.inl rfl))

theorem tableMapWriteCmd_clean (r : MsgRef) (p : List Word) (s : State) : (tableMapWriteCmd.run r p s).Clean s := by
  simp only [tableMapWriteCmd]
  first | exact clean_ok _ _ _ | ((repeat' split) <;> simp; done) | (dsimp only; (repeat' split) <;> simp; done) | ((repeat' split) <;> first | (simp; done) | exact Or.inl rfl | exact Or.inr (Or.inl rfl))

theorem tableNodeWriteCmd_clean (r : MsgRef) (p : List Word) (s : State) : (tableNodeWriteCmd.run r p s).Clean s := by
  simp only [tableNodeWriteCmd]
  first | exact clean_ok _ _ _ | ((repeat' split) <;> simp; done) | (dsimp only; (repeat' split) <;> simp; done) | ((repeat' split) <;> first | (simp; done) | exact Or.inl rfl | exact Or.inr (Or.inl rfl))

theorem tableBudgetWriteCmd_clean (r : MsgRef) (p : List Word) (s : State) : (tableBudgetWriteCmd.run r p s).Clean s := by
  simp only [tableBudgetWriteCmd]
  first | exact clean_ok _ _ _ | ((repeat' split) <;> simp; done) | (dsimp only; (repeat' split) <;> simp; done) | ((repeat' split) <;> first | (simp; done) | exact Or.inl rfl | exact Or.inr (Or.inl rfl))

theorem tableReadCmd_clean (r : MsgRef) (p : List Word) (s : State) : (tableReadCmd.run r p s).Clean s := by
  simp only [tableReadCmd]
  first | exact clean_ok _ _ _ | ((repeat' split) <;> simp; done) | (dsimp only; (repeat' split) <;> simp; done) | ((repeat' split) <;> first | (simp; done) | exact Or.inl rfl | exact Or.inr (Or.inl rfl))

theorem tableStageCmd_clean (r : MsgRef) (p : List Word) (s : State) : (tableStageCmd.run r p s).Clean s := by
  simp only [tableStageCmd]
  first | exact clean_ok _ _ _ | ((repeat' split) <;> simp; done) | (dsimp only; (repeat' split) <;> simp; done) | ((repeat' split) <;> first | (simp; done) | exact Or.inl rfl | exact Or.inr (Or.inl rfl))

theorem tableCommitCmd_clean (r : MsgRef) (p : List Word) (s : State) : (tableCommitCmd.run r p s).Clean s := by
  simp only [tableCommitCmd]
  first | exact clean_ok _ _ _ | ((repeat' split) <;> simp; done) | (dsimp only; (repeat' split) <;> simp; done) | ((repeat' split) <;> first | (simp; done) | exact Or.inl rfl | exact Or.inr (Or.inl rfl))

theorem pulsePinCfgCmd_clean (r : MsgRef) (p : List Word) (s : State) : (pulsePinCfgCmd.run r p s).Clean s := by
  simp only [pulsePinCfgCmd]
  first | exact clean_ok _ _ _ | ((repeat' split) <;> simp; done) | (dsimp only; (repeat' split) <;> simp; done) | ((repeat' split) <;> first | (simp; done) | exact Or.inl rfl | exact Or.inr (Or.inl rfl))

theorem pulseStpCfgCmd_clean (r : MsgRef) (p : List Word) (s : State) : (pulseStpCfgCmd.run r p s).Clean s := by
  simp only [pulseStpCfgCmd]
  first | exact clean_ok _ _ _ | ((repeat' split) <;> simp; done) | (dsimp only; (repeat' split) <;> simp; done) | ((repeat' split) <;> first | (simp; done) | exact Or.inl rfl | exact Or.inr (Or.inl rfl))

theorem pulseReadCmd_clean (r : MsgRef) (p : List Word) (s : State) : (pulseReadCmd.run r p s).Clean s := by
  simp only [pulseReadCmd]
  first | exact clean_ok _ _ _ | ((repeat' split) <;> simp; done) | (dsimp only; (repeat' split) <;> simp; done) | ((repeat' split) <;> first | (simp; done) | exact Or.inl rfl | exact Or.inr (Or.inl rfl))

theorem feedbackCfgWriteCmd_clean (r : MsgRef) (p : List Word) (s : State) : (feedbackCfgWriteCmd.run r p s).Clean s := by
  simp only [feedbackCfgWriteCmd]
  first | exact clean_ok _ _ _ | ((repeat' split) <;> simp; done) | (dsimp only; (repeat' split) <;> simp; done) | ((repeat' split) <;> first | (simp; done) | exact Or.inl rfl | exact Or.inr (Or.inl rfl))

theorem feedbackCfgReadCmd_clean (r : MsgRef) (p : List Word) (s : State) : (feedbackCfgReadCmd.run r p s).Clean s := by
  simp only [feedbackCfgReadCmd]
  first | exact clean_ok _ _ _ | ((repeat' split) <;> simp; done) | (dsimp only; (repeat' split) <;> simp; done) | ((repeat' split) <;> first | (simp; done) | exact Or.inl rfl | exact Or.inr (Or.inl rfl))

theorem feedbackResultReadCmd_clean (r : MsgRef) (p : List Word) (s : State) : (feedbackResultReadCmd.run r p s).Clean s := by
  simp only [feedbackResultReadCmd]
  first | exact clean_ok _ _ _ | ((repeat' split) <;> simp; done) | (dsimp only; (repeat' split) <;> simp; done) | ((repeat' split) <;> first | (simp; done) | exact Or.inl rfl | exact Or.inr (Or.inl rfl))

theorem feedbackSingleReadCmd_clean (r : MsgRef) (p : List Word) (s : State) : (feedbackSingleReadCmd.run r p s).Clean s := by
  simp only [feedbackSingleReadCmd]
  first | exact clean_ok _ _ _ | ((repeat' split) <;> simp; done) | (dsimp only; (repeat' split) <;> simp; done) | ((repeat' split) <;> first | (simp; done) | exact Or.inl rfl | exact Or.inr (Or.inl rfl))

theorem adcCfgWriteCmd_clean (r : MsgRef) (p : List Word) (s : State) : (adcCfgWriteCmd.run r p s).Clean s := by
  simp only [adcCfgWriteCmd]
  first | exact clean_ok _ _ _ | ((repeat' split) <;> simp; done) | (dsimp only; (repeat' split) <;> simp; done) | ((repeat' split) <;> first | (simp; done) | exact Or.inl rfl | exact Or.inr (Or.inl rfl))

theorem adcSeqWriteCmd_clean (r : MsgRef) (p : List Word) (s : State) : (adcSeqWriteCmd.run r p s).Clean s := by
  simp only [adcSeqWriteCmd]
  first | exact clean_ok _ _ _ | ((repeat' split) <;> simp; done) | (dsimp only; (repeat' split) <;> simp; done) | ((repeat' split) <;> first | (simp; done) | exact Or.inl rfl | exact Or.inr (Or.inl rfl))

theorem adcStartCmd_clean (r : MsgRef) (p : List Word) (s : State) : (adcStartCmd.run r p s).Clean s := by
  simp only [adcStartCmd]
  first | exact clean_ok _ _ _ | ((repeat' split) <;> simp; done) | (dsimp only; (repeat' split) <;> simp; done) | ((repeat' split) <;> first | (simp; done) | exact Or.inl rfl | exact Or.inr (Or.inl rfl))

theorem adcResultReadCmd_clean (r : MsgRef) (p : List Word) (s : State) : (adcResultReadCmd.run r p s).Clean s := by
  simp only [adcResultReadCmd]
  first | exact clean_ok _ _ _ | ((repeat' split) <;> simp; done) | (dsimp only; (repeat' split) <;> simp; done) | ((repeat' split) <;> first | (simp; done) | exact Or.inl rfl | exact Or.inr (Or.inl rfl))

theorem adcStatReadCmd_clean (r : MsgRef) (p : List Word) (s : State) : (adcStatReadCmd.run r p s).Clean s := by
  simp only [adcStatReadCmd]
  first | exact clean_ok _ _ _ | ((repeat' split) <;> simp; done) | (dsimp only; (repeat' split) <;> simp; done) | ((repeat' split) <;> first | (simp; done) | exact Or.inl rfl | exact Or.inr (Or.inl rfl))

theorem envReadCmd_clean (r : MsgRef) (p : List Word) (s : State) : (envReadCmd.run r p s).Clean s := by
  simp only [envReadCmd]
  first | exact clean_ok _ _ _ | ((repeat' split) <;> simp; done) | (dsimp only; (repeat' split) <;> simp; done) | ((repeat' split) <;> first | (simp; done) | exact Or.inl rfl | exact Or.inr (Or.inl rfl))

theorem envClampReadCmd_clean (r : MsgRef) (p : List Word) (s : State) : (envClampReadCmd.run r p s).Clean s := by
  simp only [envClampReadCmd]
  first | exact clean_ok _ _ _ | ((repeat' split) <;> simp; done) | (dsimp only; (repeat' split) <;> simp; done) | ((repeat' split) <;> first | (simp; done) | exact Or.inl rfl | exact Or.inr (Or.inl rfl))

theorem twinCfgWriteCmd_clean (r : MsgRef) (p : List Word) (s : State) : (twinCfgWriteCmd.run r p s).Clean s := by
  simp only [twinCfgWriteCmd]
  first | exact clean_ok _ _ _ | ((repeat' split) <;> simp; done) | (dsimp only; (repeat' split) <;> simp; done) | ((repeat' split) <;> first | (simp; done) | exact Or.inl rfl | exact Or.inr (Or.inl rfl))

theorem twinStatusCmd_clean (r : MsgRef) (p : List Word) (s : State) : (twinStatusCmd.run r p s).Clean s := by
  simp only [twinStatusCmd]
  first | exact clean_ok _ _ _ | ((repeat' split) <;> simp; done) | (dsimp only; (repeat' split) <;> simp; done) | ((repeat' split) <;> first | (simp; done) | exact Or.inl rfl | exact Or.inr (Or.inl rfl))

theorem twinSwapCmd_clean (r : MsgRef) (p : List Word) (s : State) : (twinSwapCmd.run r p s).Clean s := by
  simp only [twinSwapCmd]
  first | exact clean_ok _ _ _ | ((repeat' split) <;> simp; done) | (dsimp only; (repeat' split) <;> simp; done) | ((repeat' split) <;> first | (simp; done) | exact Or.inl rfl | exact Or.inr (Or.inl rfl))

theorem clusterCfgWriteCmd_clean (r : MsgRef) (p : List Word) (s : State) : (clusterCfgWriteCmd.run r p s).Clean s := by
  simp only [clusterCfgWriteCmd]
  first | exact clean_ok _ _ _ | ((repeat' split) <;> simp; done) | (dsimp only; (repeat' split) <;> simp; done) | ((repeat' split) <;> first | (simp; done) | exact Or.inl rfl | exact Or.inr (Or.inl rfl))

theorem clusterStatusCmd_clean (r : MsgRef) (p : List Word) (s : State) : (clusterStatusCmd.run r p s).Clean s := by
  simp only [clusterStatusCmd]
  first | exact clean_ok _ _ _ | ((repeat' split) <;> simp; done) | (dsimp only; (repeat' split) <;> simp; done) | ((repeat' split) <;> first | (simp; done) | exact Or.inl rfl | exact Or.inr (Or.inl rfl))

theorem clusterMoveAxisCmd_clean (r : MsgRef) (p : List Word) (s : State) : (clusterMoveAxisCmd.run r p s).Clean s := by
  simp only [clusterMoveAxisCmd]
  first | exact clean_ok _ _ _ | ((repeat' split) <;> simp; done) | (dsimp only; (repeat' split) <;> simp; done) | ((repeat' split) <;> first | (simp; done) | exact Or.inl rfl | exact Or.inr (Or.inl rfl))

theorem traceCfgWriteCmd_clean (r : MsgRef) (p : List Word) (s : State) : (traceCfgWriteCmd.run r p s).Clean s := by
  simp only [traceCfgWriteCmd]
  first | exact clean_ok _ _ _ | ((repeat' split) <;> simp; done) | (dsimp only; (repeat' split) <;> simp; done) | ((repeat' split) <;> first | (simp; done) | exact Or.inl rfl | exact Or.inr (Or.inl rfl))

theorem traceSigWriteCmd_clean (r : MsgRef) (p : List Word) (s : State) : (traceSigWriteCmd.run r p s).Clean s := by
  simp only [traceSigWriteCmd]
  first | exact clean_ok _ _ _ | ((repeat' split) <;> simp; done) | (dsimp only; (repeat' split) <;> simp; done) | ((repeat' split) <;> first | (simp; done) | exact Or.inl rfl | exact Or.inr (Or.inl rfl))

theorem traceTrigWriteCmd_clean (r : MsgRef) (p : List Word) (s : State) : (traceTrigWriteCmd.run r p s).Clean s := by
  simp only [traceTrigWriteCmd]
  first | exact clean_ok _ _ _ | ((repeat' split) <;> simp; done) | (dsimp only; (repeat' split) <;> simp; done) | ((repeat' split) <;> first | (simp; done) | exact Or.inl rfl | exact Or.inr (Or.inl rfl))

theorem traceArmCmd_clean (r : MsgRef) (p : List Word) (s : State) : (traceArmCmd.run r p s).Clean s := by
  simp only [traceArmCmd]
  first | exact clean_ok _ _ _ | ((repeat' split) <;> simp; done) | (dsimp only; (repeat' split) <;> simp; done) | ((repeat' split) <;> first | (simp; done) | exact Or.inl rfl | exact Or.inr (Or.inl rfl))

theorem traceStopCmd_clean (r : MsgRef) (p : List Word) (s : State) : (traceStopCmd.run r p s).Clean s := by
  simp only [traceStopCmd]
  first | exact clean_ok _ _ _ | ((repeat' split) <;> simp; done) | (dsimp only; (repeat' split) <;> simp; done) | ((repeat' split) <;> first | (simp; done) | exact Or.inl rfl | exact Or.inr (Or.inl rfl))

theorem traceStatusCmd_clean (r : MsgRef) (p : List Word) (s : State) : (traceStatusCmd.run r p s).Clean s := by
  simp only [traceStatusCmd]
  first | exact clean_ok _ _ _ | ((repeat' split) <;> simp; done) | (dsimp only; (repeat' split) <;> simp; done) | ((repeat' split) <;> first | (simp; done) | exact Or.inl rfl | exact Or.inr (Or.inl rfl))

theorem filterJobStartCmd_clean (r : MsgRef) (p : List Word) (s : State) : (filterJobStartCmd.run r p s).Clean s := by
  simp only [filterJobStartCmd]
  first | exact clean_ok _ _ _ | ((repeat' split) <;> simp; done) | (dsimp only; (repeat' split) <;> simp; done) | ((repeat' split) <;> first | (simp; done) | exact Or.inl rfl | exact Or.inr (Or.inl rfl))

theorem filterJobStatusCmd_clean (r : MsgRef) (p : List Word) (s : State) : (filterJobStatusCmd.run r p s).Clean s := by
  simp only [filterJobStatusCmd]
  first | exact clean_ok _ _ _ | ((repeat' split) <;> simp; done) | (dsimp only; (repeat' split) <;> simp; done) | ((repeat' split) <;> first | (simp; done) | exact Or.inl rfl | exact Or.inr (Or.inl rfl))

theorem filterJobAbortCmd_clean (r : MsgRef) (p : List Word) (s : State) : (filterJobAbortCmd.run r p s).Clean s := by
  simp only [filterJobAbortCmd]
  first | exact clean_ok _ _ _ | ((repeat' split) <;> simp; done) | (dsimp only; (repeat' split) <;> simp; done) | ((repeat' split) <;> first | (simp; done) | exact Or.inl rfl | exact Or.inr (Or.inl rfl))

theorem eventClassWriteCmd_clean (r : MsgRef) (p : List Word) (s : State) : (eventClassWriteCmd.run r p s).Clean s := by
  simp only [eventClassWriteCmd]
  first | exact clean_ok _ _ _ | ((repeat' split) <;> simp; done) | (dsimp only; (repeat' split) <;> simp; done) | ((repeat' split) <;> first | (simp; done) | exact Or.inl rfl | exact Or.inr (Or.inl rfl))

theorem eventClassReadCmd_clean (r : MsgRef) (p : List Word) (s : State) : (eventClassReadCmd.run r p s).Clean s := by
  simp only [eventClassReadCmd]
  first | exact clean_ok _ _ _ | ((repeat' split) <;> simp; done) | (dsimp only; (repeat' split) <;> simp; done) | ((repeat' split) <;> first | (simp; done) | exact Or.inl rfl | exact Or.inr (Or.inl rfl))

theorem bbrReadCmd_clean (r : MsgRef) (p : List Word) (s : State) : (bbrReadCmd.run r p s).Clean s := by
  simp only [bbrReadCmd]
  first | exact clean_ok _ _ _ | ((repeat' split) <;> simp; done) | (dsimp only; (repeat' split) <;> simp; done) | ((repeat' split) <;> first | (simp; done) | exact Or.inl rfl | exact Or.inr (Or.inl rfl))

theorem bbrWriteCmd_clean (r : MsgRef) (p : List Word) (s : State) : (bbrWriteCmd.run r p s).Clean s := by
  simp only [bbrWriteCmd]
  first | exact clean_ok _ _ _ | ((repeat' split) <;> simp; done) | (dsimp only; (repeat' split) <;> simp; done) | ((repeat' split) <;> first | (simp; done) | exact Or.inl rfl | exact Or.inr (Or.inl rfl))

theorem fwWriteCmd_clean (r : MsgRef) (p : List Word) (s : State) : (fwWriteCmd.run r p s).Clean s := by
  simp only [fwWriteCmd]
  first | exact clean_ok _ _ _ | ((repeat' split) <;> simp; done) | (dsimp only; (repeat' split) <;> simp; done) | ((repeat' split) <;> first | (simp; done) | exact Or.inl rfl | exact Or.inr (Or.inl rfl))

theorem fwVerifyCmd_clean (r : MsgRef) (p : List Word) (s : State) : (fwVerifyCmd.run r p s).Clean s := by
  simp only [fwVerifyCmd]
  first | exact clean_ok _ _ _ | ((repeat' split) <;> simp; done) | (dsimp only; (repeat' split) <;> simp; done) | ((repeat' split) <;> first | (simp; done) | exact Or.inl rfl | exact Or.inr (Or.inl rfl))

theorem fwActivateCmd_clean (r : MsgRef) (p : List Word) (s : State) : (fwActivateCmd.run r p s).Clean s := by
  simp only [fwActivateCmd]
  first | exact clean_ok _ _ _ | ((repeat' split) <;> simp; done) | (dsimp only; (repeat' split) <;> simp; done) | ((repeat' split) <;> first | (simp; done) | exact Or.inl rfl | exact Or.inr (Or.inl rfl))

theorem fwInfoCmd_clean (r : MsgRef) (p : List Word) (s : State) : (fwInfoCmd.run r p s).Clean s := by
  simp only [fwInfoCmd]
  first | exact clean_ok _ _ _ | ((repeat' split) <;> simp; done) | (dsimp only; (repeat' split) <;> simp; done) | ((repeat' split) <;> first | (simp; done) | exact Or.inl rfl | exact Or.inr (Or.inl rfl))

theorem safeCfgWriteCmd_clean (r : MsgRef) (p : List Word) (s : State) : (safeCfgWriteCmd.run r p s).Clean s := by
  simp only [safeCfgWriteCmd]
  first | exact clean_ok _ _ _ | ((repeat' split) <;> simp; done) | (dsimp only; (repeat' split) <;> simp; done) | ((repeat' split) <;> first | (simp; done) | exact Or.inl rfl | exact Or.inr (Or.inl rfl))

theorem safeZoneWriteCmd_clean (r : MsgRef) (p : List Word) (s : State) : (safeZoneWriteCmd.run r p s).Clean s := by
  simp only [safeZoneWriteCmd]
  first | exact clean_ok _ _ _ | ((repeat' split) <;> simp; done) | (dsimp only; (repeat' split) <;> simp; done) | ((repeat' split) <;> first | (simp; done) | exact Or.inl rfl | exact Or.inr (Or.inl rfl))

theorem safeAxisWriteCmd_clean (r : MsgRef) (p : List Word) (s : State) : (safeAxisWriteCmd.run r p s).Clean s := by
  simp only [safeAxisWriteCmd]
  first | exact clean_ok _ _ _ | ((repeat' split) <;> simp; done) | (dsimp only; (repeat' split) <;> simp; done) | ((repeat' split) <;> first | (simp; done) | exact Or.inl rfl | exact Or.inr (Or.inl rfl))

theorem safeSiWriteCmd_clean (r : MsgRef) (p : List Word) (s : State) : (safeSiWriteCmd.run r p s).Clean s := by
  simp only [safeSiWriteCmd]
  first | exact clean_ok _ _ _ | ((repeat' split) <;> simp; done) | (dsimp only; (repeat' split) <;> simp; done) | ((repeat' split) <;> first | (simp; done) | exact Or.inl rfl | exact Or.inr (Or.inl rfl))

theorem safeReadCmd_clean (r : MsgRef) (p : List Word) (s : State) : (safeReadCmd.run r p s).Clean s := by
  simp only [safeReadCmd]
  first | exact clean_ok _ _ _ | ((repeat' split) <;> simp; done) | (dsimp only; (repeat' split) <;> simp; done) | ((repeat' split) <;> first | (simp; done) | exact Or.inl rfl | exact Or.inr (Or.inl rfl))

theorem safeConfirmCmd_clean (r : MsgRef) (p : List Word) (s : State) : (safeConfirmCmd.run r p s).Clean s := by
  simp only [safeConfirmCmd]
  first | exact clean_ok _ _ _ | ((repeat' split) <;> simp; done) | (dsimp only; (repeat' split) <;> simp; done) | ((repeat' split) <;> first | (simp; done) | exact Or.inl rfl | exact Or.inr (Or.inl rfl))

theorem safeDemandCmd_clean (r : MsgRef) (p : List Word) (s : State) : (safeDemandCmd.run r p s).Clean s := by
  simp only [safeDemandCmd]
  first | exact clean_ok _ _ _ | ((repeat' split) <;> simp; done) | (dsimp only; (repeat' split) <;> simp; done) | ((repeat' split) <;> first | (simp; done) | exact Or.inl rfl | exact Or.inr (Or.inl rfl))

theorem safeStatusCmd_clean (r : MsgRef) (p : List Word) (s : State) : (safeStatusCmd.run r p s).Clean s := by
  simp only [safeStatusCmd]
  first | exact clean_ok _ _ _ | ((repeat' split) <;> simp; done) | (dsimp only; (repeat' split) <;> simp; done) | ((repeat' split) <;> first | (simp; done) | exact Or.inl rfl | exact Or.inr (Or.inl rfl))

theorem sysIdentCmd_clean (r : MsgRef) (p : List Word) (s : State) : (sysIdentCmd.run r p s).Clean s := by
  simp only [sysIdentCmd]
  first | exact clean_ok _ _ _ | ((repeat' split) <;> simp; done) | (dsimp only; (repeat' split) <;> simp; done) | ((repeat' split) <;> first | (simp; done) | exact Or.inl rfl | exact Or.inr (Or.inl rfl))

theorem sysResetCmd_clean (r : MsgRef) (p : List Word) (s : State) : (sysResetCmd.run r p s).Clean s := by
  simp only [sysResetCmd]
  first | exact clean_ok _ _ _ | ((repeat' split) <;> simp; done) | (dsimp only; (repeat' split) <;> simp; done) | ((repeat' split) <;> first | (simp; done) | exact Or.inl rfl | exact Or.inr (Or.inl rfl))

theorem sysNopCmd_clean (r : MsgRef) (p : List Word) (s : State) : (sysNopCmd.run r p s).Clean s := by
  simp only [sysNopCmd]
  first | exact clean_ok _ _ _ | ((repeat' split) <;> simp; done) | (dsimp only; (repeat' split) <;> simp; done) | ((repeat' split) <;> first | (simp; done) | exact Or.inl rfl | exact Or.inr (Or.inl rfl))

theorem modeReadCmd_clean (r : MsgRef) (p : List Word) (s : State) : (modeReadCmd.run r p s).Clean s := by
  simp only [modeReadCmd]
  first | exact clean_ok _ _ _ | ((repeat' split) <;> simp; done) | (dsimp only; (repeat' split) <;> simp; done) | ((repeat' split) <;> first | (simp; done) | exact Or.inl rfl | exact Or.inr (Or.inl rfl))

theorem gearReadCmd_clean (r : MsgRef) (p : List Word) (s : State) : (gearReadCmd.run r p s).Clean s := by
  simp only [gearReadCmd]
  first | exact clean_ok _ _ _ | ((repeat' split) <;> simp; done) | (dsimp only; (repeat' split) <;> simp; done) | ((repeat' split) <;> first | (simp; done) | exact Or.inl rfl | exact Or.inr (Or.inl rfl))

theorem gearSetCmd_clean (r : MsgRef) (p : List Word) (s : State) : (gearSetCmd.run r p s).Clean s := by
  simp only [gearSetCmd]
  first | exact clean_ok _ _ _ | ((repeat' split) <;> simp; done) | (dsimp only; (repeat' split) <;> simp; done) | ((repeat' split) <;> first | (simp; done) | exact Or.inl rfl | exact Or.inr (Or.inl rfl))

theorem gearShiftCmd_clean (r : MsgRef) (p : List Word) (s : State) : (gearShiftCmd.run r p s).Clean s := by
  simp only [gearShiftCmd]
  first | exact clean_ok _ _ _ | ((repeat' split) <;> simp; done) | (dsimp only; (repeat' split) <;> simp; done) | ((repeat' split) <;> first | (simp; done) | exact Or.inl rfl | exact Or.inr (Or.inl rfl))

/-- A command whose refusals have no effect, but for the three that the rule names. -/
def HostCmd.Clean (c : HostCmd) : Prop := c.opcode ≠ 0x0703 → c.opcode ≠ 0x0806 → c.opcode ≠ 0x0202 → ∀ r p s, (c.run r p s).Clean s

theorem sysIdentCmd_cl : sysIdentCmd.Clean := fun _ _ _ => sysIdentCmd_clean

theorem sysResetCmd_cl : sysResetCmd.Clean := fun _ _ _ => sysResetCmd_clean

theorem sysNopCmd_cl : sysNopCmd.Clean := fun _ _ _ => sysNopCmd_clean

theorem modeReadCmd_cl : modeReadCmd.Clean := fun _ _ _ => modeReadCmd_clean

theorem modeSetCmd_cl : modeSetCmd.Clean := fun _ _ h => absurd rfl h

theorem gearReadCmd_cl : gearReadCmd.Clean := fun _ _ _ => gearReadCmd_clean

theorem gearSetCmd_cl : gearSetCmd.Clean := fun _ _ _ => gearSetCmd_clean

theorem gearShiftCmd_cl : gearShiftCmd.Clean := fun _ _ _ => gearShiftCmd_clean

theorem chainCfgWriteCmd_cl : chainCfgWriteCmd.Clean := fun _ _ _ => chainCfgWriteCmd_clean

theorem chainCfgReadCmd_cl : chainCfgReadCmd.Clean := fun _ _ _ => chainCfgReadCmd_clean

theorem chainSupvWriteCmd_cl : chainSupvWriteCmd.Clean := fun _ _ _ => chainSupvWriteCmd_clean

theorem chainGuardWriteCmd_cl : chainGuardWriteCmd.Clean := fun _ _ _ => chainGuardWriteCmd_clean

theorem chainMissAtWriteCmd_cl : chainMissAtWriteCmd.Clean := fun _ _ _ => chainMissAtWriteCmd_clean

theorem chainSupvReadCmd_cl : chainSupvReadCmd.Clean := fun _ _ _ => chainSupvReadCmd_clean

theorem chainNodeReadCmd_cl : chainNodeReadCmd.Clean := fun _ _ _ => chainNodeReadCmd_clean

theorem chainNodeWriteCmd_cl : chainNodeWriteCmd.Clean := fun _ _ _ => chainNodeWriteCmd_clean

theorem chainDescReadCmd_cl : chainDescReadCmd.Clean := fun _ _ _ => chainDescReadCmd_clean

theorem chainCensusReadCmd_cl : chainCensusReadCmd.Clean := fun _ _ _ => chainCensusReadCmd_clean

theorem chainDelayReadCmd_cl : chainDelayReadCmd.Clean := fun _ _ _ => chainDelayReadCmd_clean

theorem tableWinWriteCmd_cl : tableWinWriteCmd.Clean := fun _ _ _ => tableWinWriteCmd_clean

theorem tableMapWriteCmd_cl : tableMapWriteCmd.Clean := fun _ _ _ => tableMapWriteCmd_clean

theorem tableNodeWriteCmd_cl : tableNodeWriteCmd.Clean := fun _ _ _ => tableNodeWriteCmd_clean

theorem tableBudgetWriteCmd_cl : tableBudgetWriteCmd.Clean := fun _ _ _ => tableBudgetWriteCmd_clean

theorem tableReadCmd_cl : tableReadCmd.Clean := fun _ _ _ => tableReadCmd_clean

theorem tableStageCmd_cl : tableStageCmd.Clean := fun _ _ _ => tableStageCmd_clean

theorem tableCommitCmd_cl : tableCommitCmd.Clean := fun _ _ _ => tableCommitCmd_clean

theorem timeReadCmd_cl : timeReadCmd.Clean := fun _ _ _ => timeReadCmd_clean

theorem timeStageCmd_cl : timeStageCmd.Clean := fun _ _ _ => timeStageCmd_clean

theorem timeRateCmd_cl : timeRateCmd.Clean := fun _ _ _ => timeRateCmd_clean

theorem timeCpWriteCmd_cl : timeCpWriteCmd.Clean := fun _ _ _ => timeCpWriteCmd_clean

theorem timeCapCfgCmd_cl : timeCapCfgCmd.Clean := fun _ _ _ => timeCapCfgCmd_clean

theorem timeCapReadCmd_cl : timeCapReadCmd.Clean := fun _ _ _ => timeCapReadCmd_clean

theorem axisEnableCmd_cl : axisEnableCmd.Clean := fun _ _ _ => axisEnableCmd_clean

theorem axisDisableCmd_cl : axisDisableCmd.Clean := fun _ _ _ => axisDisableCmd_clean

theorem axisStatusReadCmd_cl : axisStatusReadCmd.Clean := fun h _ _ => absurd rfl h

theorem axisPrfCfgWriteCmd_cl : axisPrfCfgWriteCmd.Clean := fun _ _ _ => axisPrfCfgWriteCmd_clean

theorem axisPrfCfgReadCmd_cl : axisPrfCfgReadCmd.Clean := fun _ _ _ => axisPrfCfgReadCmd_clean

theorem axisMissWindowCmd_cl : axisMissWindowCmd.Clean := fun _ _ _ => axisMissWindowCmd_clean

theorem axisStreamInfoCmd_cl : axisStreamInfoCmd.Clean := fun _ _ _ => axisStreamInfoCmd_clean

theorem axisAuxWriteCmd_cl : axisAuxWriteCmd.Clean := fun _ _ _ => axisAuxWriteCmd_clean

theorem moveStartCmd_cl : moveStartCmd.Clean := fun _ _ _ => moveStartCmd_clean

theorem moveQuickStopCmd_cl : moveQuickStopCmd.Clean := fun _ _ _ => moveQuickStopCmd_clean

theorem moveHoldCmd_cl : moveHoldCmd.Clean := fun _ _ _ => moveHoldCmd_clean

theorem moveResumeCmd_cl : moveResumeCmd.Clean := fun _ _ _ => moveResumeCmd_clean

theorem moveAbortCmd_cl : moveAbortCmd.Clean := fun _ _ _ => moveAbortCmd_clean

theorem moveSetStopCmd_cl : moveSetStopCmd.Clean := fun _ h _ => absurd rfl h

theorem loopCfgWriteCmd_cl : loopCfgWriteCmd.Clean := fun _ _ _ => loopCfgWriteCmd_clean

theorem loopCfgReadCmd_cl : loopCfgReadCmd.Clean := fun _ _ _ => loopCfgReadCmd_clean

theorem loopCurWriteCmd_cl : loopCurWriteCmd.Clean := fun _ _ _ => loopCurWriteCmd_clean

theorem loopCoefWriteCmd_cl : loopCoefWriteCmd.Clean := fun _ _ _ => loopCoefWriteCmd_clean

theorem loopParamWriteCmd_cl : loopParamWriteCmd.Clean := fun _ _ _ => loopParamWriteCmd_clean

theorem loopReadyCmd_cl : loopReadyCmd.Clean := fun _ _ _ => loopReadyCmd_clean

theorem loopSwapCmd_cl : loopSwapCmd.Clean := fun _ _ _ => loopSwapCmd_clean

theorem loopCoefReadCmd_cl : loopCoefReadCmd.Clean := fun _ _ _ => loopCoefReadCmd_clean

theorem pulsePinCfgCmd_cl : pulsePinCfgCmd.Clean := fun _ _ _ => pulsePinCfgCmd_clean

theorem pulseStpCfgCmd_cl : pulseStpCfgCmd.Clean := fun _ _ _ => pulseStpCfgCmd_clean

theorem pulseReadCmd_cl : pulseReadCmd.Clean := fun _ _ _ => pulseReadCmd_clean

theorem feedbackCfgWriteCmd_cl : feedbackCfgWriteCmd.Clean := fun _ _ _ => feedbackCfgWriteCmd_clean

theorem feedbackCfgReadCmd_cl : feedbackCfgReadCmd.Clean := fun _ _ _ => feedbackCfgReadCmd_clean

theorem feedbackResultReadCmd_cl : feedbackResultReadCmd.Clean := fun _ _ _ => feedbackResultReadCmd_clean

theorem feedbackSingleReadCmd_cl : feedbackSingleReadCmd.Clean := fun _ _ _ => feedbackSingleReadCmd_clean

theorem adcCfgWriteCmd_cl : adcCfgWriteCmd.Clean := fun _ _ _ => adcCfgWriteCmd_clean

theorem adcSeqWriteCmd_cl : adcSeqWriteCmd.Clean := fun _ _ _ => adcSeqWriteCmd_clean

theorem adcStartCmd_cl : adcStartCmd.Clean := fun _ _ _ => adcStartCmd_clean

theorem adcResultReadCmd_cl : adcResultReadCmd.Clean := fun _ _ _ => adcResultReadCmd_clean

theorem adcStatReadCmd_cl : adcStatReadCmd.Clean := fun _ _ _ => adcStatReadCmd_clean

theorem envReadCmd_cl : envReadCmd.Clean := fun _ _ _ => envReadCmd_clean

theorem envClampReadCmd_cl : envClampReadCmd.Clean := fun _ _ _ => envClampReadCmd_clean

theorem safeCfgWriteCmd_cl : safeCfgWriteCmd.Clean := fun _ _ _ => safeCfgWriteCmd_clean

theorem safeZoneWriteCmd_cl : safeZoneWriteCmd.Clean := fun _ _ _ => safeZoneWriteCmd_clean

theorem safeAxisWriteCmd_cl : safeAxisWriteCmd.Clean := fun _ _ _ => safeAxisWriteCmd_clean

theorem safeSiWriteCmd_cl : safeSiWriteCmd.Clean := fun _ _ _ => safeSiWriteCmd_clean

theorem safeReadCmd_cl : safeReadCmd.Clean := fun _ _ _ => safeReadCmd_clean

theorem safeConfirmCmd_cl : safeConfirmCmd.Clean := fun _ _ _ => safeConfirmCmd_clean

theorem safeDemandCmd_cl : safeDemandCmd.Clean := fun _ _ _ => safeDemandCmd_clean

theorem safeStatusCmd_cl : safeStatusCmd.Clean := fun _ _ _ => safeStatusCmd_clean

theorem twinCfgWriteCmd_cl : twinCfgWriteCmd.Clean := fun _ _ _ => twinCfgWriteCmd_clean

theorem twinStatusCmd_cl : twinStatusCmd.Clean := fun _ _ _ => twinStatusCmd_clean

theorem twinSwapCmd_cl : twinSwapCmd.Clean := fun _ _ _ => twinSwapCmd_clean

theorem clusterCfgWriteCmd_cl : clusterCfgWriteCmd.Clean := fun _ _ _ => clusterCfgWriteCmd_clean

theorem clusterStatusCmd_cl : clusterStatusCmd.Clean := fun _ _ _ => clusterStatusCmd_clean

theorem clusterMoveAxisCmd_cl : clusterMoveAxisCmd.Clean := fun _ _ _ => clusterMoveAxisCmd_clean

theorem canCfgWriteCmd_cl : canCfgWriteCmd.Clean := fun _ _ _ => canCfgWriteCmd_clean

theorem canFilterWriteCmd_cl : canFilterWriteCmd.Clean := fun _ _ _ => canFilterWriteCmd_clean

theorem canSchedWriteCmd_cl : canSchedWriteCmd.Clean := fun _ _ _ => canSchedWriteCmd_clean

theorem canSafeWriteCmd_cl : canSafeWriteCmd.Clean := fun _ _ _ => canSafeWriteCmd_clean

theorem canAbortCmd_cl : canAbortCmd.Clean := fun _ _ _ => canAbortCmd_clean

theorem canRecoverCmd_cl : canRecoverCmd.Clean := fun _ _ _ => canRecoverCmd_clean

theorem canInfoCmd_cl : canInfoCmd.Clean := fun _ _ _ => canInfoCmd_clean

theorem canReadCmd_cl : canReadCmd.Clean := fun _ _ _ => canReadCmd_clean

theorem traceCfgWriteCmd_cl : traceCfgWriteCmd.Clean := fun _ _ _ => traceCfgWriteCmd_clean

theorem traceSigWriteCmd_cl : traceSigWriteCmd.Clean := fun _ _ _ => traceSigWriteCmd_clean

theorem traceTrigWriteCmd_cl : traceTrigWriteCmd.Clean := fun _ _ _ => traceTrigWriteCmd_clean

theorem traceArmCmd_cl : traceArmCmd.Clean := fun _ _ _ => traceArmCmd_clean

theorem traceStopCmd_cl : traceStopCmd.Clean := fun _ _ _ => traceStopCmd_clean

theorem traceStatusCmd_cl : traceStatusCmd.Clean := fun _ _ _ => traceStatusCmd_clean

theorem filterJobStartCmd_cl : filterJobStartCmd.Clean := fun _ _ _ => filterJobStartCmd_clean

theorem filterJobStatusCmd_cl : filterJobStatusCmd.Clean := fun _ _ _ => filterJobStatusCmd_clean

theorem filterJobAbortCmd_cl : filterJobAbortCmd.Clean := fun _ _ _ => filterJobAbortCmd_clean

theorem eventClassWriteCmd_cl : eventClassWriteCmd.Clean := fun _ _ _ => eventClassWriteCmd_clean

theorem eventClassReadCmd_cl : eventClassReadCmd.Clean := fun _ _ _ => eventClassReadCmd_clean

theorem bbrReadCmd_cl : bbrReadCmd.Clean := fun _ _ _ => bbrReadCmd_clean

theorem bbrWriteCmd_cl : bbrWriteCmd.Clean := fun _ _ _ => bbrWriteCmd_clean

theorem fwWriteCmd_cl : fwWriteCmd.Clean := fun _ _ _ => fwWriteCmd_clean

theorem fwVerifyCmd_cl : fwVerifyCmd.Clean := fun _ _ _ => fwVerifyCmd_clean

theorem fwActivateCmd_cl : fwActivateCmd.Clean := fun _ _ _ => fwActivateCmd_clean

theorem fwInfoCmd_cl : fwInfoCmd.Clean := fun _ _ _ => fwInfoCmd_clean

theorem diagActReadCmd_cl : diagActReadCmd.Clean := fun _ _ _ => diagActReadCmd_clean

theorem diagHeadroomReadCmd_cl : diagHeadroomReadCmd.Clean := fun _ _ _ => diagHeadroomReadCmd_clean

theorem diagChainCountersCmd_cl : diagChainCountersCmd.Clean := fun _ _ _ => diagChainCountersCmd_clean

theorem diagSchedReadCmd_cl : diagSchedReadCmd.Clean := fun _ _ _ => diagSchedReadCmd_clean

theorem diagQueueSnapshotCmd_cl : diagQueueSnapshotCmd.Clean := fun _ _ _ => diagQueueSnapshotCmd_clean

theorem diagLoopCountersCmd_cl : diagLoopCountersCmd.Clean := fun _ _ _ => diagLoopCountersCmd_clean

theorem diagCanCountersCmd_cl : diagCanCountersCmd.Clean := fun _ _ _ => diagCanCountersCmd_clean

theorem diagCoreTestCmd_cl : diagCoreTestCmd.Clean := fun _ _ _ => diagCoreTestCmd_clean

theorem diagMemStatusCmd_cl : diagMemStatusCmd.Clean := fun _ _ _ => diagMemStatusCmd_clean

theorem group01_clean : ∀ c ∈ group01, c.Clean := by
  simp [group01, sysIdentCmd_cl, sysResetCmd_cl, sysNopCmd_cl]

theorem group02_clean : ∀ c ∈ group02, c.Clean := by
  simp [group02, modeReadCmd_cl, modeSetCmd_cl]

theorem group03_clean : ∀ c ∈ group03, c.Clean := by
  simp [group03, gearReadCmd_cl, gearSetCmd_cl, gearShiftCmd_cl]

theorem group04_clean : ∀ c ∈ group04, c.Clean := by
  simp [group04, chainCfgWriteCmd_cl, chainCfgReadCmd_cl, chainSupvWriteCmd_cl, chainGuardWriteCmd_cl, chainMissAtWriteCmd_cl, chainSupvReadCmd_cl, chainNodeReadCmd_cl, chainNodeWriteCmd_cl, chainDescReadCmd_cl, chainCensusReadCmd_cl, chainDelayReadCmd_cl]

theorem group05_clean : ∀ c ∈ group05, c.Clean := by
  simp [group05, tableWinWriteCmd_cl, tableMapWriteCmd_cl, tableNodeWriteCmd_cl, tableBudgetWriteCmd_cl, tableReadCmd_cl, tableStageCmd_cl, tableCommitCmd_cl]

theorem group06_clean : ∀ c ∈ group06, c.Clean := by
  simp [group06, timeReadCmd_cl, timeStageCmd_cl, timeRateCmd_cl, timeCpWriteCmd_cl, timeCapCfgCmd_cl, timeCapReadCmd_cl]

theorem group07_clean : ∀ c ∈ group07, c.Clean := by
  simp [group07, axisEnableCmd_cl, axisDisableCmd_cl, axisStatusReadCmd_cl, axisPrfCfgWriteCmd_cl, axisPrfCfgReadCmd_cl, axisMissWindowCmd_cl, axisStreamInfoCmd_cl, axisAuxWriteCmd_cl]

theorem group08_clean : ∀ c ∈ group08, c.Clean := by
  simp [group08, moveStartCmd_cl, moveQuickStopCmd_cl, moveHoldCmd_cl, moveResumeCmd_cl, moveAbortCmd_cl, moveSetStopCmd_cl]

theorem group09_clean : ∀ c ∈ group09, c.Clean := by
  simp [group09, loopCfgWriteCmd_cl, loopCfgReadCmd_cl, loopCurWriteCmd_cl, loopCoefWriteCmd_cl, loopParamWriteCmd_cl, loopReadyCmd_cl, loopSwapCmd_cl, loopCoefReadCmd_cl]

theorem group0A_clean : ∀ c ∈ group0A, c.Clean := by
  simp [group0A, pulsePinCfgCmd_cl, pulseStpCfgCmd_cl, pulseReadCmd_cl]

theorem group0B_clean : ∀ c ∈ group0B, c.Clean := by
  simp [group0B, feedbackCfgWriteCmd_cl, feedbackCfgReadCmd_cl, feedbackResultReadCmd_cl, feedbackSingleReadCmd_cl]

theorem group0C_clean : ∀ c ∈ group0C, c.Clean := by
  simp [group0C, adcCfgWriteCmd_cl, adcSeqWriteCmd_cl, adcStartCmd_cl, adcResultReadCmd_cl, adcStatReadCmd_cl]

theorem group0D_clean : ∀ c ∈ group0D, c.Clean := by
  simp [group0D, envReadCmd_cl, envClampReadCmd_cl]

theorem group0E_clean : ∀ c ∈ group0E, c.Clean := by
  simp [group0E, safeCfgWriteCmd_cl, safeZoneWriteCmd_cl, safeAxisWriteCmd_cl, safeSiWriteCmd_cl, safeReadCmd_cl, safeConfirmCmd_cl, safeDemandCmd_cl, safeStatusCmd_cl]

theorem group0F_clean : ∀ c ∈ group0F, c.Clean := by
  simp [group0F, twinCfgWriteCmd_cl, twinStatusCmd_cl, twinSwapCmd_cl]

theorem group10_clean : ∀ c ∈ group10, c.Clean := by
  simp [group10, clusterCfgWriteCmd_cl, clusterStatusCmd_cl, clusterMoveAxisCmd_cl]

theorem group11_clean : ∀ c ∈ group11, c.Clean := by
  simp [group11, canCfgWriteCmd_cl, canFilterWriteCmd_cl, canSchedWriteCmd_cl, canSafeWriteCmd_cl, canAbortCmd_cl, canRecoverCmd_cl, canInfoCmd_cl, canReadCmd_cl]

theorem group12_clean : ∀ c ∈ group12, c.Clean := by
  simp [group12, traceCfgWriteCmd_cl, traceSigWriteCmd_cl, traceTrigWriteCmd_cl, traceArmCmd_cl, traceStopCmd_cl, traceStatusCmd_cl]

theorem group13_clean : ∀ c ∈ group13, c.Clean := by
  simp [group13, filterJobStartCmd_cl, filterJobStatusCmd_cl, filterJobAbortCmd_cl]

theorem group14_clean : ∀ c ∈ group14, c.Clean := by
  simp [group14, eventClassWriteCmd_cl, eventClassReadCmd_cl]

theorem group15_clean : ∀ c ∈ group15, c.Clean := by
  simp [group15, bbrReadCmd_cl, bbrWriteCmd_cl]

theorem group16_clean : ∀ c ∈ group16, c.Clean := by
  simp [group16, fwWriteCmd_cl, fwVerifyCmd_cl, fwActivateCmd_cl, fwInfoCmd_cl]

theorem group17_clean : ∀ c ∈ group17, c.Clean := by
  simp [group17, diagActReadCmd_cl, diagHeadroomReadCmd_cl, diagChainCountersCmd_cl, diagSchedReadCmd_cl, diagQueueSnapshotCmd_cl, diagLoopCountersCmd_cl, diagCanCountersCmd_cl, diagCoreTestCmd_cl, diagMemStatusCmd_cl]

theorem catalogue_clean : ∀ c ∈ catalogue, c.Clean := by
  unfold catalogue
  exact List.forall_mem_append.2 ⟨List.forall_mem_append.2 ⟨List.forall_mem_append.2 ⟨List.forall_mem_append.2 ⟨List.forall_mem_append.2 ⟨List.forall_mem_append.2 ⟨List.forall_mem_append.2 ⟨List.forall_mem_append.2 ⟨List.forall_mem_append.2 ⟨List.forall_mem_append.2 ⟨List.forall_mem_append.2 ⟨List.forall_mem_append.2 ⟨List.forall_mem_append.2 ⟨List.forall_mem_append.2 ⟨List.forall_mem_append.2 ⟨List.forall_mem_append.2 ⟨List.forall_mem_append.2 ⟨List.forall_mem_append.2 ⟨List.forall_mem_append.2 ⟨List.forall_mem_append.2 ⟨List.forall_mem_append.2 ⟨List.forall_mem_append.2 ⟨group01_clean, group02_clean⟩, group03_clean⟩, group04_clean⟩, group05_clean⟩, group06_clean⟩, group07_clean⟩, group08_clean⟩, group09_clean⟩, group0A_clean⟩, group0B_clean⟩, group0C_clean⟩, group0D_clean⟩, group0E_clean⟩, group0F_clean⟩, group10_clean⟩, group11_clean⟩, group12_clean⟩, group13_clean⟩, group14_clean⟩, group15_clean⟩, group16_clean⟩, group17_clean⟩

end Sys2Proof.Machine
end

