-- ==== Sys2Proof/Laws/State.lean ====
section
/-!
SUPPORT. What each named update of the state leaves alone, field by field, and what it puts in place: no later proof unfolds a
record update. (The memories: `Sys2Proof.Laws.OpsMem`.)
-/
namespace Sys2Proof.Machine

/-! ### `State.to`: an instant of the device -/

@[simp] theorem State.to_pending (s : State) (t : Nat) : (s.to t).pending = s.pending := rfl
@[simp] theorem State.to_free (s : State) (t : Nat) : (s.to t).free = s.free := rfl
@[simp] theorem State.to_straps (s : State) (t : Nat) : (s.to t).straps = s.straps := rfl
@[simp] theorem State.to_md (s : State) (t : Nat) : (s.to t).md = s.md := rfl
@[simp] theorem State.to_startup (s : State) (t : Nat) : (s.to t).startup = s.startup := rfl
@[simp] theorem State.to_host (s : State) (t : Nat) : (s.to t).host = s.host := rfl
@[simp] theorem State.to_irq (s : State) (t : Nat) : (s.to t).irq = s.irq := rfl
@[simp] theorem State.to_port (s : State) (t : Nat) : (s.to t).port = s.port := rfl
@[simp] theorem State.to_env (s : State) (t : Nat) : (s.to t).env = s.env := rfl
@[simp] theorem State.to_bbr (s : State) (t : Nat) : (s.to t).bbr = s.bbr := rfl
@[simp] theorem State.to_fw (s : State) (t : Nat) : (s.to t).fw = s.fw := rfl
@[simp] theorem State.to_ch0 (s : State) (t : Nat) : (s.to t).ch0 = s.ch0 := rfl
@[simp] theorem State.to_ch1 (s : State) (t : Nat) : (s.to t).ch1 = s.ch1 := rfl
@[simp] theorem State.to_budget (s : State) (t : Nat) : (s.to t).budget = s.budget := rfl
@[simp] theorem State.to_room (s : State) (t : Nat) : (s.to t).room = s.room := rfl
@[simp] theorem State.to_pend (s : State) (t : Nat) : (s.to t).pend = s.pend := rfl
@[simp] theorem State.to_axes (s : State) (t : Nat) : (s.to t).axes = s.axes := rfl
@[simp] theorem State.to_sched (s : State) (t : Nat) : (s.to t).sched = s.sched := rfl
@[simp] theorem State.to_faults (s : State) (t : Nat) : (s.to t).faults = s.faults := rfl
@[simp] theorem State.to_power (s : State) (t : Nat) : (s.to t).power = s.power := rfl
@[simp] theorem State.to_safe (s : State) (t : Nat) : (s.to t).safe = s.safe := rfl
@[simp] theorem State.to_twin (s : State) (t : Nat) : (s.to t).twin = s.twin := rfl
@[simp] theorem State.to_link (s : State) (t : Nat) : (s.to t).link = s.link := rfl
@[simp] theorem State.to_clu (s : State) (t : Nat) : (s.to t).clu = s.clu := rfl
@[simp] theorem State.to_can (s : State) (t : Nat) : (s.to t).can = s.can := rfl
@[simp] theorem State.to_trace (s : State) (t : Nat) : (s.to t).trace = s.trace := rfl
@[simp] theorem State.to_jobs (s : State) (t : Nat) : (s.to t).jobs = s.jobs := rfl
@[simp] theorem State.to_arb (s : State) (t : Nat) : (s.to t).arb = s.arb := rfl
@[simp] theorem State.to_pins (s : State) (t : Nat) : (s.to t).pins = s.pins := rfl

/-! ### `State.by`: an instant of the environment -/

@[simp] theorem State.by_pending (s : State) (t : Nat) : (s.by t).pending = s.pending := rfl
@[simp] theorem State.by_free (s : State) (t : Nat) : (s.by t).free = s.free := rfl
@[simp] theorem State.by_straps (s : State) (t : Nat) : (s.by t).straps = s.straps := rfl
@[simp] theorem State.by_md (s : State) (t : Nat) : (s.by t).md = s.md := rfl
@[simp] theorem State.by_startup (s : State) (t : Nat) : (s.by t).startup = s.startup := rfl
@[simp] theorem State.by_host (s : State) (t : Nat) : (s.by t).host = s.host := rfl
@[simp] theorem State.by_irq (s : State) (t : Nat) : (s.by t).irq = s.irq := rfl
@[simp] theorem State.by_port (s : State) (t : Nat) : (s.by t).port = s.port := rfl
@[simp] theorem State.by_env (s : State) (t : Nat) : (s.by t).env = s.env := rfl
@[simp] theorem State.by_bbr (s : State) (t : Nat) : (s.by t).bbr = s.bbr := rfl
@[simp] theorem State.by_fw (s : State) (t : Nat) : (s.by t).fw = s.fw := rfl
@[simp] theorem State.by_ch0 (s : State) (t : Nat) : (s.by t).ch0 = s.ch0 := rfl
@[simp] theorem State.by_ch1 (s : State) (t : Nat) : (s.by t).ch1 = s.ch1 := rfl
@[simp] theorem State.by_budget (s : State) (t : Nat) : (s.by t).budget = s.budget := rfl
@[simp] theorem State.by_room (s : State) (t : Nat) : (s.by t).room = s.room := rfl
@[simp] theorem State.by_pend (s : State) (t : Nat) : (s.by t).pend = s.pend := rfl
@[simp] theorem State.by_axes (s : State) (t : Nat) : (s.by t).axes = s.axes := rfl
@[simp] theorem State.by_sched (s : State) (t : Nat) : (s.by t).sched = s.sched := rfl
@[simp] theorem State.by_faults (s : State) (t : Nat) : (s.by t).faults = s.faults := rfl
@[simp] theorem State.by_power (s : State) (t : Nat) : (s.by t).power = s.power := rfl
@[simp] theorem State.by_safe (s : State) (t : Nat) : (s.by t).safe = s.safe := rfl
@[simp] theorem State.by_twin (s : State) (t : Nat) : (s.by t).twin = s.twin := rfl
@[simp] theorem State.by_link (s : State) (t : Nat) : (s.by t).link = s.link := rfl
@[simp] theorem State.by_clu (s : State) (t : Nat) : (s.by t).clu = s.clu := rfl
@[simp] theorem State.by_can (s : State) (t : Nat) : (s.by t).can = s.can := rfl
@[simp] theorem State.by_trace (s : State) (t : Nat) : (s.by t).trace = s.trace := rfl
@[simp] theorem State.by_jobs (s : State) (t : Nat) : (s.by t).jobs = s.jobs := rfl
@[simp] theorem State.by_arb (s : State) (t : Nat) : (s.by t).arb = s.arb := rfl
@[simp] theorem State.by_pins (s : State) (t : Nat) : (s.by t).pins = s.pins := rfl

/-! ### `State.signal`: a pending bit -/

@[simp] theorem State.signal_pending (s : State) (e : Nat) : (s.signal e).pending = s.pending := rfl
@[simp] theorem State.signal_free (s : State) (e : Nat) : (s.signal e).free = s.free := rfl
@[simp] theorem State.signal_clk (s : State) (e : Nat) : (s.signal e).clk = s.clk := rfl
@[simp] theorem State.signal_straps (s : State) (e : Nat) : (s.signal e).straps = s.straps := rfl
@[simp] theorem State.signal_md (s : State) (e : Nat) : (s.signal e).md = s.md := rfl
@[simp] theorem State.signal_startup (s : State) (e : Nat) : (s.signal e).startup = s.startup := rfl
@[simp] theorem State.signal_host (s : State) (e : Nat) : (s.signal e).host = s.host := rfl
@[simp] theorem State.signal_port (s : State) (e : Nat) : (s.signal e).port = s.port := rfl
@[simp] theorem State.signal_env (s : State) (e : Nat) : (s.signal e).env = s.env := rfl
@[simp] theorem State.signal_bbr (s : State) (e : Nat) : (s.signal e).bbr = s.bbr := rfl
@[simp] theorem State.signal_fw (s : State) (e : Nat) : (s.signal e).fw = s.fw := rfl
@[simp] theorem State.signal_ch0 (s : State) (e : Nat) : (s.signal e).ch0 = s.ch0 := rfl
@[simp] theorem State.signal_ch1 (s : State) (e : Nat) : (s.signal e).ch1 = s.ch1 := rfl
@[simp] theorem State.signal_budget (s : State) (e : Nat) : (s.signal e).budget = s.budget := rfl
@[simp] theorem State.signal_room (s : State) (e : Nat) : (s.signal e).room = s.room := rfl
@[simp] theorem State.signal_pend (s : State) (e : Nat) : (s.signal e).pend = s.pend := rfl
@[simp] theorem State.signal_axes (s : State) (e : Nat) : (s.signal e).axes = s.axes := rfl
@[simp] theorem State.signal_sched (s : State) (e : Nat) : (s.signal e).sched = s.sched := rfl
@[simp] theorem State.signal_faults (s : State) (e : Nat) : (s.signal e).faults = s.faults := rfl
@[simp] theorem State.signal_power (s : State) (e : Nat) : (s.signal e).power = s.power := rfl
@[simp] theorem State.signal_safe (s : State) (e : Nat) : (s.signal e).safe = s.safe := rfl
@[simp] theorem State.signal_twin (s : State) (e : Nat) : (s.signal e).twin = s.twin := rfl
@[simp] theorem State.signal_link (s : State) (e : Nat) : (s.signal e).link = s.link := rfl
@[simp] theorem State.signal_clu (s : State) (e : Nat) : (s.signal e).clu = s.clu := rfl
@[simp] theorem State.signal_can (s : State) (e : Nat) : (s.signal e).can = s.can := rfl
@[simp] theorem State.signal_trace (s : State) (e : Nat) : (s.signal e).trace = s.trace := rfl
@[simp] theorem State.signal_jobs (s : State) (e : Nat) : (s.signal e).jobs = s.jobs := rfl
@[simp] theorem State.signal_arb (s : State) (e : Nat) : (s.signal e).arb = s.arb := rfl
@[simp] theorem State.signal_pins (s : State) (e : Nat) : (s.signal e).pins = s.pins := rfl

/-! ### `State.takeSlot`: a taken command -/

@[simp] theorem State.takeSlot_pending (s : State) : (s.takeSlot).pending = s.pending := rfl
@[simp] theorem State.takeSlot_free (s : State) : (s.takeSlot).free = s.free := rfl
@[simp] theorem State.takeSlot_clk (s : State) : (s.takeSlot).clk = s.clk := rfl
@[simp] theorem State.takeSlot_straps (s : State) : (s.takeSlot).straps = s.straps := rfl
@[simp] theorem State.takeSlot_md (s : State) : (s.takeSlot).md = s.md := rfl
@[simp] theorem State.takeSlot_startup (s : State) : (s.takeSlot).startup = s.startup := rfl
@[simp] theorem State.takeSlot_irq (s : State) : (s.takeSlot).irq = s.irq := rfl
@[simp] theorem State.takeSlot_port (s : State) : (s.takeSlot).port = s.port := rfl
@[simp] theorem State.takeSlot_env (s : State) : (s.takeSlot).env = s.env := rfl
@[simp] theorem State.takeSlot_bbr (s : State) : (s.takeSlot).bbr = s.bbr := rfl
@[simp] theorem State.takeSlot_fw (s : State) : (s.takeSlot).fw = s.fw := rfl
@[simp] theorem State.takeSlot_ch0 (s : State) : (s.takeSlot).ch0 = s.ch0 := rfl
@[simp] theorem State.takeSlot_ch1 (s : State) : (s.takeSlot).ch1 = s.ch1 := rfl
@[simp] theorem State.takeSlot_budget (s : State) : (s.takeSlot).budget = s.budget := rfl
@[simp] theorem State.takeSlot_room (s : State) : (s.takeSlot).room = s.room := rfl
@[simp] theorem State.takeSlot_pend (s : State) : (s.takeSlot).pend = s.pend := rfl
@[simp] theorem State.takeSlot_axes (s : State) : (s.takeSlot).axes = s.axes := rfl
@[simp] theorem State.takeSlot_sched (s : State) : (s.takeSlot).sched = s.sched := rfl
@[simp] theorem State.takeSlot_faults (s : State) : (s.takeSlot).faults = s.faults := rfl
@[simp] theorem State.takeSlot_power (s : State) : (s.takeSlot).power = s.power := rfl
@[simp] theorem State.takeSlot_safe (s : State) : (s.takeSlot).safe = s.safe := rfl
@[simp] theorem State.takeSlot_twin (s : State) : (s.takeSlot).twin = s.twin := rfl
@[simp] theorem State.takeSlot_link (s : State) : (s.takeSlot).link = s.link := rfl
@[simp] theorem State.takeSlot_clu (s : State) : (s.takeSlot).clu = s.clu := rfl
@[simp] theorem State.takeSlot_can (s : State) : (s.takeSlot).can = s.can := rfl
@[simp] theorem State.takeSlot_trace (s : State) : (s.takeSlot).trace = s.trace := rfl
@[simp] theorem State.takeSlot_jobs (s : State) : (s.takeSlot).jobs = s.jobs := rfl
@[simp] theorem State.takeSlot_arb (s : State) : (s.takeSlot).arb = s.arb := rfl
@[simp] theorem State.takeSlot_pins (s : State) : (s.takeSlot).pins = s.pins := rfl

/-! ### `State.setAx`: an axis -/

@[simp] theorem State.setAx_pending (s : State) (i : Nat) (x : Axis) : (s.setAx i x).pending = s.pending := rfl
@[simp] theorem State.setAx_free (s : State) (i : Nat) (x : Axis) : (s.setAx i x).free = s.free := rfl
@[simp] theorem State.setAx_clk (s : State) (i : Nat) (x : Axis) : (s.setAx i x).clk = s.clk := rfl
@[simp] theorem State.setAx_straps (s : State) (i : Nat) (x : Axis) : (s.setAx i x).straps = s.straps := rfl
@[simp] theorem State.setAx_md (s : State) (i : Nat) (x : Axis) : (s.setAx i x).md = s.md := rfl
@[simp] theorem State.setAx_startup (s : State) (i : Nat) (x : Axis) : (s.setAx i x).startup = s.startup := rfl
@[simp] theorem State.setAx_host (s : State) (i : Nat) (x : Axis) : (s.setAx i x).host = s.host := rfl
@[simp] theorem State.setAx_irq (s : State) (i : Nat) (x : Axis) : (s.setAx i x).irq = s.irq := rfl
@[simp] theorem State.setAx_port (s : State) (i : Nat) (x : Axis) : (s.setAx i x).port = s.port := rfl
@[simp] theorem State.setAx_env (s : State) (i : Nat) (x : Axis) : (s.setAx i x).env = s.env := rfl
@[simp] theorem State.setAx_bbr (s : State) (i : Nat) (x : Axis) : (s.setAx i x).bbr = s.bbr := rfl
@[simp] theorem State.setAx_fw (s : State) (i : Nat) (x : Axis) : (s.setAx i x).fw = s.fw := rfl
@[simp] theorem State.setAx_ch0 (s : State) (i : Nat) (x : Axis) : (s.setAx i x).ch0 = s.ch0 := rfl
@[simp] theorem State.setAx_ch1 (s : State) (i : Nat) (x : Axis) : (s.setAx i x).ch1 = s.ch1 := rfl
@[simp] theorem State.setAx_budget (s : State) (i : Nat) (x : Axis) : (s.setAx i x).budget = s.budget := rfl
@[simp] theorem State.setAx_room (s : State) (i : Nat) (x : Axis) : (s.setAx i x).room = s.room := rfl
@[simp] theorem State.setAx_pend (s : State) (i : Nat) (x : Axis) : (s.setAx i x).pend = s.pend := rfl
@[simp] theorem State.setAx_sched (s : State) (i : Nat) (x : Axis) : (s.setAx i x).sched = s.sched := rfl
@[simp] theorem State.setAx_faults (s : State) (i : Nat) (x : Axis) : (s.setAx i x).faults = s.faults := rfl
@[simp] theorem State.setAx_power (s : State) (i : Nat) (x : Axis) : (s.setAx i x).power = s.power := rfl
@[simp] theorem State.setAx_safe (s : State) (i : Nat) (x : Axis) : (s.setAx i x).safe = s.safe := rfl
@[simp] theorem State.setAx_twin (s : State) (i : Nat) (x : Axis) : (s.setAx i x).twin = s.twin := rfl
@[simp] theorem State.setAx_link (s : State) (i : Nat) (x : Axis) : (s.setAx i x).link = s.link := rfl
@[simp] theorem State.setAx_clu (s : State) (i : Nat) (x : Axis) : (s.setAx i x).clu = s.clu := rfl
@[simp] theorem State.setAx_can (s : State) (i : Nat) (x : Axis) : (s.setAx i x).can = s.can := rfl
@[simp] theorem State.setAx_trace (s : State) (i : Nat) (x : Axis) : (s.setAx i x).trace = s.trace := rfl
@[simp] theorem State.setAx_jobs (s : State) (i : Nat) (x : Axis) : (s.setAx i x).jobs = s.jobs := rfl
@[simp] theorem State.setAx_arb (s : State) (i : Nat) (x : Axis) : (s.setAx i x).arb = s.arb := rfl
@[simp] theorem State.setAx_pins (s : State) (i : Nat) (x : Axis) : (s.setAx i x).pins = s.pins := rfl

/-! ### `State.updAx`: an axis -/

@[simp] theorem State.updAx_pending (s : State) (i : Nat) (f : Axis → Axis) : (s.updAx i f).pending = s.pending := rfl
@[simp] theorem State.updAx_free (s : State) (i : Nat) (f : Axis → Axis) : (s.updAx i f).free = s.free := rfl
@[simp] theorem State.updAx_clk (s : State) (i : Nat) (f : Axis → Axis) : (s.updAx i f).clk = s.clk := rfl
@[simp] theorem State.updAx_straps (s : State) (i : Nat) (f : Axis → Axis) : (s.updAx i f).straps = s.straps := rfl
@[simp] theorem State.updAx_md (s : State) (i : Nat) (f : Axis → Axis) : (s.updAx i f).md = s.md := rfl
@[simp] theorem State.updAx_startup (s : State) (i : Nat) (f : Axis → Axis) : (s.updAx i f).startup = s.startup := rfl
@[simp] theorem State.updAx_host (s : State) (i : Nat) (f : Axis → Axis) : (s.updAx i f).host = s.host := rfl
@[simp] theorem State.updAx_irq (s : State) (i : Nat) (f : Axis → Axis) : (s.updAx i f).irq = s.irq := rfl
@[simp] theorem State.updAx_port (s : State) (i : Nat) (f : Axis → Axis) : (s.updAx i f).port = s.port := rfl
@[simp] theorem State.updAx_env (s : State) (i : Nat) (f : Axis → Axis) : (s.updAx i f).env = s.env := rfl
@[simp] theorem State.updAx_bbr (s : State) (i : Nat) (f : Axis → Axis) : (s.updAx i f).bbr = s.bbr := rfl
@[simp] theorem State.updAx_fw (s : State) (i : Nat) (f : Axis → Axis) : (s.updAx i f).fw = s.fw := rfl
@[simp] theorem State.updAx_ch0 (s : State) (i : Nat) (f : Axis → Axis) : (s.updAx i f).ch0 = s.ch0 := rfl
@[simp] theorem State.updAx_ch1 (s : State) (i : Nat) (f : Axis → Axis) : (s.updAx i f).ch1 = s.ch1 := rfl
@[simp] theorem State.updAx_budget (s : State) (i : Nat) (f : Axis → Axis) : (s.updAx i f).budget = s.budget := rfl
@[simp] theorem State.updAx_room (s : State) (i : Nat) (f : Axis → Axis) : (s.updAx i f).room = s.room := rfl
@[simp] theorem State.updAx_pend (s : State) (i : Nat) (f : Axis → Axis) : (s.updAx i f).pend = s.pend := rfl
@[simp] theorem State.updAx_sched (s : State) (i : Nat) (f : Axis → Axis) : (s.updAx i f).sched = s.sched := rfl
@[simp] theorem State.updAx_faults (s : State) (i : Nat) (f : Axis → Axis) : (s.updAx i f).faults = s.faults := rfl
@[simp] theorem State.updAx_power (s : State) (i : Nat) (f : Axis → Axis) : (s.updAx i f).power = s.power := rfl
@[simp] theorem State.updAx_safe (s : State) (i : Nat) (f : Axis → Axis) : (s.updAx i f).safe = s.safe := rfl
@[simp] theorem State.updAx_twin (s : State) (i : Nat) (f : Axis → Axis) : (s.updAx i f).twin = s.twin := rfl
@[simp] theorem State.updAx_link (s : State) (i : Nat) (f : Axis → Axis) : (s.updAx i f).link = s.link := rfl
@[simp] theorem State.updAx_clu (s : State) (i : Nat) (f : Axis → Axis) : (s.updAx i f).clu = s.clu := rfl
@[simp] theorem State.updAx_can (s : State) (i : Nat) (f : Axis → Axis) : (s.updAx i f).can = s.can := rfl
@[simp] theorem State.updAx_trace (s : State) (i : Nat) (f : Axis → Axis) : (s.updAx i f).trace = s.trace := rfl
@[simp] theorem State.updAx_jobs (s : State) (i : Nat) (f : Axis → Axis) : (s.updAx i f).jobs = s.jobs := rfl
@[simp] theorem State.updAx_arb (s : State) (i : Nat) (f : Axis → Axis) : (s.updAx i f).arb = s.arb := rfl
@[simp] theorem State.updAx_pins (s : State) (i : Nat) (f : Axis → Axis) : (s.updAx i f).pins = s.pins := rfl

/-! ### `State.setPin`: a pulse input -/

@[simp] theorem State.setPin_pending (s : State) (n : Nat) (x : PulseIn) : (s.setPin n x).pending = s.pending := rfl
@[simp] theorem State.setPin_free (s : State) (n : Nat) (x : PulseIn) : (s.setPin n x).free = s.free := rfl
@[simp] theorem State.setPin_clk (s : State) (n : Nat) (x : PulseIn) : (s.setPin n x).clk = s.clk := rfl
@[simp] theorem State.setPin_straps (s : State) (n : Nat) (x : PulseIn) : (s.setPin n x).straps = s.straps := rfl
@[simp] theorem State.setPin_md (s : State) (n : Nat) (x : PulseIn) : (s.setPin n x).md = s.md := rfl
@[simp] theorem State.setPin_startup (s : State) (n : Nat) (x : PulseIn) : (s.setPin n x).startup = s.startup := rfl
@[simp] theorem State.setPin_host (s : State) (n : Nat) (x : PulseIn) : (s.setPin n x).host = s.host := rfl
@[simp] theorem State.setPin_irq (s : State) (n : Nat) (x : PulseIn) : (s.setPin n x).irq = s.irq := rfl
@[simp] theorem State.setPin_port (s : State) (n : Nat) (x : PulseIn) : (s.setPin n x).port = s.port := rfl
@[simp] theorem State.setPin_env (s : State) (n : Nat) (x : PulseIn) : (s.setPin n x).env = s.env := rfl
@[simp] theorem State.setPin_bbr (s : State) (n : Nat) (x : PulseIn) : (s.setPin n x).bbr = s.bbr := rfl
@[simp] theorem State.setPin_fw (s : State) (n : Nat) (x : PulseIn) : (s.setPin n x).fw = s.fw := rfl
@[simp] theorem State.setPin_ch0 (s : State) (n : Nat) (x : PulseIn) : (s.setPin n x).ch0 = s.ch0 := rfl
@[simp] theorem State.setPin_ch1 (s : State) (n : Nat) (x : PulseIn) : (s.setPin n x).ch1 = s.ch1 := rfl
@[simp] theorem State.setPin_budget (s : State) (n : Nat) (x : PulseIn) : (s.setPin n x).budget = s.budget := rfl
@[simp] theorem State.setPin_room (s : State) (n : Nat) (x : PulseIn) : (s.setPin n x).room = s.room := rfl
@[simp] theorem State.setPin_pend (s : State) (n : Nat) (x : PulseIn) : (s.setPin n x).pend = s.pend := rfl
@[simp] theorem State.setPin_axes (s : State) (n : Nat) (x : PulseIn) : (s.setPin n x).axes = s.axes := rfl
@[simp] theorem State.setPin_sched (s : State) (n : Nat) (x : PulseIn) : (s.setPin n x).sched = s.sched := rfl
@[simp] theorem State.setPin_faults (s : State) (n : Nat) (x : PulseIn) : (s.setPin n x).faults = s.faults := rfl
@[simp] theorem State.setPin_power (s : State) (n : Nat) (x : PulseIn) : (s.setPin n x).power = s.power := rfl
@[simp] theorem State.setPin_safe (s : State) (n : Nat) (x : PulseIn) : (s.setPin n x).safe = s.safe := rfl
@[simp] theorem State.setPin_twin (s : State) (n : Nat) (x : PulseIn) : (s.setPin n x).twin = s.twin := rfl
@[simp] theorem State.setPin_link (s : State) (n : Nat) (x : PulseIn) : (s.setPin n x).link = s.link := rfl
@[simp] theorem State.setPin_clu (s : State) (n : Nat) (x : PulseIn) : (s.setPin n x).clu = s.clu := rfl
@[simp] theorem State.setPin_can (s : State) (n : Nat) (x : PulseIn) : (s.setPin n x).can = s.can := rfl
@[simp] theorem State.setPin_trace (s : State) (n : Nat) (x : PulseIn) : (s.setPin n x).trace = s.trace := rfl
@[simp] theorem State.setPin_jobs (s : State) (n : Nat) (x : PulseIn) : (s.setPin n x).jobs = s.jobs := rfl
@[simp] theorem State.setPin_arb (s : State) (n : Nat) (x : PulseIn) : (s.setPin n x).arb = s.arb := rfl

/-! ### `State.setStp`: a step port -/

@[simp] theorem State.setStp_pending (s : State) (n : Nat) (x : StepPort) : (s.setStp n x).pending = s.pending := rfl
@[simp] theorem State.setStp_free (s : State) (n : Nat) (x : StepPort) : (s.setStp n x).free = s.free := rfl
@[simp] theorem State.setStp_clk (s : State) (n : Nat) (x : StepPort) : (s.setStp n x).clk = s.clk := rfl
@[simp] theorem State.setStp_straps (s : State) (n : Nat) (x : StepPort) : (s.setStp n x).straps = s.straps := rfl
@[simp] theorem State.setStp_md (s : State) (n : Nat) (x : StepPort) : (s.setStp n x).md = s.md := rfl
@[simp] theorem State.setStp_startup (s : State) (n : Nat) (x : StepPort) : (s.setStp n x).startup = s.startup := rfl
@[simp] theorem State.setStp_host (s : State) (n : Nat) (x : StepPort) : (s.setStp n x).host = s.host := rfl
@[simp] theorem State.setStp_irq (s : State) (n : Nat) (x : StepPort) : (s.setStp n x).irq = s.irq := rfl
@[simp] theorem State.setStp_port (s : State) (n : Nat) (x : StepPort) : (s.setStp n x).port = s.port := rfl
@[simp] theorem State.setStp_env (s : State) (n : Nat) (x : StepPort) : (s.setStp n x).env = s.env := rfl
@[simp] theorem State.setStp_bbr (s : State) (n : Nat) (x : StepPort) : (s.setStp n x).bbr = s.bbr := rfl
@[simp] theorem State.setStp_fw (s : State) (n : Nat) (x : StepPort) : (s.setStp n x).fw = s.fw := rfl
@[simp] theorem State.setStp_ch0 (s : State) (n : Nat) (x : StepPort) : (s.setStp n x).ch0 = s.ch0 := rfl
@[simp] theorem State.setStp_ch1 (s : State) (n : Nat) (x : StepPort) : (s.setStp n x).ch1 = s.ch1 := rfl
@[simp] theorem State.setStp_budget (s : State) (n : Nat) (x : StepPort) : (s.setStp n x).budget = s.budget := rfl
@[simp] theorem State.setStp_room (s : State) (n : Nat) (x : StepPort) : (s.setStp n x).room = s.room := rfl
@[simp] theorem State.setStp_pend (s : State) (n : Nat) (x : StepPort) : (s.setStp n x).pend = s.pend := rfl
@[simp] theorem State.setStp_axes (s : State) (n : Nat) (x : StepPort) : (s.setStp n x).axes = s.axes := rfl
@[simp] theorem State.setStp_sched (s : State) (n : Nat) (x : StepPort) : (s.setStp n x).sched = s.sched := rfl
@[simp] theorem State.setStp_faults (s : State) (n : Nat) (x : StepPort) : (s.setStp n x).faults = s.faults := rfl
@[simp] theorem State.setStp_power (s : State) (n : Nat) (x : StepPort) : (s.setStp n x).power = s.power := rfl
@[simp] theorem State.setStp_safe (s : State) (n : Nat) (x : StepPort) : (s.setStp n x).safe = s.safe := rfl
@[simp] theorem State.setStp_twin (s : State) (n : Nat) (x : StepPort) : (s.setStp n x).twin = s.twin := rfl
@[simp] theorem State.setStp_link (s : State) (n : Nat) (x : StepPort) : (s.setStp n x).link = s.link := rfl
@[simp] theorem State.setStp_clu (s : State) (n : Nat) (x : StepPort) : (s.setStp n x).clu = s.clu := rfl
@[simp] theorem State.setStp_can (s : State) (n : Nat) (x : StepPort) : (s.setStp n x).can = s.can := rfl
@[simp] theorem State.setStp_trace (s : State) (n : Nat) (x : StepPort) : (s.setStp n x).trace = s.trace := rfl
@[simp] theorem State.setStp_jobs (s : State) (n : Nat) (x : StepPort) : (s.setStp n x).jobs = s.jobs := rfl
@[simp] theorem State.setStp_arb (s : State) (n : Nat) (x : StepPort) : (s.setStp n x).arb = s.arb := rfl

/-! ### `State.setFb`: a feedback port -/

@[simp] theorem State.setFb_pending (s : State) (n : Nat) (x : FbPort) : (s.setFb n x).pending = s.pending := rfl
@[simp] theorem State.setFb_free (s : State) (n : Nat) (x : FbPort) : (s.setFb n x).free = s.free := rfl
@[simp] theorem State.setFb_clk (s : State) (n : Nat) (x : FbPort) : (s.setFb n x).clk = s.clk := rfl
@[simp] theorem State.setFb_straps (s : State) (n : Nat) (x : FbPort) : (s.setFb n x).straps = s.straps := rfl
@[simp] theorem State.setFb_md (s : State) (n : Nat) (x : FbPort) : (s.setFb n x).md = s.md := rfl
@[simp] theorem State.setFb_startup (s : State) (n : Nat) (x : FbPort) : (s.setFb n x).startup = s.startup := rfl
@[simp] theorem State.setFb_host (s : State) (n : Nat) (x : FbPort) : (s.setFb n x).host = s.host := rfl
@[simp] theorem State.setFb_irq (s : State) (n : Nat) (x : FbPort) : (s.setFb n x).irq = s.irq := rfl
@[simp] theorem State.setFb_port (s : State) (n : Nat) (x : FbPort) : (s.setFb n x).port = s.port := rfl
@[simp] theorem State.setFb_env (s : State) (n : Nat) (x : FbPort) : (s.setFb n x).env = s.env := rfl
@[simp] theorem State.setFb_bbr (s : State) (n : Nat) (x : FbPort) : (s.setFb n x).bbr = s.bbr := rfl
@[simp] theorem State.setFb_fw (s : State) (n : Nat) (x : FbPort) : (s.setFb n x).fw = s.fw := rfl
@[simp] theorem State.setFb_ch0 (s : State) (n : Nat) (x : FbPort) : (s.setFb n x).ch0 = s.ch0 := rfl
@[simp] theorem State.setFb_ch1 (s : State) (n : Nat) (x : FbPort) : (s.setFb n x).ch1 = s.ch1 := rfl
@[simp] theorem State.setFb_budget (s : State) (n : Nat) (x : FbPort) : (s.setFb n x).budget = s.budget := rfl
@[simp] theorem State.setFb_room (s : State) (n : Nat) (x : FbPort) : (s.setFb n x).room = s.room := rfl
@[simp] theorem State.setFb_pend (s : State) (n : Nat) (x : FbPort) : (s.setFb n x).pend = s.pend := rfl
@[simp] theorem State.setFb_axes (s : State) (n : Nat) (x : FbPort) : (s.setFb n x).axes = s.axes := rfl
@[simp] theorem State.setFb_sched (s : State) (n : Nat) (x : FbPort) : (s.setFb n x).sched = s.sched := rfl
@[simp] theorem State.setFb_faults (s : State) (n : Nat) (x : FbPort) : (s.setFb n x).faults = s.faults := rfl
@[simp] theorem State.setFb_power (s : State) (n : Nat) (x : FbPort) : (s.setFb n x).power = s.power := rfl
@[simp] theorem State.setFb_safe (s : State) (n : Nat) (x : FbPort) : (s.setFb n x).safe = s.safe := rfl
@[simp] theorem State.setFb_twin (s : State) (n : Nat) (x : FbPort) : (s.setFb n x).twin = s.twin := rfl
@[simp] theorem State.setFb_link (s : State) (n : Nat) (x : FbPort) : (s.setFb n x).link = s.link := rfl
@[simp] theorem State.setFb_clu (s : State) (n : Nat) (x : FbPort) : (s.setFb n x).clu = s.clu := rfl
@[simp] theorem State.setFb_can (s : State) (n : Nat) (x : FbPort) : (s.setFb n x).can = s.can := rfl
@[simp] theorem State.setFb_trace (s : State) (n : Nat) (x : FbPort) : (s.setFb n x).trace = s.trace := rfl
@[simp] theorem State.setFb_jobs (s : State) (n : Nat) (x : FbPort) : (s.setFb n x).jobs = s.jobs := rfl
@[simp] theorem State.setFb_arb (s : State) (n : Nat) (x : FbPort) : (s.setFb n x).arb = s.arb := rfl

/-! ### `State.setJob`: a job -/

@[simp] theorem State.setJob_pending (s : State) (j : Nat) (b : Job) : (s.setJob j b).pending = s.pending := rfl
@[simp] theorem State.setJob_free (s : State) (j : Nat) (b : Job) : (s.setJob j b).free = s.free := rfl
@[simp] theorem State.setJob_clk (s : State) (j : Nat) (b : Job) : (s.setJob j b).clk = s.clk := rfl
@[simp] theorem State.setJob_straps (s : State) (j : Nat) (b : Job) : (s.setJob j b).straps = s.straps := rfl
@[simp] theorem State.setJob_md (s : State) (j : Nat) (b : Job) : (s.setJob j b).md = s.md := rfl
@[simp] theorem State.setJob_startup (s : State) (j : Nat) (b : Job) : (s.setJob j b).startup = s.startup := rfl
@[simp] theorem State.setJob_host (s : State) (j : Nat) (b : Job) : (s.setJob j b).host = s.host := rfl
@[simp] theorem State.setJob_irq (s : State) (j : Nat) (b : Job) : (s.setJob j b).irq = s.irq := rfl
@[simp] theorem State.setJob_port (s : State) (j : Nat) (b : Job) : (s.setJob j b).port = s.port := rfl
@[simp] theorem State.setJob_env (s : State) (j : Nat) (b : Job) : (s.setJob j b).env = s.env := rfl
@[simp] theorem State.setJob_bbr (s : State) (j : Nat) (b : Job) : (s.setJob j b).bbr = s.bbr := rfl
@[simp] theorem State.setJob_fw (s : State) (j : Nat) (b : Job) : (s.setJob j b).fw = s.fw := rfl
@[simp] theorem State.setJob_ch0 (s : State) (j : Nat) (b : Job) : (s.setJob j b).ch0 = s.ch0 := rfl
@[simp] theorem State.setJob_ch1 (s : State) (j : Nat) (b : Job) : (s.setJob j b).ch1 = s.ch1 := rfl
@[simp] theorem State.setJob_budget (s : State) (j : Nat) (b : Job) : (s.setJob j b).budget = s.budget := rfl
@[simp] theorem State.setJob_room (s : State) (j : Nat) (b : Job) : (s.setJob j b).room = s.room := rfl
@[simp] theorem State.setJob_pend (s : State) (j : Nat) (b : Job) : (s.setJob j b).pend = s.pend := rfl
@[simp] theorem State.setJob_axes (s : State) (j : Nat) (b : Job) : (s.setJob j b).axes = s.axes := rfl
@[simp] theorem State.setJob_sched (s : State) (j : Nat) (b : Job) : (s.setJob j b).sched = s.sched := rfl
@[simp] theorem State.setJob_faults (s : State) (j : Nat) (b : Job) : (s.setJob j b).faults = s.faults := rfl
@[simp] theorem State.setJob_power (s : State) (j : Nat) (b : Job) : (s.setJob j b).power = s.power := rfl
@[simp] theorem State.setJob_safe (s : State) (j : Nat) (b : Job) : (s.setJob j b).safe = s.safe := rfl
@[simp] theorem State.setJob_twin (s : State) (j : Nat) (b : Job) : (s.setJob j b).twin = s.twin := rfl
@[simp] theorem State.setJob_link (s : State) (j : Nat) (b : Job) : (s.setJob j b).link = s.link := rfl
@[simp] theorem State.setJob_clu (s : State) (j : Nat) (b : Job) : (s.setJob j b).clu = s.clu := rfl
@[simp] theorem State.setJob_can (s : State) (j : Nat) (b : Job) : (s.setJob j b).can = s.can := rfl
@[simp] theorem State.setJob_trace (s : State) (j : Nat) (b : Job) : (s.setJob j b).trace = s.trace := rfl
@[simp] theorem State.setJob_arb (s : State) (j : Nat) (b : Job) : (s.setJob j b).arb = s.arb := rfl
@[simp] theorem State.setJob_pins (s : State) (j : Nat) (b : Job) : (s.setJob j b).pins = s.pins := rfl

/-! ### `State.setCh`: a chain -/

@[simp] theorem State.setCh_pending (s : State) (c : Nat) (x : Chain) : (s.setCh c x).pending = s.pending := by
  unfold State.setCh; split <;> rfl
@[simp] theorem State.setCh_free (s : State) (c : Nat) (x : Chain) : (s.setCh c x).free = s.free := by
  unfold State.setCh; split <;> rfl
@[simp] theorem State.setCh_clk (s : State) (c : Nat) (x : Chain) : (s.setCh c x).clk = s.clk := by
  unfold State.setCh; split <;> rfl
@[simp] theorem State.setCh_straps (s : State) (c : Nat) (x : Chain) : (s.setCh c x).straps = s.straps := by
  unfold State.setCh; split <;> rfl
@[simp] theorem State.setCh_md (s : State) (c : Nat) (x : Chain) : (s.setCh c x).md = s.md := by
  unfold State.setCh; split <;> rfl
@[simp] theorem State.setCh_startup (s : State) (c : Nat) (x : Chain) : (s.setCh c x).startup = s.startup := by
  unfold State.setCh; split <;> rfl
@[simp] theorem State.setCh_host (s : State) (c : Nat) (x : Chain) : (s.setCh c x).host = s.host := by
  unfold State.setCh; split <;> rfl
@[simp] theorem State.setCh_irq (s : State) (c : Nat) (x : Chain) : (s.setCh c x).irq = s.irq := by
  unfold State.setCh; split <;> rfl
@[simp] theorem State.setCh_port (s : State) (c : Nat) (x : Chain) : (s.setCh c x).port = s.port := by
  unfold State.setCh; split <;> rfl
@[simp] theorem State.setCh_env (s : State) (c : Nat) (x : Chain) : (s.setCh c x).env = s.env := by
  unfold State.setCh; split <;> rfl
@[simp] theorem State.setCh_bbr (s : State) (c : Nat) (x : Chain) : (s.setCh c x).bbr = s.bbr := by
  unfold State.setCh; split <;> rfl
@[simp] theorem State.setCh_fw (s : State) (c : Nat) (x : Chain) : (s.setCh c x).fw = s.fw := by
  unfold State.setCh; split <;> rfl
@[simp] theorem State.setCh_budget (s : State) (c : Nat) (x : Chain) : (s.setCh c x).budget = s.budget := by
  unfold State.setCh; split <;> rfl
@[simp] theorem State.setCh_room (s : State) (c : Nat) (x : Chain) : (s.setCh c x).room = s.room := by
  unfold State.setCh; split <;> rfl
@[simp] theorem State.setCh_pend (s : State) (c : Nat) (x : Chain) : (s.setCh c x).pend = s.pend := by
  unfold State.setCh; split <;> rfl
@[simp] theorem State.setCh_axes (s : State) (c : Nat) (x : Chain) : (s.setCh c x).axes = s.axes := by
  unfold State.setCh; split <;> rfl
@[simp] theorem State.setCh_sched (s : State) (c : Nat) (x : Chain) : (s.setCh c x).sched = s.sched := by
  unfold State.setCh; split <;> rfl
@[simp] theorem State.setCh_faults (s : State) (c : Nat) (x : Chain) : (s.setCh c x).faults = s.faults := by
  unfold State.setCh; split <;> rfl
@[simp] theorem State.setCh_power (s : State) (c : Nat) (x : Chain) : (s.setCh c x).power = s.power := by
  unfold State.setCh; split <;> rfl
@[simp] theorem State.setCh_safe (s : State) (c : Nat) (x : Chain) : (s.setCh c x).safe = s.safe := by
  unfold State.setCh; split <;> rfl
@[simp] theorem State.setCh_twin (s : State) (c : Nat) (x : Chain) : (s.setCh c x).twin = s.twin := by
  unfold State.setCh; split <;> rfl
@[simp] theorem State.setCh_link (s : State) (c : Nat) (x : Chain) : (s.setCh c x).link = s.link := by
  unfold State.setCh; split <;> rfl
@[simp] theorem State.setCh_clu (s : State) (c : Nat) (x : Chain) : (s.setCh c x).clu = s.clu := by
  unfold State.setCh; split <;> rfl
@[simp] theorem State.setCh_can (s : State) (c : Nat) (x : Chain) : (s.setCh c x).can = s.can := by
  unfold State.setCh; split <;> rfl
@[simp] theorem State.setCh_trace (s : State) (c : Nat) (x : Chain) : (s.setCh c x).trace = s.trace := by
  unfold State.setCh; split <;> rfl
@[simp] theorem State.setCh_jobs (s : State) (c : Nat) (x : Chain) : (s.setCh c x).jobs = s.jobs := by
  unfold State.setCh; split <;> rfl
@[simp] theorem State.setCh_arb (s : State) (c : Nat) (x : Chain) : (s.setCh c x).arb = s.arb := by
  unfold State.setCh; split <;> rfl
@[simp] theorem State.setCh_pins (s : State) (c : Nat) (x : Chain) : (s.setCh c x).pins = s.pins := by
  unfold State.setCh; split <;> rfl

/-! ### `State.updCh`: a chain -/

@[simp] theorem State.updCh_pending (s : State) (c : Nat) (f : Chain → Chain) : (s.updCh c f).pending = s.pending := s.setCh_pending c _
@[simp] theorem State.updCh_free (s : State) (c : Nat) (f : Chain → Chain) : (s.updCh c f).free = s.free := s.setCh_free c _
@[simp] theorem State.updCh_clk (s : State) (c : Nat) (f : Chain → Chain) : (s.updCh c f).clk = s.clk := s.setCh_clk c _
@[simp] theorem State.updCh_straps (s : State) (c : Nat) (f : Chain → Chain) : (s.updCh c f).straps = s.straps := s.setCh_straps c _
@[simp] theorem State.updCh_md (s : State) (c : Nat) (f : Chain → Chain) : (s.updCh c f).md = s.md := s.setCh_md c _
@[simp] theorem State.updCh_startup (s : State) (c : Nat) (f : Chain → Chain) : (s.updCh c f).startup = s.startup := s.setCh_startup c _
@[simp] theorem State.updCh_host (s : State) (c : Nat) (f : Chain → Chain) : (s.updCh c f).host = s.host := s.setCh_host c _
@[simp] theorem State.updCh_irq (s : State) (c : Nat) (f : Chain → Chain) : (s.updCh c f).irq = s.irq := s.setCh_irq c _
@[simp] theorem State.updCh_port (s : State) (c : Nat) (f : Chain → Chain) : (s.updCh c f).port = s.port := s.setCh_port c _
@[simp] theorem State.updCh_env (s : State) (c : Nat) (f : Chain → Chain) : (s.updCh c f).env = s.env := s.setCh_env c _
@[simp] theorem State.updCh_bbr (s : State) (c : Nat) (f : Chain → Chain) : (s.updCh c f).bbr = s.bbr := s.setCh_bbr c _
@[simp] theorem State.updCh_fw (s : State) (c : Nat) (f : Chain → Chain) : (s.updCh c f).fw = s.fw := s.setCh_fw c _
@[simp] theorem State.updCh_budget (s : State) (c : Nat) (f : Chain → Chain) : (s.updCh c f).budget = s.budget := s.setCh_budget c _
@[simp] theorem State.updCh_room (s : State) (c : Nat) (f : Chain → Chain) : (s.updCh c f).room = s.room := s.setCh_room c _
@[simp] theorem State.updCh_pend (s : State) (c : Nat) (f : Chain → Chain) : (s.updCh c f).pend = s.pend := s.setCh_pend c _
@[simp] theorem State.updCh_axes (s : State) (c : Nat) (f : Chain → Chain) : (s.updCh c f).axes = s.axes := s.setCh_axes c _
@[simp] theorem State.updCh_sched (s : State) (c : Nat) (f : Chain → Chain) : (s.updCh c f).sched = s.sched := s.setCh_sched c _
@[simp] theorem State.updCh_faults (s : State) (c : Nat) (f : Chain → Chain) : (s.updCh c f).faults = s.faults := s.setCh_faults c _
@[simp] theorem State.updCh_power (s : State) (c : Nat) (f : Chain → Chain) : (s.updCh c f).power = s.power := s.setCh_power c _
@[simp] theorem State.updCh_safe (s : State) (c : Nat) (f : Chain → Chain) : (s.updCh c f).safe = s.safe := s.setCh_safe c _
@[simp] theorem State.updCh_twin (s : State) (c : Nat) (f : Chain → Chain) : (s.updCh c f).twin = s.twin := s.setCh_twin c _
@[simp] theorem State.updCh_link (s : State) (c : Nat) (f : Chain → Chain) : (s.updCh c f).link = s.link := s.setCh_link c _
@[simp] theorem State.updCh_clu (s : State) (c : Nat) (f : Chain → Chain) : (s.updCh c f).clu = s.clu := s.setCh_clu c _
@[simp] theorem State.updCh_can (s : State) (c : Nat) (f : Chain → Chain) : (s.updCh c f).can = s.can := s.setCh_can c _
@[simp] theorem State.updCh_trace (s : State) (c : Nat) (f : Chain → Chain) : (s.updCh c f).trace = s.trace := s.setCh_trace c _
@[simp] theorem State.updCh_jobs (s : State) (c : Nat) (f : Chain → Chain) : (s.updCh c f).jobs = s.jobs := s.setCh_jobs c _
@[simp] theorem State.updCh_arb (s : State) (c : Nat) (f : Chain → Chain) : (s.updCh c f).arb = s.arb := s.setCh_arb c _
@[simp] theorem State.updCh_pins (s : State) (c : Nat) (f : Chain → Chain) : (s.updCh c f).pins = s.pins := s.setCh_pins c _

/-! ### `State.setNd`: a node -/

@[simp] theorem State.setNd_pending (s : State) (c a : Nat) (n : Node) : (s.setNd c a n).pending = s.pending := s.updCh_pending c _
@[simp] theorem State.setNd_free (s : State) (c a : Nat) (n : Node) : (s.setNd c a n).free = s.free := s.updCh_free c _
@[simp] theorem State.setNd_clk (s : State) (c a : Nat) (n : Node) : (s.setNd c a n).clk = s.clk := s.updCh_clk c _
@[simp] theorem State.setNd_straps (s : State) (c a : Nat) (n : Node) : (s.setNd c a n).straps = s.straps := s.updCh_straps c _
@[simp] theorem State.setNd_md (s : State) (c a : Nat) (n : Node) : (s.setNd c a n).md = s.md := s.updCh_md c _
@[simp] theorem State.setNd_startup (s : State) (c a : Nat) (n : Node) : (s.setNd c a n).startup = s.startup := s.updCh_startup c _
@[simp] theorem State.setNd_host (s : State) (c a : Nat) (n : Node) : (s.setNd c a n).host = s.host := s.updCh_host c _
@[simp] theorem State.setNd_irq (s : State) (c a : Nat) (n : Node) : (s.setNd c a n).irq = s.irq := s.updCh_irq c _
@[simp] theorem State.setNd_port (s : State) (c a : Nat) (n : Node) : (s.setNd c a n).port = s.port := s.updCh_port c _
@[simp] theorem State.setNd_env (s : State) (c a : Nat) (n : Node) : (s.setNd c a n).env = s.env := s.updCh_env c _
@[simp] theorem State.setNd_bbr (s : State) (c a : Nat) (n : Node) : (s.setNd c a n).bbr = s.bbr := s.updCh_bbr c _
@[simp] theorem State.setNd_fw (s : State) (c a : Nat) (n : Node) : (s.setNd c a n).fw = s.fw := s.updCh_fw c _
@[simp] theorem State.setNd_budget (s : State) (c a : Nat) (n : Node) : (s.setNd c a n).budget = s.budget := s.updCh_budget c _
@[simp] theorem State.setNd_room (s : State) (c a : Nat) (n : Node) : (s.setNd c a n).room = s.room := s.updCh_room c _
@[simp] theorem State.setNd_pend (s : State) (c a : Nat) (n : Node) : (s.setNd c a n).pend = s.pend := s.updCh_pend c _
@[simp] theorem State.setNd_axes (s : State) (c a : Nat) (n : Node) : (s.setNd c a n).axes = s.axes := s.updCh_axes c _
@[simp] theorem State.setNd_sched (s : State) (c a : Nat) (n : Node) : (s.setNd c a n).sched = s.sched := s.updCh_sched c _
@[simp] theorem State.setNd_faults (s : State) (c a : Nat) (n : Node) : (s.setNd c a n).faults = s.faults := s.updCh_faults c _
@[simp] theorem State.setNd_power (s : State) (c a : Nat) (n : Node) : (s.setNd c a n).power = s.power := s.updCh_power c _
@[simp] theorem State.setNd_safe (s : State) (c a : Nat) (n : Node) : (s.setNd c a n).safe = s.safe := s.updCh_safe c _
@[simp] theorem State.setNd_twin (s : State) (c a : Nat) (n : Node) : (s.setNd c a n).twin = s.twin := s.updCh_twin c _
@[simp] theorem State.setNd_link (s : State) (c a : Nat) (n : Node) : (s.setNd c a n).link = s.link := s.updCh_link c _
@[simp] theorem State.setNd_clu (s : State) (c a : Nat) (n : Node) : (s.setNd c a n).clu = s.clu := s.updCh_clu c _
@[simp] theorem State.setNd_can (s : State) (c a : Nat) (n : Node) : (s.setNd c a n).can = s.can := s.updCh_can c _
@[simp] theorem State.setNd_trace (s : State) (c a : Nat) (n : Node) : (s.setNd c a n).trace = s.trace := s.updCh_trace c _
@[simp] theorem State.setNd_jobs (s : State) (c a : Nat) (n : Node) : (s.setNd c a n).jobs = s.jobs := s.updCh_jobs c _
@[simp] theorem State.setNd_arb (s : State) (c a : Nat) (n : Node) : (s.setNd c a n).arb = s.arb := s.updCh_arb c _
@[simp] theorem State.setNd_pins (s : State) (c a : Nat) (n : Node) : (s.setNd c a n).pins = s.pins := s.updCh_pins c _

/-! ### `State.setConv`: a converter -/

@[simp] theorem State.setConv_pending (s : State) (x : Nat) (c : Conv) : (s.setConv x c).pending = s.pending := by
  unfold State.setConv; split <;> rfl
@[simp] theorem State.setConv_free (s : State) (x : Nat) (c : Conv) : (s.setConv x c).free = s.free := by
  unfold State.setConv; split <;> rfl
@[simp] theorem State.setConv_clk (s : State) (x : Nat) (c : Conv) : (s.setConv x c).clk = s.clk := by
  unfold State.setConv; split <;> rfl
@[simp] theorem State.setConv_straps (s : State) (x : Nat) (c : Conv) : (s.setConv x c).straps = s.straps := by
  unfold State.setConv; split <;> rfl
@[simp] theorem State.setConv_md (s : State) (x : Nat) (c : Conv) : (s.setConv x c).md = s.md := by
  unfold State.setConv; split <;> rfl
@[simp] theorem State.setConv_startup (s : State) (x : Nat) (c : Conv) : (s.setConv x c).startup = s.startup := by
  unfold State.setConv; split <;> rfl
@[simp] theorem State.setConv_host (s : State) (x : Nat) (c : Conv) : (s.setConv x c).host = s.host := by
  unfold State.setConv; split <;> rfl
@[simp] theorem State.setConv_irq (s : State) (x : Nat) (c : Conv) : (s.setConv x c).irq = s.irq := by
  unfold State.setConv; split <;> rfl
@[simp] theorem State.setConv_port (s : State) (x : Nat) (c : Conv) : (s.setConv x c).port = s.port := by
  unfold State.setConv; split <;> rfl
@[simp] theorem State.setConv_env (s : State) (x : Nat) (c : Conv) : (s.setConv x c).env = s.env := by
  unfold State.setConv; split <;> rfl
@[simp] theorem State.setConv_bbr (s : State) (x : Nat) (c : Conv) : (s.setConv x c).bbr = s.bbr := by
  unfold State.setConv; split <;> rfl
@[simp] theorem State.setConv_fw (s : State) (x : Nat) (c : Conv) : (s.setConv x c).fw = s.fw := by
  unfold State.setConv; split <;> rfl
@[simp] theorem State.setConv_ch0 (s : State) (x : Nat) (c : Conv) : (s.setConv x c).ch0 = s.ch0 := by
  unfold State.setConv; split <;> rfl
@[simp] theorem State.setConv_ch1 (s : State) (x : Nat) (c : Conv) : (s.setConv x c).ch1 = s.ch1 := by
  unfold State.setConv; split <;> rfl
@[simp] theorem State.setConv_budget (s : State) (x : Nat) (c : Conv) : (s.setConv x c).budget = s.budget := by
  unfold State.setConv; split <;> rfl
@[simp] theorem State.setConv_room (s : State) (x : Nat) (c : Conv) : (s.setConv x c).room = s.room := by
  unfold State.setConv; split <;> rfl
@[simp] theorem State.setConv_pend (s : State) (x : Nat) (c : Conv) : (s.setConv x c).pend = s.pend := by
  unfold State.setConv; split <;> rfl
@[simp] theorem State.setConv_axes (s : State) (x : Nat) (c : Conv) : (s.setConv x c).axes = s.axes := by
  unfold State.setConv; split <;> rfl
@[simp] theorem State.setConv_sched (s : State) (x : Nat) (c : Conv) : (s.setConv x c).sched = s.sched := by
  unfold State.setConv; split <;> rfl
@[simp] theorem State.setConv_faults (s : State) (x : Nat) (c : Conv) : (s.setConv x c).faults = s.faults := by
  unfold State.setConv; split <;> rfl
@[simp] theorem State.setConv_power (s : State) (x : Nat) (c : Conv) : (s.setConv x c).power = s.power := by
  unfold State.setConv; split <;> rfl
@[simp] theorem State.setConv_safe (s : State) (x : Nat) (c : Conv) : (s.setConv x c).safe = s.safe := by
  unfold State.setConv; split <;> rfl
@[simp] theorem State.setConv_twin (s : State) (x : Nat) (c : Conv) : (s.setConv x c).twin = s.twin := by
  unfold State.setConv; split <;> rfl
@[simp] theorem State.setConv_link (s : State) (x : Nat) (c : Conv) : (s.setConv x c).link = s.link := by
  unfold State.setConv; split <;> rfl
@[simp] theorem State.setConv_clu (s : State) (x : Nat) (c : Conv) : (s.setConv x c).clu = s.clu := by
  unfold State.setConv; split <;> rfl
@[simp] theorem State.setConv_can (s : State) (x : Nat) (c : Conv) : (s.setConv x c).can = s.can := by
  unfold State.setConv; split <;> rfl
@[simp] theorem State.setConv_trace (s : State) (x : Nat) (c : Conv) : (s.setConv x c).trace = s.trace := by
  unfold State.setConv; split <;> rfl
@[simp] theorem State.setConv_jobs (s : State) (x : Nat) (c : Conv) : (s.setConv x c).jobs = s.jobs := by
  unfold State.setConv; split <;> rfl
@[simp] theorem State.setConv_arb (s : State) (x : Nat) (c : Conv) : (s.setConv x c).arb = s.arb := by
  unfold State.setConv; split <;> rfl

/-! ### `State.setCan`: a CAN port -/

@[simp] theorem State.setCan_pending (s : State) (n : Nat) (p : CanPort) : (s.setCan n p).pending = s.pending := by
  unfold State.setCan; split <;> rfl
@[simp] theorem State.setCan_free (s : State) (n : Nat) (p : CanPort) : (s.setCan n p).free = s.free := by
  unfold State.setCan; split <;> rfl
@[simp] theorem State.setCan_clk (s : State) (n : Nat) (p : CanPort) : (s.setCan n p).clk = s.clk := by
  unfold State.setCan; split <;> rfl
@[simp] theorem State.setCan_straps (s : State) (n : Nat) (p : CanPort) : (s.setCan n p).straps = s.straps := by
  unfold State.setCan; split <;> rfl
@[simp] theorem State.setCan_md (s : State) (n : Nat) (p : CanPort) : (s.setCan n p).md = s.md := by
  unfold State.setCan; split <;> rfl
@[simp] theorem State.setCan_startup (s : State) (n : Nat) (p : CanPort) : (s.setCan n p).startup = s.startup := by
  unfold State.setCan; split <;> rfl
@[simp] theorem State.setCan_host (s : State) (n : Nat) (p : CanPort) : (s.setCan n p).host = s.host := by
  unfold State.setCan; split <;> rfl
@[simp] theorem State.setCan_irq (s : State) (n : Nat) (p : CanPort) : (s.setCan n p).irq = s.irq := by
  unfold State.setCan; split <;> rfl
@[simp] theorem State.setCan_port (s : State) (n : Nat) (p : CanPort) : (s.setCan n p).port = s.port := by
  unfold State.setCan; split <;> rfl
@[simp] theorem State.setCan_env (s : State) (n : Nat) (p : CanPort) : (s.setCan n p).env = s.env := by
  unfold State.setCan; split <;> rfl
@[simp] theorem State.setCan_bbr (s : State) (n : Nat) (p : CanPort) : (s.setCan n p).bbr = s.bbr := by
  unfold State.setCan; split <;> rfl
@[simp] theorem State.setCan_fw (s : State) (n : Nat) (p : CanPort) : (s.setCan n p).fw = s.fw := by
  unfold State.setCan; split <;> rfl
@[simp] theorem State.setCan_ch0 (s : State) (n : Nat) (p : CanPort) : (s.setCan n p).ch0 = s.ch0 := by
  unfold State.setCan; split <;> rfl
@[simp] theorem State.setCan_ch1 (s : State) (n : Nat) (p : CanPort) : (s.setCan n p).ch1 = s.ch1 := by
  unfold State.setCan; split <;> rfl
@[simp] theorem State.setCan_budget (s : State) (n : Nat) (p : CanPort) : (s.setCan n p).budget = s.budget := by
  unfold State.setCan; split <;> rfl
@[simp] theorem State.setCan_room (s : State) (n : Nat) (p : CanPort) : (s.setCan n p).room = s.room := by
  unfold State.setCan; split <;> rfl
@[simp] theorem State.setCan_pend (s : State) (n : Nat) (p : CanPort) : (s.setCan n p).pend = s.pend := by
  unfold State.setCan; split <;> rfl
@[simp] theorem State.setCan_axes (s : State) (n : Nat) (p : CanPort) : (s.setCan n p).axes = s.axes := by
  unfold State.setCan; split <;> rfl
@[simp] theorem State.setCan_sched (s : State) (n : Nat) (p : CanPort) : (s.setCan n p).sched = s.sched := by
  unfold State.setCan; split <;> rfl
@[simp] theorem State.setCan_faults (s : State) (n : Nat) (p : CanPort) : (s.setCan n p).faults = s.faults := by
  unfold State.setCan; split <;> rfl
@[simp] theorem State.setCan_power (s : State) (n : Nat) (p : CanPort) : (s.setCan n p).power = s.power := by
  unfold State.setCan; split <;> rfl
@[simp] theorem State.setCan_safe (s : State) (n : Nat) (p : CanPort) : (s.setCan n p).safe = s.safe := by
  unfold State.setCan; split <;> rfl
@[simp] theorem State.setCan_twin (s : State) (n : Nat) (p : CanPort) : (s.setCan n p).twin = s.twin := by
  unfold State.setCan; split <;> rfl
@[simp] theorem State.setCan_link (s : State) (n : Nat) (p : CanPort) : (s.setCan n p).link = s.link := by
  unfold State.setCan; split <;> rfl
@[simp] theorem State.setCan_clu (s : State) (n : Nat) (p : CanPort) : (s.setCan n p).clu = s.clu := by
  unfold State.setCan; split <;> rfl
@[simp] theorem State.setCan_trace (s : State) (n : Nat) (p : CanPort) : (s.setCan n p).trace = s.trace := by
  unfold State.setCan; split <;> rfl
@[simp] theorem State.setCan_jobs (s : State) (n : Nat) (p : CanPort) : (s.setCan n p).jobs = s.jobs := by
  unfold State.setCan; split <;> rfl
@[simp] theorem State.setCan_arb (s : State) (n : Nat) (p : CanPort) : (s.setCan n p).arb = s.arb := by
  unfold State.setCan; split <;> rfl
@[simp] theorem State.setCan_pins (s : State) (n : Nat) (p : CanPort) : (s.setCan n p).pins = s.pins := by
  unfold State.setCan; split <;> rfl

/-! ### `State.setTt`: a time-triggered part -/

@[simp] theorem State.setTt_pending (s : State) (n : Nat) (t : CanTt) : (s.setTt n t).pending = s.pending := by
  unfold State.setTt; split <;> rfl
@[simp] theorem State.setTt_free (s : State) (n : Nat) (t : CanTt) : (s.setTt n t).free = s.free := by
  unfold State.setTt; split <;> rfl
@[simp] theorem State.setTt_clk (s : State) (n : Nat) (t : CanTt) : (s.setTt n t).clk = s.clk := by
  unfold State.setTt; split <;> rfl
@[simp] theorem State.setTt_straps (s : State) (n : Nat) (t : CanTt) : (s.setTt n t).straps = s.straps := by
  unfold State.setTt; split <;> rfl
@[simp] theorem State.setTt_md (s : State) (n : Nat) (t : CanTt) : (s.setTt n t).md = s.md := by
  unfold State.setTt; split <;> rfl
@[simp] theorem State.setTt_startup (s : State) (n : Nat) (t : CanTt) : (s.setTt n t).startup = s.startup := by
  unfold State.setTt; split <;> rfl
@[simp] theorem State.setTt_host (s : State) (n : Nat) (t : CanTt) : (s.setTt n t).host = s.host := by
  unfold State.setTt; split <;> rfl
@[simp] theorem State.setTt_irq (s : State) (n : Nat) (t : CanTt) : (s.setTt n t).irq = s.irq := by
  unfold State.setTt; split <;> rfl
@[simp] theorem State.setTt_port (s : State) (n : Nat) (t : CanTt) : (s.setTt n t).port = s.port := by
  unfold State.setTt; split <;> rfl
@[simp] theorem State.setTt_env (s : State) (n : Nat) (t : CanTt) : (s.setTt n t).env = s.env := by
  unfold State.setTt; split <;> rfl
@[simp] theorem State.setTt_bbr (s : State) (n : Nat) (t : CanTt) : (s.setTt n t).bbr = s.bbr := by
  unfold State.setTt; split <;> rfl
@[simp] theorem State.setTt_fw (s : State) (n : Nat) (t : CanTt) : (s.setTt n t).fw = s.fw := by
  unfold State.setTt; split <;> rfl
@[simp] theorem State.setTt_ch0 (s : State) (n : Nat) (t : CanTt) : (s.setTt n t).ch0 = s.ch0 := by
  unfold State.setTt; split <;> rfl
@[simp] theorem State.setTt_ch1 (s : State) (n : Nat) (t : CanTt) : (s.setTt n t).ch1 = s.ch1 := by
  unfold State.setTt; split <;> rfl
@[simp] theorem State.setTt_budget (s : State) (n : Nat) (t : CanTt) : (s.setTt n t).budget = s.budget := by
  unfold State.setTt; split <;> rfl
@[simp] theorem State.setTt_room (s : State) (n : Nat) (t : CanTt) : (s.setTt n t).room = s.room := by
  unfold State.setTt; split <;> rfl
@[simp] theorem State.setTt_pend (s : State) (n : Nat) (t : CanTt) : (s.setTt n t).pend = s.pend := by
  unfold State.setTt; split <;> rfl
@[simp] theorem State.setTt_axes (s : State) (n : Nat) (t : CanTt) : (s.setTt n t).axes = s.axes := by
  unfold State.setTt; split <;> rfl
@[simp] theorem State.setTt_sched (s : State) (n : Nat) (t : CanTt) : (s.setTt n t).sched = s.sched := by
  unfold State.setTt; split <;> rfl
@[simp] theorem State.setTt_faults (s : State) (n : Nat) (t : CanTt) : (s.setTt n t).faults = s.faults := by
  unfold State.setTt; split <;> rfl
@[simp] theorem State.setTt_power (s : State) (n : Nat) (t : CanTt) : (s.setTt n t).power = s.power := by
  unfold State.setTt; split <;> rfl
@[simp] theorem State.setTt_safe (s : State) (n : Nat) (t : CanTt) : (s.setTt n t).safe = s.safe := by
  unfold State.setTt; split <;> rfl
@[simp] theorem State.setTt_twin (s : State) (n : Nat) (t : CanTt) : (s.setTt n t).twin = s.twin := by
  unfold State.setTt; split <;> rfl
@[simp] theorem State.setTt_link (s : State) (n : Nat) (t : CanTt) : (s.setTt n t).link = s.link := by
  unfold State.setTt; split <;> rfl
@[simp] theorem State.setTt_clu (s : State) (n : Nat) (t : CanTt) : (s.setTt n t).clu = s.clu := by
  unfold State.setTt; split <;> rfl
@[simp] theorem State.setTt_trace (s : State) (n : Nat) (t : CanTt) : (s.setTt n t).trace = s.trace := by
  unfold State.setTt; split <;> rfl
@[simp] theorem State.setTt_jobs (s : State) (n : Nat) (t : CanTt) : (s.setTt n t).jobs = s.jobs := by
  unfold State.setTt; split <;> rfl
@[simp] theorem State.setTt_arb (s : State) (n : Nat) (t : CanTt) : (s.setTt n t).arb = s.arb := by
  unfold State.setTt; split <;> rfl
@[simp] theorem State.setTt_pins (s : State) (n : Nat) (t : CanTt) : (s.setTt n t).pins = s.pins := by
  unfold State.setTt; split <;> rfl

/-! ### What is put in place -/

@[simp] theorem State.ax_setAx (s : State) (i j : Nat) (x : Axis) : (s.setAx i x).ax j = if i = j then x else s.ax j :=
  Tbl.get_put _ _ _ _ _

@[simp] theorem State.ax_updAx (s : State) (i j : Nat) (f : Axis → Axis) : (s.updAx i f).ax j = if i = j then f (s.ax i) else s.ax j :=
  s.ax_setAx i j _

@[simp] theorem State.pin_setPin (s : State) (n k : Nat) (x : PulseIn) : (s.setPin n x).pin k = if n = k then x else s.pin k :=
  Tbl.get_put _ _ _ _ _

@[simp] theorem State.stp_setStp (s : State) (n k : Nat) (x : StepPort) : (s.setStp n x).stp k = if n = k then x else s.stp k :=
  Tbl.get_put _ _ _ _ _

@[simp] theorem State.fbp_setFb (s : State) (n k : Nat) (x : FbPort) : (s.setFb n x).fbp k = if n = k then x else s.fbp k :=
  Tbl.get_put _ _ _ _ _

@[simp] theorem State.ch_setCh (s : State) (c d : Nat) (x : Chain) : (s.setCh c x).ch d = if (c = 0 ↔ d = 0) then x else s.ch d := by
  unfold State.setCh State.ch
  by_cases h : c = 0 <;> by_cases h' : d = 0 <;> simp [h, h']

@[simp] theorem State.ch_updCh (s : State) (c d : Nat) (f : Chain → Chain) :
    (s.updCh c f).ch d = if (c = 0 ↔ d = 0) then f (s.ch c) else s.ch d := s.ch_setCh c d _

@[simp] theorem State.conv_setConv (s : State) (x y : Nat) (c : Conv) : (s.setConv x c).conv y = if (x = 0 ↔ y = 0) then c else s.conv y := by
  unfold State.setConv State.conv
  by_cases h : x = 0 <;> by_cases h' : y = 0 <;> simp [h, h']

@[simp] theorem State.canPort_setCan (s : State) (n k : Nat) (p : CanPort) :
    (s.setCan n p).canPort k = if (n = 0 ↔ k = 0) then p else s.canPort k := by
  unfold State.setCan State.canPort
  by_cases h : n = 0 <;> by_cases h' : k = 0 <;> simp [h, h']

@[simp] theorem State.canTt_setTt (s : State) (n k : Nat) (t : CanTt) : (s.setTt n t).canTt k = if (n = 0 ↔ k = 0) then t else s.canTt k := by
  unfold State.setTt State.canTt
  by_cases h : n = 0 <;> by_cases h' : k = 0 <;> simp [h, h']

/-! ### Time moves the counter and its fraction alone -/

@[simp] theorem State.to_clk_rate (s : State) (t : Nat) : (s.to t).clk.rate = s.clk.rate := by simp only [State.to, Clk.after]
@[simp] theorem State.to_clk_rateReq (s : State) (t : Nat) : (s.to t).clk.rateReq = s.clk.rateReq := by simp only [State.to, Clk.after]
@[simp] theorem State.to_clk_staged (s : State) (t : Nat) : (s.to t).clk.staged = s.clk.staged := by simp only [State.to, Clk.after]
@[simp] theorem State.to_clk_ppsStep (s : State) (t : Nat) : (s.to t).clk.ppsStep = s.clk.ppsStep := by simp only [State.to, Clk.after]
@[simp] theorem State.to_clk_waitPps (s : State) (t : Nat) : (s.to t).clk.waitPps = s.clk.waitPps := by simp only [State.to, Clk.after]
@[simp] theorem State.to_clk_stepped (s : State) (t : Nat) : (s.to t).clk.stepped = s.clk.stepped := by simp only [State.to, Clk.after]
@[simp] theorem State.to_clk_ppsLast (s : State) (t : Nat) : (s.to t).clk.ppsLast = s.clk.ppsLast := by simp only [State.to, Clk.after]
@[simp] theorem State.to_clk_origin (s : State) (t : Nat) : (s.to t).clk.origin = s.clk.origin := by simp only [State.to, Clk.after]
@[simp] theorem State.to_clk_originCycle (s : State) (t : Nat) : (s.to t).clk.originCycle = s.clk.originCycle := by simp only [State.to, Clk.after]
@[simp] theorem State.to_clk_fixed (s : State) (t : Nat) : (s.to t).clk.fixed = s.clk.fixed := by simp only [State.to, Clk.after]
@[simp] theorem State.to_clk_begun (s : State) (t : Nat) : (s.to t).clk.begun = s.clk.begun := by simp only [State.to, Clk.after]
@[simp] theorem State.to_clk_cycle (s : State) (t : Nat) : (s.to t).clk.cycle = s.clk.cycle := by simp only [State.to, Clk.after]
@[simp] theorem State.to_clk_gear (s : State) (t : Nat) : (s.to t).clk.gear = s.clk.gear := by simp only [State.to, Clk.after]
@[simp] theorem State.by_clk_rate (s : State) (t : Nat) : (s.by t).clk.rate = s.clk.rate := by simp only [State.by, Clk.after]
@[simp] theorem State.by_clk_rateReq (s : State) (t : Nat) : (s.by t).clk.rateReq = s.clk.rateReq := by simp only [State.by, Clk.after]
@[simp] theorem State.by_clk_staged (s : State) (t : Nat) : (s.by t).clk.staged = s.clk.staged := by simp only [State.by, Clk.after]
@[simp] theorem State.by_clk_ppsStep (s : State) (t : Nat) : (s.by t).clk.ppsStep = s.clk.ppsStep := by simp only [State.by, Clk.after]
@[simp] theorem State.by_clk_waitPps (s : State) (t : Nat) : (s.by t).clk.waitPps = s.clk.waitPps := by simp only [State.by, Clk.after]
@[simp] theorem State.by_clk_stepped (s : State) (t : Nat) : (s.by t).clk.stepped = s.clk.stepped := by simp only [State.by, Clk.after]
@[simp] theorem State.by_clk_ppsLast (s : State) (t : Nat) : (s.by t).clk.ppsLast = s.clk.ppsLast := by simp only [State.by, Clk.after]
@[simp] theorem State.by_clk_origin (s : State) (t : Nat) : (s.by t).clk.origin = s.clk.origin := by simp only [State.by, Clk.after]
@[simp] theorem State.by_clk_originCycle (s : State) (t : Nat) : (s.by t).clk.originCycle = s.clk.originCycle := by simp only [State.by, Clk.after]
@[simp] theorem State.by_clk_fixed (s : State) (t : Nat) : (s.by t).clk.fixed = s.clk.fixed := by simp only [State.by, Clk.after]
@[simp] theorem State.by_clk_begun (s : State) (t : Nat) : (s.by t).clk.begun = s.clk.begun := by simp only [State.by, Clk.after]
@[simp] theorem State.by_clk_cycle (s : State) (t : Nat) : (s.by t).clk.cycle = s.clk.cycle := by simp only [State.by, Clk.after]
@[simp] theorem State.by_clk_gear (s : State) (t : Nat) : (s.by t).clk.gear = s.clk.gear := by simp only [State.by, Clk.after]

end Sys2Proof.Machine
end

