-- ==== Sys2Proof/Laws/Zones.lean ====
section
/-!
SUPPORT. What an entry into STO or SS1 can change, said once: of the mode, the faults and the safety function only the zones and the
output pairs move, and the axes of the zones are stopped.
-/
namespace Sys2Proof.Machine

/-- Mode, safety function and fault classes of t are those of s. -/
def SameSafety (s t : State) : Prop := t.md = s.md ∧ t.safe = s.safe ∧ t.faults = s.faults

theorem SameSafety.refl (s : State) : SameSafety s s := ⟨rfl, rfl, rfl⟩

theorem SameSafety.trans {s t u : State} (a : SameSafety s t) (b : SameSafety t u) : SameSafety s u :=
  ⟨b.1.trans a.1, b.2.1.trans a.2.1, b.2.2.trans a.2.2⟩

theorem State.raise_sameSafety (s : State) (n a b : Nat) : SameSafety s (s.raise n a b) :=
  ⟨State.raise_md s n a b, State.raise_safe s n a b, State.raise_faults s n a b⟩

theorem State.profEvents_sameSafety (i : Nat) (l : List PEvent) : ∀ s : State, SameSafety s (s.profEvents i l) := by
  induction l with
  | nil => exact fun s => SameSafety.refl s
  | cons x l ih =>
    intro s
    cases x <;> exact (State.raise_sameSafety _ _ _ _).trans (ih _)

theorem State.putReq_sameSafety (s : State) (i : Nat) (o : ReqOut) : SameSafety s (s.putReq i o) := by
  have h : SameSafety s ((s.setAx i o.ax).profEvents i o.ev) := State.profEvents_sameSafety i o.ev _
  unfold State.putReq
  dsimp only
  split
  · exact h
  · obtain ⟨l, e⟩ := State.markChanged_frame ((s.setAx i o.ax).profEvents i o.ev) i
    rw [e]; exact h

theorem State.stopJob_sameSafety (s : State) (j : Nat) : SameSafety s (s.stopJob j) := by
  unfold State.stopJob
  dsimp only
  split
  · exact SameSafety.refl s
  · split
    · exact SameSafety.refl s
    · exact State.raise_sameSafety _ _ _ _

theorem State.fold_sameSafety {α : Type} (f : State → α → State) (h : ∀ s x, SameSafety s (f s x)) (l : List α) :
    ∀ s : State, SameSafety s (l.foldl f s) := by
  induction l with
  | nil => exact fun s => SameSafety.refl s
  | cons x l ih => exact fun s => (h s x).trans (ih _)

theorem State.stopChirp_sameSafety (s : State) (i : Nat) : SameSafety s (s.stopChirp i) :=
  State.fold_sameSafety _ State.stopJob_sameSafety _ s

theorem State.stoAxis_sameSafety (s : State) (i : Nat) : SameSafety s (s.stoAxis i) := by
  unfold State.stoAxis
  split
  · exact (State.putReq_sameSafety _ _ _).trans (State.stopChirp_sameSafety _ _)
  · exact SameSafety.refl s

theorem State.quickStop_sameSafety (s : State) (i : Nat) : SameSafety s (s.quickStop i) := by
  unfold State.quickStop
  split
  · exact (State.putReq_sameSafety _ _ _).trans (State.stopChirp_sameSafety _ _)
  · exact SameSafety.refl s

/-- An entry into STO leaves the mode and the fault classes; the zones that are new stand in STO and leave SS1, and the pairs follow. -/
theorem State.enterSto_new (s : State) (z c n : Nat) (hn : n = z % 256 - (z % 256 &&& s.safe.sto)) (h : n ≠ 0) :
    SameSafety ({ s with safe := { s.safe.endTest (z % 256) with
      sto := s.safe.sto ||| n, ss1 := s.safe.ss1 - (s.safe.ss1 &&& n) } } : State).drivePairs (s.enterSto z c) := by
  unfold State.enterSto
  dsimp only
  rw [← hn, if_neg h]
  exact (State.fold_sameSafety _ State.stoAxis_sameSafety _ _).trans (State.raise_sameSafety _ _ _ _)

/-- Zones already in STO stay as they are, and what the test of a re-arming edge energised for them goes off. -/
theorem State.enterSto_old (s : State) (z c : Nat) (h : z % 256 - (z % 256 &&& s.safe.sto) = 0) : s.enterSto z c =
    if s.safe.test.zones &&& z % 256 = 0 then s else ({ s with safe := s.safe.endTest (z % 256) } : State).drivePairs := by
  unfold State.enterSto
  dsimp only
  rw [if_pos h]

@[simp] theorem State.enterSto_md (s : State) (z c : Nat) : (s.enterSto z c).md = s.md := by
  by_cases h : z % 256 - (z % 256 &&& s.safe.sto) = 0
  · rw [s.enterSto_old z c h]; split <;> rfl
  · exact (s.enterSto_new z c _ rfl h).1

@[simp] theorem State.enterSto_faults (s : State) (z c : Nat) : (s.enterSto z c).faults = s.faults := by
  by_cases h : z % 256 - (z % 256 &&& s.safe.sto) = 0
  · rw [s.enterSto_old z c h]; split <;> rfl
  · exact (s.enterSto_new z c _ rfl h).2.2

/-- An entry into SS1 leaves the mode, the fault classes and the output pairs. -/
@[simp] theorem State.enterSs1_md (s : State) (z c : Nat) : (s.enterSs1 z c).md = s.md := by
  unfold State.enterSs1
  dsimp only
  split
  · rfl
  · exact ((State.fold_sameSafety _ State.quickStop_sameSafety _ _).trans (State.raise_sameSafety _ _ _ _)).1

end Sys2Proof.Machine
end

