-- ==== Sys2Proof/Tests/Slice0.lean ====
section
/-!
SUPPORT. Tests of the model: for every statement of the certificate a state and operands that meet its hypotheses, each clause at a
boundary of its range; an ill-formed term for each check of well-formedness; and values that the spec works out.
-/

namespace Sys2Proof.Tests
open Sys2Proof.Machine

set_option Elab.async false -- the checks below wait for the kernel: one after the other

/-- Header of an entry with payload `p`. -/
def hd (p : List Word) : Hdr := { tag := 7, len := BitVec.ofNat 8 p.length }

/-- A selector word (Table 15.1). -/
def sel (item : Nat) (chain : Nat := 0) (sub : Nat := 0) (act : Nat := 0) (n : Nat := 0) (clear : Nat := 0) : Word :=
  BitVec.ofNat 32 (item + 256 * chain + 512 * sub + 2048 * act + 65536 * n + 2147483648 * clear)

/-- A lead device in CONFIGURE, its mailbox served. -/
def conf : State :=
  { md := { mode := .configure, clearing := false, imageOk := true, tested := true, bootDone := true }
    host := { fwRunning := true, mbxReady := true } }

/-- A head in RUN-ACTIVE, 5 µs into cycle 1,000 of gear 2. -/
def run : State :=
  { conf with
    md := { conf.md with mode := .runActive }
    clk := { tb := 31255000, fixed := true, begun := true, cycle := 1000 }
    budget := { left := [(5, 16384), (6, 16384)] } }

/-- `Taken`, as a check. -/
def takenB (c : HostCmd) (p : List Word) (s : State) : Bool :=
  s.host.mbxReady && s.host.cmdCount == 0 && decide (s.host.slotsUsed < 64) && s.env.firstKey.isNone && !s.entryWaits p && s.straps.lead &&
    s.straps.cid == 0 && decide (p.length ≤ 62) && c.modeStatus s.md.mode == 0 && c.valid p && s.others == 0

theorem taken_of_check (c : HostCmd) (p : List Word) (s : State) (k : takenB c p s = true) : Taken c (hd p) p s := by
  simp [takenB] at k
  obtain ⟨⟨⟨⟨⟨⟨⟨⟨⟨⟨a, b⟩, d⟩, e⟩, c⟩, f⟩, g⟩, i⟩, j⟩, l⟩, m⟩ := k
  exact ⟨a, b, d, (fun h => nomatch h), e, c, f, rfl, g.symm, by show (BitVec.ofNat 8 p.length).toNat = _; simp; omega, i, j, l, m⟩

/-- A chain whose node 3 has its descriptor. -/
def withDesc : State := run.setNd 0 3 { assigned := true, desc := List.replicate 64 1, descParts := 15, descOk := true }

/-- A device with two filter jobs, one done. -/
def withJobs : State := (run.setJob 2 { kind := 1 }).setJob 59 { kind := 1, st := 2 }

/-- A head whose shadow map of chain 0 differs from the active one at node 0, which is assigned. -/
def withStage : State := (run.setNd 0 0 { assigned := true }).updCh 0 (fun x => { x with shadow := { x.shadow with map := [(0, 0x80000000)] } })

/-- Axis 5 as a step axis of template 6 at step output 0, disabled. -/
def stepAxis : Axis := { cfg0 := 46, prf0 := 1000, prf1 := 1000 }

/-- A head with axis 5 as a step axis, at rest and enabled where `en`. -/
def withAxis (en : Bool) (g : Gen := {}) : State :=
  { run.setAx 5 { stepAxis with enabled := en, gen := g } with env := { run.env with inForce := [(10, 0x00100FF0#32), (11, 0x50005000#32)] } }

/-- A head with axis 5 on spoke 0 of chain 0. -/
def withSpoke : State := (run.setAx 5 { cfg0 := 2, enabled := true }).updCh 0 (fun c => { c with active := { c.active with map := [(0, 0x80000005)] } })

/-- Axis 5 in the course of a move to +5 counts. -/
def moving : Gen := { st := 1, act := .move { target := 21474836480, v := 65536, acc := 100, dec := 100 } }

/-- Axis 5 with its generator in state `g`, its quick-stop deceleration above its limit deceleration where `hard`. -/
def inState (g : Nat) (hard : Bool := false) : State :=
  run.setAx 5 { stepAxis with enabled := true, prf1 := if hard then 999 else 1000, gen := { st := g } }

/-- A head with a ready standby. -/
def withTwin : State := { run with twin := { run.twin with cfg := 0x49, ready := true } }

/-- A chain with a window of each kind, 4.9 µs long and 5 µs apart, its left port used. -/
def upChain : Chain :=
  { cfg := 0x488B5, portL := 1, active := { win := [(0, 0x01001388#32), (1, 4900#32), (2, 0x02002710#32), (3, 4900#32), (4, 0x03003A98#32), (5, 4900#32),
      (6, 0x04004E20#32), (7, 4900#32), (8, 0x050061A8#32), (9, 4900#32)] } }

/-- A head with chain 1 up. -/
def up : State := run.setCh 1 upChain

/-- A standby in cycle 1,000. -/
def standby : State :=
  { run with md := { run.md with mode := .runStandby }, twin := { run.twin with cfg := 0x49, valid := true, timeLock := true, cfgCurrent := true, applied := true } }

/-- A lead in CONFIGURE with member 1 joined, and one of its commands out. -/
def lead : State := { conf with clu := { conf.clu with cfg := 7, joined := 2, out := [{ member := 1 }] } }

/-- A member in CONFIGURE. -/
def memberDev : State := { conf with straps := { conf.straps with lead := false, cid := 1 } }

/-- A head whose feedback port 15 is as given. -/
def port15 (f : FbPort) : State := run.setFb 15 f

/-- A head with a record staged and `left` bytes of A5. -/
def staged (left : Nat) : State :=
  { run with trace := { run.trace with st := 2, stage := [{ body := [1] }] }, budget := { run.budget with left := [(5, left)] } }

/-! ## Well-formedness: a term that each check refuses -/

theorem wf_refuses :
    (Instr.sysNop {} (List.replicate 63 0)).wf = false ∧ (Instr.sysNop {} (List.replicate 62 0)).wf = true ∧
    (Instr.ppsEdge (2 ^ 64)).wf = false ∧ (Instr.ppsEdge (2 ^ 64 - 1)).wf = true ∧
    (Instr.swapAck (2 ^ 48)).wf = false ∧ (Instr.swapAck (2 ^ 48 - 1)).wf = true ∧
    (Instr.canFrameReceived 0 { data := List.replicate 9 0 } 0).wf = false ∧
    (Instr.canFrameReceived 0 { kind := .fd, data := List.replicate 65 0 } 0).wf = false ∧
    (Instr.canFrameReceived 0 { kind := .xl } 0).wf = false := by decide +kernel

theorem wf_refuses_long :
    (CanFrame.wf { kind := .xl, data := List.replicate 2049 0 }) = false ∧ (Instr.canTxEntryOwn 0 0 0 0 0 0 (List.replicate 2049 0)).wf = false ∧
    (Instr.serviceCopyReturn 0 false {} [] (List.replicate 2049 0) 0).wf = false := by decide +kernel

theorem wf_refuses_accesses :
    (Instr.pcieMemoryAccess { write := some [] }).wf = false ∧ (Instr.pcieMemoryAccess { write := some (List.replicate 257 0) }).wf = false ∧
    (Instr.pcieMemoryAccess { len := 0 }).wf = false ∧ (Instr.pcieMemoryAccess { len := 513 }).wf = false ∧
    (Instr.pcieMemoryAccess { len := 512 }).wf = true ∧ (Instr.scrubPass [0, 1, 2, 3, 4, 0]).wf = false := by decide +kernel

theorem wf_refuses_records :
    (Instr.serviceCopyReturn 0 false {} [{ data := List.replicate 17 0 }] [] 0).wf = false ∧
    (Instr.serviceCopyReturn 0 false {} (List.replicate 65 {}) [] 0).wf = false ∧ (Instr.discoveryCopyReturn 0 false {} 0 (List.replicate 65 {}) 0).wf = false ∧
    (Instr.delayCopyReturn 0 false {} 0 0 (List.replicate 65 {}) 0).wf = false ∧ (Instr.memberHealth 0 0 (2 ^ 48) 0).wf = false ∧
    (Instr.leaseGrant ⟨0, 0⟩ (2 ^ 64)).wf = false ∧ (Instr.swapNotice (2 ^ 48)).wf = false ∧
    (Instr.referenceMessage 0 { data := List.replicate 65 0 } 0).wf = false ∧ (Instr.bridgeResponse 0 0 0 0 (List.replicate 63 0)).wf = false := by
  decide +kernel

/-! ## Values the spec works out -/

/-- No row of the table gives bits: a word spells no command, and the queue stays as it was. -/
theorem test_no_word_decodes : decodeTableWord 32 0xFFFFFFFF = none ∧ (State.withFetchWord run 32 5).pending = run.pending := by decide

/-- Table 2.1: cycle lengths in ns. -/
theorem test_gear_lengths : tcOf 1 = 15625 ∧ tcOf 2 = 31250 ∧ tcOf 3 = 62500 ∧ tcOf 4 = 125000 := by decide

/-- Table 2.9: charges of T1, 812 ns, and of a profile step, 232 ns. -/
theorem test_charges : chargeOf (templateSteps 1) = 812 ∧ profileCharge = 232 := by decide

/-- The envelope of the car-deck spindle (the example after Table 11.3). -/
theorem test_envelope_words :
    envPos 0x5FC0 = -65536 ∧ envPos 0x6400 = 4194304 ∧ envMag 0xFD55 = 1789394944 ∧ envMag 0xBAAA = 89456640 ∧
    envScale 31250 (envMag 0xBAAA) = 2 * 89456640 := by decide +kernel

/-- Table 13.11: the reference message at 1 Mbit/s, a head PDU of 64 bytes at 1 and 8 Mbit/s, one of 160 bytes at 1 and 10 Mbit/s. -/
theorem test_can_bounds :
    ({ w1 := 0x00130000 + 10 + 0x100 * 0 } : CanCfg).bound 0 8 = 138000 ∧
    ({ w1 := 0x0013000A, w2 := 0x00180001 } : CanCfg).bound 1 64 = 124625 ∧ ({ w1 := 0x0013000A, w2 := 0x00130001 } : CanCfg).bound 2 160 = 198200 := by
  decide +kernel

/-- The battery-room encoder of R228: it fits G2 and not G1, and its word takes 6,710 ns from the start edge. -/
theorem test_encoder_timing :
    let f : FbPort := { w0 := 0x061A1401, w1 := 0x19010003, w2 := 0x12C00, w3 := 0x14000000 }
    f.timingOk 31250 = true ∧ f.timingOk 15625 = false ∧ f.wordNs = 6710 := by decide +kernel

/-- The step train of R218: 15,990 at B(n) and 16,040 at B(n + 1), in fine counts. -/
theorem test_pulse_fine :
    finePos { count := 1000, tLast := 96250, period := 10000, ok := true, k := 4 } 100000 = 15990 * 2 ^ 32 ∧
    finePos { count := 1003, tLast := 126250, period := 10000, ok := true, k := 4 } 131250 = 16040 * 2 ^ 32 := by decide +kernel

/-- The coefficients of Table 6.6 in G2, the sections at pass-through. -/
def carDeck : CoefSet :=
  { m := [(0, 0x51EB851F#32), (1, 0x40000000#32), (2, 0x7AB7ED31#32), (3, 0x622CBDC1#32), (4, 0x7AB7ED31#32), (5, 0x40000000#32), (10, 0x40000000#32), (15, 0x40000000#32)]
    s := [(0, 0x3F#32), (1, 1#32), (2, 15#32), (3, 6#32), (4, 21#32), (5, 1#32), (10, 1#32), (15, 1#32)]
    p := [(0, 0x4CCCCCCD#32), (1, 0x7FFFFFFF#32)], gear := 2 }

/-- One cycle of the car-deck axis (the example after Table 6.6): `SPK.TARGET` is 0x355B_D504, the integrator 215,809,929. -/
theorem test_car_deck_cycle :
    let o := runT1 carDeck 0 { i := 214748365 } { pRef := 120 * 2 ^ 32, vRef := 1342177, vFb := 1330381 }
    o.res = { mode := 3, target := 0x355BD504 } ∧ o.st.i = 215809929 ∧ o.ep = 30720 ∧ o.ev = 21626 ∧ o.usat = false := by decide +kernel

/-- The first two words of the entry of Table 15.10, and `MV.TARGET` of 4,000,000 counts. -/
theorem test_entry_words :
    hdrWords 0x0801 { tag := 0x20, len := 10 } = [0x0A200801, 0] ∧
    (moveOf [0x14, 0, 0x003D0900, 0, 0x00140000, 0x1000, 0x1000, 0, 0x00249F40, 0]).target = 4000000 * 2 ^ 32 := by decide +kernel

/-- The routes of the driver's example (Table 14.11): event 84 to vector 1, 97 to 2, 120 to 0. -/
theorem test_routes :
    let q : Irq := { route := [(21, 1#32), (24, 0x200#32)] }
    q.vector 84 = 1 ∧ q.vector 97 = 2 ∧ q.vector 120 = 0 := by decide +kernel

/-- Event 52 of axis 20 of member 2 as an entry of Table 14.10. -/
theorem test_event_entry : eventWords 52 false 2 20 7 0x100000002 = [0x00140234, 7, 2, 1] := by decide +kernel

/-- The default class FEEDBACK_MISSING of a car-deck axis (the example before Table 17.1): lasting in cycle 1,019, not in 1,016. -/
theorem test_fault_window :
    let s (n : Nat) (l : List Nat) : State := { run with clk := { run.clk with cycle := n }, faults := { run.faults with inst := [{ cls := 1, idx := 20, stamps := l }] } }
    ((((s 1016 [1007, 1000]).occur 1 20 (fun _ => none)).faults.get 1 20).lasting.isNone = true) ∧
    ((((s 1019 [1016, 1007, 1000]).occur 1 20 (fun _ => none)).faults.get 1 20).lasting.isSome = true) := by decide +kernel

/-- A step takes the command at the front, and one on an empty queue takes 5 ns (R14). -/
theorem test_steps :
    (step { conf with pending := [.eventLost, .bankWake] } = .next { conf with pending := [.bankWake] }) ∧
    (step conf = .next { conf with clk := { conf.clk with tb := 5 } }) := ⟨rfl, rfl⟩

/-! ## Hypotheses that are met: steps, invariants, rules -/

theorem witness_EmptyQueueIsOneTick :
    conf.pending = [] ∧ conf.clk.rate.natAbs ≤ 858993 ∧ conf.clk.frac < 2 ^ 32 ∧ conf.clk.tb < 2 ^ 64 ∧ conf.md.mode.timed = true ∧
    ({ conf with md := { conf.md with mode := .reset } } : State).md.mode.timed = false ∧
    ({ conf.clk with rate := -858993, frac := 2 ^ 32 - 1, tb := 2 ^ 64 - 1 } : Clk).rate.natAbs ≤ 858993 := by decide +kernel

theorem witness_InstantsAreTicks :
    (∀ c ∈ [run.clk, ({ run.clk with rate := 858993, frac := 2 ^ 32 - 1, tb := 2 ^ 63 - 1 } : Clk), { run.clk with rate := -858993 }],
      c.rate.natAbs ≤ 858993 ∧ c.frac < 2 ^ 32 ∧ c.tb < 2 ^ 63) ∧ (2 ^ 63 - 1 : Nat) < 2 ^ 63 := by decide +kernel

theorem witness_StepKeepsMemoriesCanonical : conf.mem.trace.wf = true ∧ conf.mem.exch.wf = true ∧ ∃ t, step conf = .next t :=
  ⟨rfl, rfl, _, rfl⟩

theorem witness_RefusedCommandsHaveNoEffect :
    gearSetCmd ∈ catalogue ∧ gearSetCmd.execute {} [1] run = .done stWrongMode [] run ∧ stWrongMode ≠ stOk ∧ stWrongMode ≠ stCommitLate := by
  refine ⟨?_, rfl, by decide, by decide⟩
  unfold catalogue
  iterate 20 apply List.mem_append_left
  exact List.mem_append_right _ (.tail _ (.head _))

/-- MODE.READ is in the catalogue; the first check fails, each one in turn. -/
theorem witness_FirstFailingCheckDecidesStatus :
    (conf.host.mbxReady = true ∧ conf.host.cmdCount = 0 ∧ conf.host.slotsUsed < 64 ∧ conf.host.reserved = 0 ∧ conf.env.firstKey = none ∧
      conf.entryWaits [0] = false) ∧
    (memberDev.straps.lead = false) ∧ (conf.straps.lead = true ∧ 62 < (List.replicate 63 (0 : Word)).length ∧ (List.replicate 62 (0 : Word)).length ≤ 62) ∧
    (({ rsv := 1 } : Hdr).rsv ≠ 0 ∧ conf.memberOk (1 : Fin 4).val = false ∧ lead.memberOk (1 : Fin 4).val = true ∧ clusterCfgWriteCmd.lead = true ∧
      (1 : Fin 4).val ≠ lead.straps.cid) ∧
    (gearSetCmd.modeStatus run.md.mode ≠ 0) ∧ (gearSetCmd.modeStatus conf.md.mode = 0 ∧ gearSetCmd.valid [0] = false) := by decide +kernel

theorem witness_FullOrUnservedQueueTakesNoCommand :
    conf.env.firstKey = none ∧ State.reset.host.mbxReady = false ∧
    ({ conf with host := { conf.host with cmdTail := 64 } } : State).host.cmdCount = 64 ∧
    ({ run with budget := {} } : State).entryWaits [] = true ∧ ({ run with budget := {} } : State).host.cmdCount ≠ 64 := by decide +kernel

theorem witness_EventQueueOverflow :
    ({ run with host := { run.host with evtTail := 256 } } : State).host.evtCount = 256 ∧
    (({ run with host := { run.host with lost := 1, evtTail := 255 } } : State).host.lost ≠ 0 ∧
      ({ run with host := { run.host with lost := 1, evtTail := 255 } } : State).host.evtCount ≠ 256) ∧
    fld (pw (Tbl.getRange 0 [(0, 121#32)] (4 * ((1 + 511) % 256)) 4) 0) 6 0 = 121 := by decide +kernel

theorem witness_IndexWriteRules :
    run.portOpen = true ∧ run.bar0Write.host.mbxReady = true ∧ 128 ≤ (128 : Word).toNat ∧
    64 < ((65 : Word).toNat + 128 - run.bar0Write.host.cmdHead) % 128 ∧ ((64 : Word).toNat + 128 - run.bar0Write.host.cmdHead) % 128 ≤ 64 ∧
    (run.bar0Write.host.rspTail + 128 - run.bar0Write.host.rspHead) % 128 < ((1 : Word).toNat + 128 - run.bar0Write.host.rspHead) % 128 ∧
    ((0 : Word).toNat + 128 - run.bar0Write.host.rspHead) % 128 ≤ (run.bar0Write.host.rspTail + 128 - run.bar0Write.host.rspHead) % 128 ∧
    512 ≤ (512 : Word).toNat ∧ (run.bar0Write.host.evtTail + 512 - run.bar0Write.host.evtHead) % 512 < ((511 : Word).toNat + 512 - run.bar0Write.host.evtHead) % 512 ∧
    ((0 : Word).toNat + 512 - run.bar0Write.host.evtHead) % 512 ≤ (run.bar0Write.host.evtTail + 512 - run.bar0Write.host.evtHead) % 512 := by decide +kernel

/-- An incremental port that has seen a double edge after an edge, and one without an edge. -/
def doubled (e : Bool) : FbPort := { w0 := 0x061A1402, dbl := true, edge := e, firstLatch := false }

theorem witness_DoubleEdge :
    (port15 (doubled true)).pinsLive = true ∧ 2 ≤ (doubled true).mode ∧ (port15 (doubled true)).fbp 15 = doubled true ∧ (doubled true).dbl = true ∧
    (doubled true).firstLatch = false ∧ (doubled true).edge = true ∧ (doubled false).edge = false ∧
    (({ (doubled true).latch 31255000 31250 with edge := true } : FbPort).dbl = false ∧
      ({ (doubled true).latch 31255000 31250 with edge := true } : FbPort).revLast = false ∧
      ({ (doubled true).latch 31255000 31250 with edge := true } : FbPort).firstLatch = false) := by decide +kernel

theorem witness_FailedReadBack : run.md.mode.heads = true ∧ run.safe.pairFault.testBit 3 = false ∧ true ≠ run.safe.side (3 : Fin 4).val true ∧
    Tbl.get 0 run.safe.changedAt (3 : Fin 4).val + 100000 ≤ run.now ∧ ∃ t, Goes (.outTestFail 3 true true) run t :=
  ⟨by decide +kernel, by decide +kernel, by decide +kernel, by decide +kernel, _, rfl⟩

/-- A result of kind 0 for axis 5, above what its envelope admits. -/
theorem witness_EnvelopeBounds :
    ((run.envelope 5 0 { target := 1000 }).isSome = true ∧ run.zeroMotion 5 = true) ∧
    (∃ s ∈ [({ withAxis true with safe := { run.safe with sto := 0 }, bbr := { run.bbr with ok1 := true } } : State)],
      (s.envelope 5 0 { target := 1000 }).isSome = true ∧ s.zeroMotion 5 = false) := by decide +kernel

theorem witness_StoEntryDeenergises :
    0xFF % 256 - (0xFF % 256 &&& ({ run with safe := { run.safe with sto := 0x7F } } : State).safe.sto) ≠ 0 ∧
    0x80 % 256 - (0x80 % 256 &&& State.reset.safe.sto) = 0 ∧ State.reset.safe.test.zones &&& 0x80 % 256 = 0 ∧
    ({ State.reset.safe with test := { zones := 0x80 } } : Safe).test.zones &&& 0x80 % 256 ≠ 0 := by decide +kernel

theorem witness_OnlyTheseRowsWriteTheMemories :
    (∃ t, Goes .eventLost run t ∧ Instr.eventLost.writesRams = false) ∧ (∃ t, Goes .traceRecordWrite (staged 16) t) ∧
    ((staged 16).mem.trace.wf = true ∧ (staged 16).mem.exch.wf = true ∧ (staged 16).trace.stage = [{ body := [1] }]) :=
  ⟨⟨_, rfl, rfl⟩, ⟨_, rfl⟩, by decide +kernel⟩

/-! ## Hypotheses that are met: reads -/

theorem witness_SysModeGearTimeReadsAnswer :
    takenB sysIdentCmd [] conf ∧ takenB sysNopCmd [1, 2] conf ∧ takenB modeReadCmd [] conf ∧
    (takenB gearReadCmd [] conf ∧ conf.pend.shift = none) ∧
    (takenB gearReadCmd [] { run with pend := { run.pend with shift := some { gear := 3, e := 2000 } } }) ∧
    (takenB timeReadCmd [] conf ∧ conf.clk.ppsLast = none) ∧
    takenB timeReadCmd [] { run with clk := { run.clk with ppsLast := some 31000000 } } := by decide +kernel

theorem witness_ChainAndTableReadsAnswer :
    takenB chainCfgReadCmd [sel 0 1] conf ∧ takenB chainSupvReadCmd [sel 0 1] conf ∧
    (takenB chainDescReadCmd [sel 3] withDesc ∧ (withDesc.nd (selChain [sel 3]) (selItem [sel 3])).descParts = 15) ∧
    (takenB chainDescReadCmd [sel 4] withDesc ∧ (withDesc.nd (selChain [sel 4]) (selItem [sel 4])).descParts ≠ 15) ∧
    takenB chainCensusReadCmd [sel 34 1 1 0 30] run ∧ takenB chainDelayReadCmd [sel 63] run ∧
    (takenB diagChainCountersCmd [sel 0 1] run ∧ selClear [sel 0 1] = false) ∧
    (takenB diagChainCountersCmd [sel 0 1 0 0 0 1] run ∧ selClear [sel 0 1 0 0 0 1] = true) ∧
    (takenB tableReadCmd [sel 7 0 0 0 1] conf ∧ selActive [sel 7 0 0 0 1] = false ∧ selSub [sel 7 0 0 0 1] = 0) ∧
    (takenB tableReadCmd [sel 127 0 1 1 1] conf ∧ selActive [sel 127 0 1 1 1] = true ∧ selSub [sel 127 0 1 1 1] = 1) ∧
    (takenB tableReadCmd [sel 63 1 2 0 1] conf ∧ selSub [sel 63 1 2 0 1] = 2) ∧
    (takenB tableReadCmd [sel 0 0 3 1] conf ∧ selSub [sel 0 0 3 1] = 3 ∧ selActive [sel 0 0 3 1] = true) ∧
    (takenB tableReadCmd [sel 0 0 3] conf ∧ selSub [sel 0 0 3] = 3 ∧ selActive [sel 0 0 3] = false) := by decide +kernel

theorem witness_AxisReadsAnswer :
    takenB axisStatusReadCmd [sel 255] run ∧ takenB axisPrfCfgReadCmd [sel 0] conf ∧ takenB axisStreamInfoCmd [sel 31] conf ∧
    takenB loopCfgReadCmd [sel 5] (conf.setAx 5 { srcNext := some 2 }) ∧
    (takenB loopCoefReadCmd [sel 5 0 0 1, 0x20] run ∧ bit (pw [sel 5 0 0 1, 0x20] 1) 5 = true) ∧
    (takenB loopCoefReadCmd [sel 5 0 0 0 2, 30] run ∧ bit (pw [sel 5 0 0 0 2, 30] 1) 5 = false) ∧
    (∀ we ∈ [true, false], takenB envReadCmd [sel 255 0 0 0 1] (conf.seesWe we)) ∧
    (takenB envClampReadCmd [sel 255] run ∧ selClear [sel 255] = false) ∧
    (takenB envClampReadCmd [sel 255 0 0 0 0 1] run ∧ selClear [sel 255 0 0 0 0 1] = true) ∧
    (takenB diagLoopCountersCmd [sel 0] run ∧ selClear [sel 0] = false) ∧
    (takenB diagLoopCountersCmd [sel 0 0 0 0 0 1] run ∧ selClear [sel 0 0 0 0 0 1] = true) := by decide +kernel

theorem witness_PortReadsAnswer :
    (takenB pulseReadCmd [sel 15] run ∧ selClear [sel 15] = false) ∧
    (takenB pulseReadCmd [sel 15 0 0 0 0 1] run ∧ selClear [sel 15 0 0 0 0 1] = true) ∧
    (takenB timeCapReadCmd [sel 3] run ∧ selClear [sel 3] = false) ∧
    (takenB timeCapReadCmd [sel 3 0 0 0 0 1] run ∧ selClear [sel 3 0 0 0 0 1] = true) ∧
    takenB feedbackCfgReadCmd [sel 15] run ∧ takenB feedbackResultReadCmd [sel 15] run ∧
    takenB adcResultReadCmd [sel 255 0 1 0 1] run ∧ (takenB adcStatReadCmd [sel 0 0 1] run ∧ selClear [sel 0 0 1] = false) ∧
    (takenB adcStatReadCmd [sel 0 0 1 0 0 1] run ∧ selClear [sel 0 0 1 0 0 1] = true) := by decide +kernel

theorem witness_SafeTwinCanReadsAnswer :
    (takenB safeReadCmd [sel 0] run ∧ selSub [sel 0] = 0) ∧ (takenB safeReadCmd [sel 7 0 1 0 1] run ∧ selSub [sel 7 0 1 0 1] = 1) ∧
    (takenB safeReadCmd [sel 63 0 2 0 1] run ∧ selSub [sel 63 0 2 0 1] = 2) ∧ (takenB safeReadCmd [sel 7 0 3 0 1] run ∧ selSub [sel 7 0 3 0 1] = 3) ∧
    takenB safeStatusCmd [] run ∧ takenB twinStatusCmd [] run ∧ takenB clusterStatusCmd [] run ∧ takenB canInfoCmd [sel 0 0 1] run ∧
    (takenB canReadCmd [sel 0 0 1, 0] run ∧ fld (pw [sel 0 0 1, 0] 1) 1 0 = 0) ∧
    (takenB canReadCmd [sel 63 0 1 0 1, 1] run ∧ fld (pw [sel 63 0 1 0 1, 1] 1) 1 0 = 1) ∧
    (takenB canReadCmd [sel 127 0 0 0 1, 2] run ∧ fld (pw [sel 127 0 0 0 1, 2] 1) 1 0 = 2) ∧
    (takenB canReadCmd [sel 0, 3] run ∧ fld (pw [sel 0, 3] 1) 1 0 = 3) ∧
    (takenB diagCanCountersCmd [sel 0 0 1] run ∧ selClear [sel 0 0 1] = false) ∧
    (takenB diagCanCountersCmd [sel 0 0 1 0 0 1] run ∧ selClear [sel 0 0 1 0 0 1] = true) := by decide +kernel

theorem witness_DiagnosticReadsAnswer :
    takenB traceStatusCmd [] run ∧
    (takenB filterJobStatusCmd [2] withJobs ∧ withJobs.jobs.any (fun q => q.1 == fld (pw [2] 0) 5 0) = true ∧ (withJobs.job 2).st < 2) ∧
    (takenB filterJobStatusCmd [59] withJobs ∧ withJobs.jobs.any (fun q => q.1 == fld (pw [59] 0) 5 0) = true ∧ 2 ≤ (withJobs.job 59).st) ∧
    (takenB eventClassReadCmd [1] run ∧ fixedReaction (fld (pw [1] 0) 7 0) = none ∧ selClear [1] = false) ∧
    (takenB eventClassReadCmd [0x80000001] run ∧ fixedReaction (fld (pw [0x80000001] 0) 7 0) = none ∧ selClear [0x80000001] = true) ∧
    takenB bbrReadCmd [0x000103FF] run ∧ takenB fwInfoCmd [] run ∧
    (takenB diagActReadCmd [sel 7 0 0 0 1] run ∧ selClear [sel 7 0 0 0 1] = false) ∧
    (takenB diagActReadCmd [sel 0 0 0 0 8 1] run ∧ selClear [sel 0 0 0 0 8 1] = true) ∧ takenB diagHeadroomReadCmd [sel 0] run ∧
    (takenB diagSchedReadCmd [sel 0] run ∧ selClear [sel 0] = false) ∧
    (takenB diagSchedReadCmd [sel 0 0 0 0 0 1] run ∧ selClear [sel 0 0 0 0 0 1] = true) ∧ takenB diagQueueSnapshotCmd [sel 7 0 0 0 15] run ∧
    (takenB diagMemStatusCmd [sel 0] run ∧ selClear [sel 0] = false) ∧
    (takenB diagMemStatusCmd [sel 0 0 0 0 0 1] run ∧ selClear [sel 0 0 0 0 0 1] = true) := by decide +kernel

/-! ## Hypotheses that are met: system, modes, gears, chains, tables -/

/-- A payload of GEAR.SHIFT to G3 at cycle 1,024, a whole millisecond: budgets and slot tables of zeros. -/
def shiftPay : List Word := [3, 1024, 0] ++ List.replicate 40 0

theorem witness_SysModeGearCommandsTakeEffect :
    (takenB sysResetCmd [1] conf ∧ bit (pw [1] 0) 1 = false) ∧
    (takenB modeSetCmd [3] { conf with md := { conf.md with lapsed := true } } ∧ fld (pw [3] 0) 2 0 = 3) ∧
    takenB modeSetCmd [3] { conf with md := { conf.md with mode := .syncUp } } ∧
    (takenB modeSetCmd [7] run ∧ fld (pw [7] 0) 2 0 = 7 ∧ run.md.mode = .runActive) ∧
    (takenB modeSetCmd [3] run ∧ (run.twin.enable && run.twin.ready) = false ∧ ∀ i ∈ run.axisList, (run.ax i).stillOrHold = true) ∧
    (takenB modeSetCmd [3] { run with md := { run.md with mode := .safeHold } } ∧ run.safe.waitArm = none) ∧
    (takenB gearSetCmd [1] conf ∧ conf.limitsOk 1 conf.ch0.active conf.ch1.active = true ∧ conf.curAxesOk 1 = true ∧ conf.portsFit 1 = true) ∧
    (takenB gearShiftCmd shiftPay run ∧ w64 (pw shiftPay 1) (pw shiftPay 2) = 1024 ∧ run.pend.commit = none ∧ run.pend.shift = none ∧ run.pend.swap = none ∧
      movingShift run.clk.gear 3 = true ∧ run.clk.b 1024 % 1000000 = 0 ∧
      run.limitsOk 3 { run.ch0.active with win := Tbl.putRange [] 0 ((shiftPay.drop 11).take 16) }
        { run.ch1.active with win := Tbl.putRange [] 0 ((shiftPay.drop 27).take 16) } = true ∧ run.curAxesOk 3 = true ∧ run.movingFit 3 = true ∧
      run.setsFit 3 = true ∧ run.tablesOk 0 (tcOf 3) { run.ch0.active with win := Tbl.putRange [] 0 ((shiftPay.drop 11).take 16) } = true ∧
      run.tablesOk 1 (tcOf 3) { run.ch1.active with win := Tbl.putRange [] 0 ((shiftPay.drop 27).take 16) } = true ∧ run.portsFit 3 = true ∧
      run.safe.configured = false ∧ run.budgetStatus 3 (fun k => pw ((shiftPay.drop 3).take 8) k) run.budget.activeW5 = 0 ∧
      run.shiftEffect 0 1024 = (1024, false)) := by decide +kernel

theorem witness_ChainAndTimeWritesTakeEffect :
    (takenB chainCfgWriteCmd [sel 0 1, 0x788B5, 5, 5] conf ∧
      (conf.updCh 1 (fun x => { x with cfg := 0x788B5, portL := 5, portR := 5 })).limitsOk 2 {} {} = true) ∧
    (takenB chainCfgWriteCmd [sel 0 1, 0x788B5, 1, 1] conf ∧
      (conf.updCh 1 (fun x => { x with cfg := 0x788B5, portL := 1, portR := 1 })).limitsOk 2 {} {} = false) ∧ takenB chainSupvWriteCmd [sel 0 1, 0xFFFF] conf ∧
    (takenB chainGuardWriteCmd [sel 0 1, 0x100032, 16] run ∧ run.clk.begun = true) ∧
    (takenB chainGuardWriteCmd [sel 0 1, 0x107D0, 1] conf ∧ conf.clk.begun = false) ∧
    (takenB chainMissAtWriteCmd [sel 0 1, 31249] run ∧ fld (pw [sel 0 1, 31249] 1) 23 0 < run.tc ∧ run.clk.begun = true) ∧
    (takenB chainMissAtWriteCmd [sel 0 1, 31250] run ∧ run.tc ≤ fld (pw [sel 0 1, 31250] 1) 23 0) ∧
    (takenB timeStageCmd [5, 1, 1] conf ∧ bit (pw [5, 1, 1] 2) 1 = false) ∧ (takenB timeStageCmd [0, 0, 2] conf ∧ bit (pw [0, 0, 2] 2) 1 = true) ∧
    takenB timeRateCmd [858993] run ∧ (takenB timeCpWriteCmd [sel 7, 31249] run ∧ fld (pw [sel 7, 31249] 1) 23 0 < run.tc) ∧
    takenB timeCapCfgCmd [sel 3, 3] run := by decide +kernel

theorem witness_TableAndNodeCommandsTakeEffect :
    (takenB tableWinWriteCmd [sel 7 1 0 0 1, 0, 0] run ∧ run.commitNames 1 = false ∧ run.pend.shift = none) ∧
    (takenB tableMapWriteCmd [sel 127 1 0 0 1, 0] run ∧ run.commitNames 1 = false ∧ (run.ch 1).mapLocked = false) ∧
    (takenB tableNodeWriteCmd [sel 63 1 0 0 1, 0, 0, 0, 0] run ∧ run.commitNames 1 = false) ∧
    (takenB tableBudgetWriteCmd [0, 0, 0, 0, 0, 0, 0, 0, 16] run ∧ run.commitBudgetPending = false ∧ run.pend.shift = none) ∧
    (takenB tableStageCmd [sel 0, 1008, 0] withStage ∧ withStage.clk.cycle + 8 ≤ w64 (pw [sel 0, 1008, 0] 1) (pw [sel 0, 1008, 0] 2) ∧
      (((((withStage.entered 0x0506 (hd [sel 0, 1008, 0]) [sel 0, 1008, 0]).dropStaging 0).stageMap 0 1008
        (some (refOf 0x0506 (hd [sel 0, 1008, 0])))).ch 0).staging.map (·.affected)) = some 1) ∧
    (takenB tableCommitCmd [4, 0, 0] conf ∧ conf.pend.commit = none ∧ conf.pend.shift = none ∧ conf.commitChecks { budget := true } false = 0) ∧
    (takenB tableCommitCmd [4, 1002, 0] run ∧ run.clk.cycle + 2 ≤ 1002 ∧ run.commitChecks { budget := true, e := 1002 } true = 0 ∧
      run.lateEffect 0 1002 = (1002, false)) ∧
    (run.stagedExempt false true 1001 = false ∧ takenB tableCommitCmd [4, 1002, 0] { run with clk := { run.clk with tb := 31281255 } } ∧
      ({ run with clk := { run.clk with tb := 31281255 } } : State).lateEffect 0 1002 = (1002, true)) ∧
    (takenB chainNodeReadCmd [sel 0, 0x10] withStage ∧ (withStage.nd 0 0).assigned = true) ∧
    (takenB chainNodeWriteCmd [sel 0, 0x10, 4, 1, 0, 0, 0] withStage) := by decide +kernel

/-! ## Hypotheses that are met: axes, moves, loops, ports -/

/-- Axis 5 disabled and following pulse input 0, with a shift from standstill pending. -/
def streamed : State :=
  { withAxis false with axes := [(5, { stepAxis with cfg0 := 110 })], pend := { run.pend with shift := some { gear := 1, e := 2000, still := true } } }

theorem witness_AxisCommandsTakeEffect :
    (takenB axisEnableCmd [sel 5] (withAxis false) ∧ (withAxis false).enableOk 5 = true ∧ (withAxis false).curAxes.length ≤ 32 ∧
      (withAxis false).inSto 5 = false ∧ ((withAxis false).ax 5).enabled = false ∧ ((withAxis false).ax 5).srcSel = 0) ∧
    (takenB axisEnableCmd [sel 5] streamed ∧ streamed.enableOk 5 = true ∧ streamed.curAxes.length ≤ 32 ∧ streamed.inSto 5 = false ∧
      (streamed.ax 5).enabled = false ∧ (streamed.ax 5).srcSel ≠ 0 ∧ streamed.shiftLocks = true) ∧
    (takenB axisDisableCmd [sel 5] (withAxis true) ∧ ((withAxis true).ax 5).enabled = true ∧ ((withAxis true).ax 5).gen.rests = true) ∧
    (takenB axisPrfCfgWriteCmd [sel 5, 1, 1, 0] (withAxis false) ∧ ((withAxis false).ax 5).enabled = false) ∧
    (takenB axisPrfCfgWriteCmd [sel 5, 1, 1, 0] (withAxis true) ∧ ((withAxis true).ax 5).enabled = true) ∧
    (takenB axisMissWindowCmd [sel 5, 0x100010] run ∧ run.clk.begun = true) ∧
    (takenB axisAuxWriteCmd [sel 5, 0x3FF] withSpoke ∧ (withSpoke.spokeOfAxis 5).isSome = true ∧ withSpoke.inSto 5 = false ∧
      (withSpoke.ax 5).ackNew = false ∧ (withSpoke.ax 5).ackLeft = 0) := by decide +kernel

/-- A record of a position move to +2 counts, to start in cycle `n`. -/
def movePay (n : Word) (flags : Word := 0) : List Word := [sel 5, 0, 2, flags, 0x10000, 100, 100, 0, n, 0]

theorem witness_MoveCommandsTakeEffect :
    (takenB moveStartCmd (movePay 0) (withAxis true) ∧ (withAxis true).startStatus 5 = 0 ∧ ((withAxis true).ax 5).srcSel = 0 ∧
      (moveOf (movePay 0)).dec ≤ ((withAxis true).ax 5).prf0.toNat ∧ ((withAxis true).ax 5).gen.pend = none ∧
      bit (pw (movePay 0) 3) 3 = false ∧ ((withAxis true).ax 5).gen.fateNow (moveOf (movePay 0)) = .starts ∧ (moveOf (movePay 0)).jog = false ∧
      ((withAxis true).ax 5).gen.towardLimit (sgnI (((((withAxis true).ax 5).endOf (moveOf (movePay 0)) false).2) -
        ((((withAxis true).ax 5).endOf (moveOf (movePay 0)) false).1))) = false ∧
      (withAxis true).inWindow 5 (((withAxis true).ax 5).endOf (moveOf (movePay 0)) false).2 = true ∧ w64 (pw (movePay 0) 8) (pw (movePay 0) 9) = 0) ∧
    (takenB moveStartCmd (movePay 33767) (withAxis true) ∧ w64 (pw (movePay 33767) 8) (pw (movePay 33767) 9) = 33767 ∧
      33767 ≤ (withAxis true).clk.cycle + 32767 ∧ (withAxis true).now ≤ (withAxis true).clk.b 33767) ∧
    (takenB moveStartCmd (movePay 1000) (withAxis true) ∧ (withAxis true).clk.b 1000 < (withAxis true).now) ∧
    (takenB moveStartCmd (movePay 0 8) (withAxis true moving) ∧ bit (pw (movePay 0 8) 3) 3 = true ∧ (withAxis true moving).startStatus 5 = 0 ∧
      ((withAxis true moving).ax 5).gen.fateQueue (moveOf (movePay 0 8)) = .waits ∧
      (withAxis true moving).inWindow 5 (((withAxis true moving).ax 5).endOf (moveOf (movePay 0 8)) true).2 = true ∧
      ((withAxis true moving).ax 5).gen.queued = none ∧ (withAxis true moving).queuedMoves < 8) ∧
    (takenB moveQuickStopCmd [sel 5] (withAxis true moving) ∧ ((withAxis true moving).request 5 1).1 = stOk ∧
      takenB moveQuickStopCmd [sel 4] (withAxis true) ∧ ((withAxis true).request 4 1).1 = stBadArg) ∧
    (takenB moveHoldCmd [sel 5] (withAxis true moving) ∧ ((withAxis true moving).request 5 2).1 = stOk ∧
      takenB moveHoldCmd [sel 4] (withAxis true) ∧ ((withAxis true).request 4 2).1 = stBadArg) ∧
    (takenB moveResumeCmd [sel 5] (withAxis true moving) ∧ ((withAxis true moving).request 5 3).1 = stOk ∧
      takenB moveResumeCmd [sel 4] (withAxis true) ∧ ((withAxis true).request 4 3).1 = stBadArg) ∧
    (takenB moveAbortCmd [sel 5] (withAxis true moving) ∧ ((withAxis true moving).request 5 4).1 = stOk ∧
      takenB moveAbortCmd [sel 4] (withAxis true) ∧ ((withAxis true).request 4 4).1 = stBadArg) ∧
    (takenB moveSetStopCmd [1, 48, 0, 0, 0, 0, 0, 0, 0] (withAxis true moving) ∧ fld (pw [1, 48, 0, 0, 0, 0, 0, 0, 0] 0) 2 0 = 1 ∧
      ((withAxis true moving).requests 1 (maskAxes [48, 0, 0, 0, 0, 0, 0, 0])).2 = ([4], stBadArg)) := by decide +kernel

theorem witness_StopRequestsFollowTheGenerator :
    ((withAxis true).ax 4).enabled = false ∧
    (∀ g ∈ [0, 1, 2, 3, 4, 5, 6, 7, 8, 9, 10], ∀ hard ∈ [false, true],
      ((inState g hard).ax 5).enabled = true ∧ ((inState g hard).ax 5).gen.st = g) ∧
    (inState 8 true).ax 5 ≠ (inState 8).ax 5 ∧
    (∀ g ∈ [1, 2], (({ stepAxis with gen := { st := g, soft := some 0 } } : Axis).gen.soft.isSome = true ∧
      ({ stepAxis with gen := { st := g, soft := some 0 } } : Axis).velSource = false)) ∧ (inState 3).ax 5 = { stepAxis with enabled := true, gen := { st := 3 } } := by
  decide +kernel

/-- Axis 5 as a step axis with a changed source. -/
def loopPay (w : Word) : List Word := [sel 5, w, 0, 0]

/-- A head with a coefficient set of gear 2 in axis 5's shadow, ready where `r`. -/
def withSet (r : Bool) (s : State := run) : State := s.setAx 5 { stepAxis with sh := { gear := 2, ready := r } }

/-- A swap of axis 5 at cycle 1,002. -/
def swapPay : List Word := [0x20, 0, 0, 0, 0, 0, 0, 0, 1002, 0]

theorem witness_LoopCommandsTakeEffect :
    (takenB loopCfgWriteCmd (loopPay 0) (withAxis false) ∧ ((withAxis false).ax 5).enabled = false ∧
      (withAxis false).axisFits run.ch0.active.map run.ch1.active.map run.clk.gear 5 { stepAxis with cfg0 := 0 } = true ∧
      ({ stepAxis with cfg0 := 0 } : Axis).isCur = false ∧ ({ stepAxis with cfg0 := 0 } : Axis).template = 0 ∧
      (withAxis false).axesWith 5 { stepAxis with cfg0 := 0 } = true) ∧
    (takenB loopCfgWriteCmd (loopPay 46) (withAxis false) ∧
      (withAxis false).axisFits run.ch0.active.map run.ch1.active.map run.clk.gear 5 { stepAxis with cfg0 := 46 } = true ∧
      ({ stepAxis with cfg0 := 46 } : Axis).template ≠ 0 ∧ (withAxis false).axesWith 5 { stepAxis with cfg0 := 46 } = true) ∧
    (takenB loopCfgWriteCmd (loopPay 1) (withAxis true) ∧ ((withAxis true).ax 5).enabled = true ∧ ((withAxis true).ax 5).sameBut 1 0 0 = false) ∧
    (takenB loopCfgWriteCmd (loopPay 110) (withAxis true) ∧ ((withAxis true).ax 5).sameBut 110 0 0 = true ∧
      (withAxis true).axisFits run.ch0.active.map run.ch1.active.map run.clk.gear 5 { (withAxis true).ax 5 with cfg0 := 110 } = true ∧
      ({ (withAxis true).ax 5 with cfg0 := 110 } : Axis).srcSel = 1 ∧ ({ (withAxis true).ax 5 with cfg0 := 110 } : Axis).softOn = false ∧
      ((withAxis true).ax 5).stillOrHold = true ∧ (withAxis true).shiftLocks = false ∧
      (withAxis true).axesWith 5 { (withAxis true).ax 5 with cfg0 := 110 } = true) ∧
    takenB loopCurWriteCmd [sel 5, 8] (withAxis false) ∧ (takenB loopCurWriteCmd [sel 5, 0] (withAxis true) ∧ ((withAxis true).ax 5).cur = 0) ∧
    (takenB loopCoefWriteCmd [sel 5 0 0 0 1, 0x21F, 5, 63] (withSet true) ∧ (withSet true).swapNames 5 = false ∧ selCount [sel 5 0 0 0 1, 0x21F, 5, 63] = 1 ∧
      fld (pw [sel 5 0 0 0 1, 0x21F, 5, 63] 1) 4 0 = 31) ∧
    takenB loopParamWriteCmd ([sel 5, 2] ++ List.replicate 8 0) (withSet true) ∧
    (takenB loopReadyCmd [sel 5] (withSet false) ∧ readyOk ((withSet false).ax 5).sh ((withSet false).ax 5).template ((withSet false).ax 5).outer = true) ∧
    (takenB loopReadyCmd [sel 4] (withSet false) ∧ readyOk ((withSet false).ax 4).sh ((withSet false).ax 4).template ((withSet false).ax 4).outer = false) ∧
    (takenB loopSwapCmd swapPay (withSet true conf) ∧ (withSet true conf).pend.swap = none ∧ (withSet true conf).pend.shift = none ∧
      maskAxes (swapPay.take 8) = [5] ∧ (((withSet true conf).ax 5).sh.ready = true ∧ ((withSet true conf).ax 5).sh.gear = (withSet true conf).clk.gear)) ∧
    (takenB loopSwapCmd swapPay (withSet true) ∧ ((withSet true).ax 5).sh.gear = (withSet true).clk.gear ∧ w64 (pw swapPay 8) (pw swapPay 9) = 1002 ∧
      (withSet true).clk.cycle + 2 = 1002 ∧ (withSet true).lateEffect 0 1002 = (1002, false)) := by decide +kernel

/-- Feedback words of the reset configuration, the port in mode `m`. -/
def fbPay (m : Word) : List Word := [sel 15, 0x061A1400 + m, 0x19010003, 0x12C00, 0, 1000]

/-- A device in CONFIGURE whose feedback port 15 is a serial one. -/
def serialPort : State := conf.setFb 15 { w0 := 0x061A1401 }

theorem witness_PortCommandsTakeEffect :
    (takenB pulsePinCfgCmd [sel 15, 0xFFFF43] (withAxis true) ∧ ∀ i ∈ (withAxis true).enabledAxes, ¬ (((withAxis true).ax i).srcSel = 1 ∧ ((withAxis true).ax i).pinPort = 15)) ∧
    (takenB pulseStpCfgCmd [sel 15, 0x30102] (withAxis true) ∧
      ∀ i ∈ (withAxis true).enabledAxes, ¬ (((withAxis true).ax i).isStep = true ∧ ((withAxis true).ax i).stpPort = 15)) ∧
    (takenB feedbackCfgWriteCmd (fbPay 1) conf ∧ ({ w0 := 0x061A1401 } : FbPort).cfgOk conf.tc = true ∧
      (∀ i ∈ conf.enabledAxes, (conf.ax i).usesPort 15 = false) ∧ (conf.fbp 15).single = none) ∧
    (takenB feedbackSingleReadCmd [sel 15] serialPort ∧ (serialPort.fbp 15).mode = 1 ∧ (serialPort.fbp 15).single = none ∧
      (serialPort.fbp 15).request = none) ∧
    (takenB adcCfgWriteCmd [sel 0 0 1, 0x14, 0x100, 0, 0, 0] conf ∧ (conf.conv 1).run = none ∧ (conf.conv 1).isArmed = false ∧
      convCfgOk false (Tbl.putRange (conf.conv 1).seq 0 [0]) 0x10 0x100 = true ∧ convCfgOk true (conf.conv 0).seq 0x10 0x100 = true) ∧
    takenB adcCfgWriteCmd [sel 0, 0x10, 0x100, 0, 0, 0] conf ∧
    (takenB adcSeqWriteCmd [sel 15 0 1 0 1, 0x117] conf ∧ ([0x117#32].all (seqEntryOk (conf.conv 1).lowPwr)) = true ∧
      convCfgOk false (Tbl.putRange (conf.conv 1).seq 15 [0x117]) (conf.conv 1).w0 (conf.conv 1).w1 = true) ∧
    (takenB adcStartCmd [sel 0 0 1] conf ∧ (conf.conv 1).run = none ∧ (conf.conv 1).off = false) := by decide +kernel

theorem witness_SafeCommandsTakeEffect :
    takenB safeCfgWriteCmd [0x51, 0x00C80064] conf ∧ takenB safeZoneWriteCmd [sel 7 0 0 0 1, 0x1000F] conf ∧
    takenB safeAxisWriteCmd [sel 63 0 0 0 1, 0x80000001, 1, 1] conf ∧ takenB safeSiWriteCmd [sel 7 0 0 0 1, 0x002801] conf ∧
    (takenB safeConfirmCmd [run.safe.cfgId] run) ∧ (takenB safeConfirmCmd [run.safe.cfgId + 1] run ∧ run.safe.cfgId + 1 ≠ run.safe.cfgId) ∧
    (takenB safeDemandCmd [0x1FF] run ∧ fld (pw [0x1FF] 0) 9 8 = 1) ∧ (takenB safeDemandCmd [0x280] run ∧ fld (pw [0x280] 0) 9 8 = 2) ∧
    (takenB safeDemandCmd [0x301] run ∧ fld (pw [0x301] 0) 9 8 = 3) := by decide +kernel

/-- A head whose CAN port 1 owns transmit entry 31, with bus-off where `off`. -/
def canOwn (off : Bool := false) : State := run.setCan 1 { run.can.p1 with owned := [31], busOff := off }

theorem witness_TwinClusterCanCommandsTakeEffect :
    takenB twinCfgWriteCmd [0x10049] conf ∧
    (takenB twinSwapCmd [] withTwin ∧ withTwin.twinReady = true ∧ withTwin.link.swap = none ∧ withTwin.pend.commit = none ∧ withTwin.pend.shift = none ∧
      ∀ c ∈ withTwin.chains, (withTwin.ch c).wrapped = false ∧ (withTwin.ch c).ring.close = none) ∧
    (takenB twinSwapCmd [] run ∧ run.twinReady = false) ∧ (takenB clusterCfgWriteCmd [0xF] conf ∧ bit (0xF : Word) conf.straps.cid = true) ∧
    (takenB clusterMoveAxisCmd [0x00060005, 0, 0] conf ∧ conf.memberOk 0 = true ∧ conf.pend.move = none ∧
      conf.moveStatus { src := 5, dst := 6, e := 0 } = 0) ∧
    (takenB clusterMoveAxisCmd [0x00060005, 1002, 0] run ∧ run.moveStatus { src := 5, dst := 6, e := 1002 } = 0 ∧ run.clk.cycle + 2 = 1002 ∧
      run.lateEffect 0 1002 = (1002, false)) ∧
    takenB canCfgWriteCmd [sel 0 0 1, 1, 0x04081F0A, 0x02851304, 0x800, 2000] conf ∧ takenB canFilterWriteCmd [sel 127 0 1 0 1, 0, 0x40000000] run ∧
    (takenB canSchedWriteCmd [sel 63 0 1 0 1, 0, 0] conf ∧ (conf.setCan 1 { conf.canPort 1 with win := Tbl.putRange conf.can.p1.win 126 [0, 0] }).schedOk 1
      { conf.canPort 1 with win := Tbl.putRange conf.can.p1.win 126 [0, 0] } = true ∧ conf.safe.configured = false) ∧
    (takenB canSafeWriteCmd [0, 0x02800180, 0x03E80380] conf ∧ conf.canSafeOk 0 0x02800180 0x03E80380 = true) ∧
    (takenB canAbortCmd [sel 31 0 1] (canOwn) ∧ (canOwn.canPort 1).txEntry ≠ some 31 ∧ 31 ∈ (canOwn.canPort 1).owned) ∧
    (takenB canAbortCmd [sel 0 0 1] (canOwn) ∧ (canOwn.canPort 1).txEntry ≠ some 0 ∧ 0 ∉ (canOwn.canPort 1).owned) ∧
    (takenB canRecoverCmd [sel 0 0 1] (canOwn true) ∧ ((canOwn true).canPort 1).busOff = true) := by decide +kernel

/-- A head with two signal entries written. -/
def withTrace : State := { run with trace := { run.trace with sig := [(0, 0x10100), (1, 0x101FF)], written := 3, c2 := 2 } }

theorem witness_TraceFilterEventFlashCommandsTakeEffect :
    takenB traceCfgWriteCmd [0xFFFF0001, 0xFFFFFF, 64] run ∧ (takenB traceSigWriteCmd [sel 63 0 0 0 1, 0x101FF] run ∧ run.trace.busy = false) ∧
    (takenB traceTrigWriteCmd [sel 0 0 0 0 1, 0x80000, 0, 0x10001, 0] run ∧
      ({ run.trace with trig := Tbl.putRange run.trace.trig 0 [0x80000, 0, 0x10001, 0] } : Trace).trigOk 0 1 = true) ∧
    (takenB traceArmCmd [] withTrace ∧ fld withTrace.trace.c2 6 0 ≤ withTrace.trace.entries ∧
      withTrace.trace.preSlots + 1 ≤ withTrace.trace.slotCount ∧ withTrace.trace.busy = false) ∧
    takenB traceStopCmd [] run ∧
    (takenB filterJobStartCmd [3, 6, 0, 0x3FFFD0, 0, 9] run ∧ ({ kind := 3, log2 := 6, dst := 0x3FFFD0, p5 := 9 } : Job).ok 3 6 run.tc = true ∧
      run.freeJob = some 0) ∧
    (takenB filterJobAbortCmd [59] withJobs ∧ withJobs.jobs.any (fun q => q.1 == fld (pw [59] 0) 5 0) = true) ∧
    takenB eventClassWriteCmd [1, 0x210, 16] conf ∧ (takenB bbrWriteCmd [0x000100FF, 0] run ∧ fld (pw [0x000100FF, 0] 0) 9 0 < 0x100) ∧
    (takenB bbrWriteCmd [0x000103EF, 7] run ∧ 0x100 ≤ fld (pw [0x000103EF, 7] 0) 9 0) ∧
    (takenB fwWriteCmd ([0x3FFF10, 0x3C01] ++ List.replicate 60 0) run ∧ bit (0x3C01 : Word) 0 = true ∧ run.runs true = false ∧
      (run.fw.slot true).ascends 0x3FFF10 60 = true ∧ run.fw.stage = none) ∧
    takenB fwVerifyCmd [1] run ∧
    (takenB fwActivateCmd [1] { run with fw := { run.fw with b := { run.fw.b with verified := true } } } ∧
      (({ run with fw := { run.fw with b := { run.fw.b with verified := true } } } : State).fw.slot true).verified) ∧
    (takenB fwActivateCmd [0] run ∧ (run.fw.slot false).verified = false) ∧
    (takenB diagCoreTestCmd [sel 15] conf ∧ conf.power.coreTest = none) := by decide +kernel

/-- A head whose axis 5 has a velocity loop that takes a chirp. -/
def chirpAxis : State := run.setAx 5 { cfg0 := 1, enabled := true }

theorem witness_FilterJobWithChirp :
    takenB filterJobStartCmd [0x502, 6, 0x200000, 0x200200, 1, 0x10000] chirpAxis ∧ chirpAxis.md.mode = .runActive ∧
    (chirpAxis.ax 5).takesChirp = true ∧ (chirpAxis.ax 5).gen.st = 0 ∧
    ({ kind := 2, axis := 5, log2 := 6, src := 0x200000, dst := 0x200200, p4 := 1, p5 := 0x10000 } : Job).ok 0x502 6 chirpAxis.tc = true := by
  decide +kernel

/-! ## Hypotheses that are met: host registers, memories, the host link -/

/-- A head with the envelope path unlocked and `ENV_WE` high. -/
def unlocked : State := { run with env := { run.env with we := true, unlocked := true, lastWrite := 31255000, addr := 511 } }

theorem witness_EnvelopePathEvents :
    (run.portOpen = true ∧ run.lockedOut = false ∧ run.env.firstKey = none ∧ fld (0x5A17 : Word) 15 0 = 0x5A17) ∧
    (({ run with env := { run.env with firstKey := some 30255000 } } : State).now ≤ 30255000 + 1000000 ∧ fld (0xC3E9 : Word) 15 0 = 0xC3E9) ∧
    (fld (0x5A18 : Word) 15 0 ≠ 0x5A17 ∧ fld (0x5A18 : Word) 15 0 ≠ 0) ∧ (run.env.we = false) ∧
    (unlocked.portOpen = true ∧ unlocked.lockedOut = false ∧ unlocked.env.firstKey = none ∧ unlocked.env.busy = false) ∧
    run.env.unlocked = false ∧ (({ run with env := { run.env with busy := true } } : State).env.held = []) ∧
    (({ run with env := { run.env with lockout := some 31255000 } } : State).lockedOut = false ∧ 31255000 ≤ run.now) ∧
    (unlocked.now ≤ unlocked.env.lastWrite + 10000000000 ∧ unlocked.env.written = 0) ∧
    (0 < ({ unlocked with env := { unlocked.env with written := 1 } } : State).env.written) ∧
    (({ run.bbr with running := some 1 } : Bbr).sealOk 1 = true) ∧
    (({ run.bbr with words := [(0x3F6, 1)] } : Bbr).sealOk 1 = false ∧ ({ run.bbr with words := [(0x3F6, 1)], ok1 := false } : Bbr).sealOk 1 = false) := by
  decide +kernel

theorem witness_HostRegisterWrites :
    run.portOpen = true ∧ run.env.firstKey = none ∧ run.host.mbxReady = true ∧ run.straps.lead = true ∧ memberDev.straps.lead = false ∧
    ((127 : Word).toNat < 128 ∧ (64 : Word).toNat < 128 ∧ ((64 : Word).toNat + 128 - run.host.cmdHead) % 128 ≤ 64) ∧
    (128 ≤ (128 : Word).toNat ∧ 64 < ((65 : Word).toNat + 128 - run.host.cmdHead) % 128) ∧
    (((0 : Word).toNat + 128 - run.host.rspHead) % 128 ≤ (run.host.rspTail + 128 - run.host.rspHead) % 128) ∧
    ((0 : Word).toNat < 512 ∧ ((0 : Word).toNat + 512 - run.host.evtHead) % 512 ≤ (run.host.evtTail + 512 - run.host.evtHead) % 512) ∧
    run.irq.risenAt ≠ run.now ∧ ((run.raise 127 0 0).irq.risenAt = run.now ∧ (run.raise 127 0 0).irq.risen.testBit 127 = true) := by decide +kernel

/-- Four areas of at most 132,608 bytes leave one of five places so far apart free. -/
theorem canArea_leaves_free : ∃ a, 0x400000 ≤ a ∧ a < 0x500000 ∧ canArea a = none := by
  have key : ∀ a, canArea a = none ∨ (Config.canTxOffset 0 ≤ a ∧ a < Config.canTxOffset 0 + 132608) ∨
      (Config.canTxOffset 1 ≤ a ∧ a < Config.canTxOffset 1 + 132608) ∨ (Config.canRxOffset 0 ≤ a ∧ a < Config.canRxOffset 0 + 132608) ∨
      (Config.canRxOffset 1 ≤ a ∧ a < Config.canRxOffset 1 + 132608) := by
    intro a
    unfold canArea
    dsimp only
    split
    · rename_i h; simp at h; omega
    · split
      · rename_i h; simp at h; omega
      · split
        · rename_i h; simp at h; omega
        · split
          · rename_i h; simp at h; omega
          · exact .inl rfl
  rcases key 0x400000 with h | h
  · exact ⟨_, by omega, by omega, h⟩
  rcases key 0x420600 with i | i
  · exact ⟨_, by omega, by omega, i⟩
  rcases key 0x440C00 with j | j
  · exact ⟨_, by omega, by omega, j⟩
  rcases key 0x461200 with k | k
  · exact ⟨_, by omega, by omega, k⟩
  rcases key 0x481800 with l | l
  · exact ⟨_, by omega, by omega, l⟩
  rcases h with h | h | h | h <;> rcases i with i | i | i | i <;> first
    | omega
    | (rcases j with j | j | j | j <;> first
        | omega
        | (rcases k with k | k | k | k <;> first
            | omega
            | (rcases l with l | l | l | l <;> omega)))

/-- A device in CONFIGURE with its host link up and no cycle begun. -/
def linked : State := { conf with host := { conf.host with gen := 2 } }

theorem witness_ExchangeMemoryIsReadBack :
    (linked.fullPort = true ∧ linked.straps.hsel = false ∧ linked.host.gen ≠ 0 ∧ linked.port.pcieHeld = [] ∧ linked.clk.begun = false ∧
      linked.env.firstKey = none ∧ linked.host.cmdCount = 0 ∧ linked.mem.trace.wf = true ∧ linked.mem.exch.wf = true) ∧
    ∃ a, 0x400000 ≤ a ∧ a < 0x500000 ∧ canArea a = none := ⟨by decide +kernel, canArea_leaves_free⟩

/-- A head with a serial host and `left` bytes of A6. -/
def serial (left : Int) : State := { run with straps := { run.straps with hsel := true }, budget := { left := [(6, left)] } }

theorem witness_SerialAccesses :
    (serial 8).portOpen = true ∧ (serial 8).straps.hsel = true ∧ run.straps.hsel = false ∧ (serial 8).port.qspiHeld = [] ∧
    (∀ a ∈ [0x800000, 0x2000], ((serial 8).chargeHost (qspiCharged a 8)).isSome = true ∧ ((serial 8).chargeHost (qspiCharged a 10)) = none ∧
      (serial 8).hostPart a 10 = 8 ∧ ((serial 3).chargeHost (qspiCharged a 4)) = none ∧ (serial 3).hostPart a 4 = 0) ∧
    (0x800000 : BitVec 24).toNat / 0x800000 = 1 ∧ (0x03 : Byte) ≠ 0x02 ∧ (0x03 : Byte) ≠ 0xA2 ∧ (0x03 : Byte) ≠ 0x42 := by decide +kernel

/-- Event 5 is pending, not masked and routed to vector 31, whose table entry is not masked. -/
def vec31 : Irq := { pend := 32, mask := 0, route := [(1, 0x1F00#32)], msixTable := [(127, 0#32)], pba := 2 ^ 31 }

theorem witness_HostLinkEvents :
    (linked.straps.hsel = false ∧ linked.md.mode.timed = true ∧ linked.md.bootDone = true ∧ linked.host.gen ≠ 0) ∧
    (linked.host.perst = false ∧ ¬ (linked.host.gen = (1 : BitVec 2).toNat ∧ linked.host.x2 = true) ∧ (1 : BitVec 2).toNat ≠ 0 ∧
      linked.host.gen = (2 : BitVec 2).toNat) ∧
    (vec31.pba.testBit 31 = true ∧ vec31.vecMasked 31 = false ∧ vec31.seen 31 ≠ []) ∧ linked.host.lost = 0 ∧
    (({ linked.host with lost := 1 } : HostPort).lost ≠ 0 ∧ linked.host.evtCount ≠ 256) := by decide +kernel

/-! ## Hypotheses that are met: CAN -/

/-- A head whose CAN port 1 is `p`, its time-triggered state `tt`. -/
def can1 (p : CanPort) (tt : CanTt := {}) : State := { run with can := { run.can with p1 := p, t1 := tt } }

/-- A running CAN port. -/
def live : CanPort := { active := true, listening := true }

/-- A Classical frame with identifier 5 of one byte. -/
def frame5 : CanFrame := { id := 5, data := [1] }

theorem witness_CanQueueEvents :
    ((can1 live).fullPort = true ∧ (can1 live).env.firstKey = none ∧ (can1 live).port.pcieHeld = [] ∧ (can1 live).port.qspiHeld = [] ∧
      (can1 live).hostFits (16 + 8) = true ∧ ({ can1 live with budget := {} } : State).hostFits (16 + 8) = false) ∧
    (({ live with rxMem := [(2072 * 63 + 3, 128)], rxTail := 63 } : CanPort).rxOwned 63 = true ∧ fld (0 : Word) 5 0 = (63 + 1) % 64) ∧
    (live.rxOwned live.rxTail = false ∧ live.lock = none) ∧ (bit (0x80000000 : Word) 31 = true ∧ 31 ∉ live.owned ∧ ({} : CanPort).active = false) ∧
    (({ live with owned := [31] } : CanPort).ready = true ∧ ([31].filter ({ live with owned := [31] } : CanPort).malformed) = [] ∧
      ((can1 { live with owned := [31] }).canCfg 1).tt = false ∧ ({ live with owned := [31] } : CanPort).best [31] = some 31) ∧
    ({} : CanPort).ready = false ∧
    (({ live with onBus := some (.entry 31 none), tec := 8 } : CanPort).onBus = some (.entry 31 none) ∧
      (decide (127 < (({ live with onBus := none, tec := 7 } : CanPort).giveBack 31 0).tec) ||
        decide (127 < (({ live with onBus := none, tec := 7 } : CanPort).giveBack 31 0).rec_)) = live.passive) ∧
    (live.listening = true ∧ live.master = false ∧ (can1 live).isSafeFrame 1 frame5 = false ∧ live.filter frame5 = none ∧
      ({ live with filt := [(254, 0x40000005), (255, 0x40000000)] } : CanPort).filter frame5 = some (127, 1)) := by decide +kernel

theorem witness_CanErrorEvents :
    live.listening = true ∧ live.busOff = false ∧ live.onBus = none ∧ live.passive = false ∧
    (∀ q ∈ [({ live with tec := 119, rec_ := 127 } : CanPort)], q.tec ≤ 119 ∧ q.rec_ ≤ 127) ∧
    (∀ q ∈ [({ live with tec := 120 } : CanPort), { live with tec := 247 }], 119 < q.tec ∧ q.tec ≤ 247) ∧
    247 < ({ live with tec := 248 } : CanPort).tec ∧
    (∀ q ∈ [({ live with tec := 128, passive := true } : CanPort), { live with tec := 255, passive := true }], 127 < q.tec ∧ q.tec ≤ 255 ∧ q.ackRun ≠ 15) ∧
    ({ live with rec_ := 126 } : CanPort).rec_ ≤ 126 ∧ 127 < ({ live with rec_ := 128 } : CanPort).rec_ ∧
    (({ live with busOff := true, recovering := true } : CanPort).busOff = true) := by decide +kernel

/-- A running port with a time-triggered matrix, a potential master of priority 0 where `m`. -/
def ttPort (m : Bool) : CanPort :=
  { live with cfg := { w0 := if m then 0x18 else 8 }, owned := [31], txMem := [(2064 * 31 + 3, 128)], win := [(126, 0x03E80000), (127, 0xF9)] }

/-- Its basic cycle has begun now. -/
def ttNow : CanTt := { mark := 31255000, base := 30000000, begun := true }

/-- A reference message of cycle count 63. -/
def ref63 : RefMessage := { id := 1, data := [63, 0, 0, 0, 0, 0, 0, 0] }

theorem witness_CanTimeTriggeredEvents :
    (∀ m ∈ [false, true], ((can1 (ttPort m) ttNow).canCfg 1).tt = true ∧ (ttPort m).active = true ∧ (ttPort m).listening = true ∧ (ttPort m).onBus = none) ∧
    (({ ttPort true with master := true } : CanPort).master = true ∧ ttNow.base < 16 * 2000000 ∧ (16 - 1) * 2000000 < (can1 (ttPort true) ttNow).now ∧
      (can1 (ttPort true) ttNow).now ≤ 16 * 2000000 ∧ ((can1 (ttPort true) ttNow).canCfg 1).cycleNs = 2000000) ∧
    (foreignRef ((can1 (ttPort false) ttNow).canCfg 1) ref63 = false ∧ foreignRef ((can1 (ttPort true) ttNow).canCfg 1) { ref63 with id := 0 } = true ∧
      foreignRef ((can1 (ttPort false) ttNow).canCfg 1) { ref63 with id := 2047 } = true ∧
      ttNow.lostRaised = false ∧ (ttPort false).master = false) ∧
    (winKind ((ttPort true).winW 63) = 1 ∧ winApplies ((ttPort true).winW 63) ttNow.count = true ∧ ((ttPort true).owned.filter (ttPort true).malformed) = [] ∧
      winEntry ((ttPort true).winW 63) ∈ (ttPort true).owned ∧ (can1 (ttPort true) ttNow).now ≤ ttNow.mark + winOff ((ttPort true).winW 63) * 1000) ∧
    (∀ b ∈ [true, false], ({ ttPort true with busOff := b, active := !b } : CanPort).onBus = none ∧
      (({ ttPort true with busOff := b, active := !b } : CanPort).active = true ∨ ({ ttPort true with busOff := b, active := !b } : CanPort).busOff = true)) ∧
    (((can1 (ttPort true) ttNow).canCfg 1).canMaster = true ∧ (can1 (ttPort true) ttNow).md.mode.heads = true) ∧
    ({ ttNow with lostRaised := true } : CanTt).lostRaised = true := by decide +kernel

/-! ## Hypotheses that are met: cycles, windows, copies, links -/

/-- A cycle point at 8,000 ns, with a strobe where `st`. -/
def point (st : Bool) : CyclePt := { cfg := 0x1001F40, now := if st then 0x3001F40 else 0x1001F40 }

/-- Chain 1 up, its windows too short for any frame. -/
def tight : State := run.setCh 1 { upChain with active := { win := [(2, 0x02002710#32), (4, 0x03003A98#32), (6, 0x04004E20#32), (8, 0x050061A8#32)] } }

/-- The frames of the beacon and the discovery windows of chain 1. -/
def beaconOf (s : State) : TxFrame := { (s.to (s.windowAt 1 3)).frame 6 3 16 with payload := (s.to (s.windowAt 1 3)).beaconBytes }
def discoveryOf (s : State) : TxFrame := { (s.to (s.windowAt 1 2)).frame 4 2 516 with payload := List.replicate 516 0 }

/-- A head in SAFE-HOLD with nothing to do. -/
def quiet : State := { run with md := { run.md with mode := .safeHold }, faults := { run.faults with hbNow := true } }

theorem witness_QuietBoundary :
    quiet.clk.fixed = true ∧ quiet.clk.begun = true ∧ quiet.md.next = none ∧ quiet.startup.phase = .idle ∧ quiet.ch0.out = false ∧
      quiet.ch1.out = false ∧ quiet.ch0.enabled = false ∧ quiet.ch1.enabled = false ∧ quiet.ch0.prevMap = [] ∧ quiet.ch1.prevMap = [] ∧
      quiet.axes = [] ∧ quiet.jobs = [] ∧ quiet.sched.items = [] ∧ quiet.sched.dropsNow = 0 ∧ quiet.sched.timeoutsNow = 0 ∧
      quiet.faults.hbNow = true ∧ quiet.trace.st = 0 ∧ quiet.trace.armNew = false ∧ quiet.twin.enable = false ∧ quiet.twin.token = false ∧
      quiet.link.swapE = none ∧ quiet.link.swap = none ∧ quiet.pend.commit = none ∧ quiet.pend.swap = none ∧ quiet.pend.move = none ∧
      quiet.pend.shift = none ∧ quiet.port.pcieHeld = [] ∧ quiet.port.qspiHeld = [] ∧ quiet.host.cmdCount = 0 := by decide +kernel

theorem witness_CycleAndWindowEvents :
    (up.clk.fixed = true ∧ up.md.mode.cycles = true ∧ conf.clk.fixed = false ∧ State.reset.md.mode.cycles = false) ∧
    (∀ st ∈ [false, true], up.clk.begun = true ∧ bit (point st).now 24 = true ∧ bit (point st).now 25 = st ∧ (point st).fired ≠ up.clk.cycle + 1 ∧
      up.bNow + fld (point st).now 23 0 < up.bNext ∧ up.pins.convS.armed = false ∧ up.pins.convP.armed = false) ∧
    (bit ({} : CyclePt).now 24 = false ∧ conf.clk.begun = false) ∧
    (up.windowOpen 1 2 = some 1 ∧ up.windowOpen 1 5 = some 4 ∧ (up.ch 1).openFilled = [] ∧
      ((up.updCh 1 (fun x => { x with openFilled := [63] })).ch 1).openFilled ≠ []) ∧
    (up.windowOpen 1 4 = some 3 ∧ up.md.mode.heads = true ∧ (up.ch 1).gate (beaconOf up) = true ∧ tight.windowOpen 1 4 = some 3 ∧
      (tight.ch 1).gate (beaconOf tight) = false) ∧
    (up.windowOpen 1 3 = some 2 ∧ (up.ch 1).ring.measuring = false ∧ (up.ch 1).ring.lastCensus + 1000000 ≤ (up.to (up.windowAt 1 2)).now ∧
      (up.ch 1).gate (discoveryOf up) = true) ∧
    ((((up.to (up.windowAt 1 4 - 2000)).windowHolder 1).fill 1 true).1.host.cmdCount = 0 ∧
      (((((up.to (up.windowAt 1 1 - 2000)).settle 1).timeReports 1).windowHolder 1).fill 1 false).1.host.cmdCount = 0) ∧
    conf.isHead = false := by decide +kernel

/-- Spoke 127 of chain 1 serves node 63 and axis 5; the frame of cycle 1,000 is out with sequence 255. -/
def out : State := run.setCh 1 { upChain with
  launchMap := [(127, 0x80003F05#32)], out := true, seq := 255, copyA := { state := .outstanding }, copyB := { state := .outstanding }
  tx := [(1, { cycle := 1000, count := 128 }), (2, { cycle := 1000 }), (4, { cycle := 1000 }), (5, { cycle := 1000 })] }

/-- A complete spoke that echoes sequence 255. -/
def echo255 : Feedback := { status := 0x8000, seqEcho := 255 }

/-- `out` at 31,260,000 with spoke 127 as given. -/
def outSpoke (x : SpokeRx) : State := ((out.updCh 1 (fun c => c.setSp 127 x)).by 31260000).expireBefore

/-- A good copy of kind `k` back on channel B. -/
def backB (k : BitVec 4) : CopyInfo := { kind := k, cycle := 1000, count := 128 }

/-- A device that heads its chains in the census of its start-up. -/
def census : State := { out with md := { out.md with mode := .syncUp }, startup := { out.startup with phase := .census } }

theorem witness_ReturningCopyEvents :
    ((outSpoke {}).merges = true ∧ ((outSpoke {}).ch 1).out = true ∧ (((outSpoke {}).ch 1).copy true).state = .outstanding ∧
      (outSpoke {}).due (outSpoke {}).bNext = true ∧ echo255.status.toNat.testBit 15 = true ∧ ((outSpoke {}).ch 1).echoOk echo255 = true ∧
      127 ∈ (outSpoke {}).live 1 ∧ (((outSpoke {}).ch 1).sp 127).on true = none) ∧
    ((((outSpoke { posted := true }).ch 1).copy true).state = .outstanding ∧ (((outSpoke { posted := true }).ch 1).sp 127).b = none ∧
      (((outSpoke { posted := true }).ch 1).sp 127).posted = true) ∧
    (({ echo255 with status := 0x7FFF } : Feedback).status.toNat.testBit 15 = false ∧ conf.merges = false ∧ (run.ch 1).out = false) ∧
    (({ backB 1 with fcs := .inverted } : CopyInfo).fcs ≠ .good ∧ ((run.ch 1).copy true).state ≠ .outstanding ∧ run.merges = true ∧
      run.due run.bNext = true ∧ run.swapNow = false ∧ (run.ch 1).ownCopy true (backB 1) 1 = false ∧ (backB 1).fcs = .good) ∧
    (((outSpoke {}).ch 1).ownCopy true (backB 1) 1 = true ∧ (backB 1).count.toNat = (((outSpoke {}).ch 1).sent 1).count ∧
      (backB 1).fmt = (((outSpoke {}).ch 1).sent 1).fmt) ∧
    (out.merges = true ∧ (out.ch 1).out = true ∧ out.due (out.bNow + out.missOffset 1) = true ∧ run.spokesOf 1 = []) ∧
    (out.isHead = true ∧ (∀ k ∈ [2, 4, 5], (backB (BitVec.ofNat 4 k)).fcs = .good ∧ (out.ch 1).ownCopy true (backB (BitVec.ofNat 4 k)) k = true) ∧
      (∀ k ∈ [2, 4], (out.ch 1).ownCopy true { backB (BitVec.ofNat 4 k) with own := false } k = false) ∧
      ({ backB 2 with fcs := .inverted } : CopyInfo).fcs ≠ .good ∧ (out.ch 1).ring.round = (0 : Fin 16).val ∧ (out.ch 1).ring.round ≠ (15 : Fin 16).val) ∧
    (census.isHead = true ∧ (census.by 31260000).md.mode.heads = false ∧ (census.ch 1).ownCopy true (backB 4) 4 = true) ∧
    conf.isHead = false := by decide +kernel

/-- A device in CONFIGURE whose chain 1 passes frames through, both links up. -/
def member : State := conf.setCh 1 { upChain with cfg := 0x688B5, linkL := true, linkR := true }

/-- The same as a standby, and chain 1 as it wraps on a port. -/
def memberStandby : State := { member with md := { member.md with mode := .runStandby } }
def wraps (r : Bool) : Chain := { member.ch 1 with pass := { (member.ch 1).pass with wrap := some r } }

/-- A device whose chain 0 uses the parallel left port. -/
def par : State := run.setCh 0 { upChain with portL := 2 }

theorem witness_LinkAndForwardEvents :
    ((up.ch 1).enabled = true ∧ fld ((up.ch 1).portW false) 1 0 ≠ 0 ∧ up.md.mode.timed = true ∧ up.forwards 1 = false ∧ (up.ch 1).link false = false ∧
      (upChain.setLink false true).link false = true) ∧
    (∀ n : Fin 2, ∀ r : Bool, fld ((up.ch n.val).portW r) 1 0 < 2) ∧
    (2 ≤ fld (par.ch0.portW false) 1 0 ∧ fld (par.ch0.portW true) 1 0 < 2 ∧ (∀ r : Bool, fld (par.ch1.portW r) 1 0 < 2) ∧ par.ch0.enabled = true ∧
      par.ch0.link false = false ∧ par.forwards 0 = false ∧ (1 : BitVec 4).toNat.testBit 0 = true) ∧
    (member.forwards 1 = true ∧ (∀ r : Bool, (member.ch 1).link r = true) ∧ member.md.mode ≠ .runStandby ∧ (member.ch 1).pass.wrap = none ∧
      (∀ r : Bool, (wraps r).pass.wrap = some r ∧ (wraps r).pass.closeAt = none ∧ (wraps r).linkL = true ∧ (wraps r).linkR = true)) ∧
    (memberStandby.forwards 1 = true ∧ memberStandby.md.mode = .runStandby ∧ (memberStandby.ch 1).knows { kind := 2, safe := [1] } = true ∧
      up.forwards 1 = false) := by decide +kernel

/-! ## Hypotheses that are met: claim, token, sync link, cluster -/

/-- A device in SYNC-UP in phase `p` since `since`, its side strap high; one claim has left it. -/
def syncUp (p : Phase) (since : Nat := 30255000) : State :=
  { run with md := { run.md with mode := .syncUp }, straps := { run.straps with side := true }, startup := { phase := p, since := since, stamps := [30255000] } }

/-- A lead in SYNC-UP, claiming, with member 1 joined. -/
def claimLead : State := { syncUp .claim with clu := { run.clu with cfg := 3, joined := 2 } }

/-- A member of a cluster in SYNC-UP in phase `p`, its sync link valid where `v`. -/
def claimMember (p : Phase) (v : Bool) : State :=
  { syncUp p with straps := { run.straps with lead := false }, twin := { run.twin with cfg := 0x49, valid := v } }

theorem witness_ClaimAndTimeEvents :
    ((syncUp .listen 28255000).md.mode = .syncUp ∧ (syncUp .listen 28255000).startup.phase = .listen) ∧
    ((syncUp .claim).startup.silent = 0 ∧ (syncUp .claim).startup.phase = .claim ∧ (syncUp .claim).startup.heard = false ∧
      ({ (syncUp .claim).startup with heard := true } : Startup).heard = true ∧
      (syncUp .claim).startup.quiet < 2 ∧ (2 : Nat) ≤ ({ (syncUp .claim).startup with quiet := 2 } : Startup).quiet) ∧
    ((up.ch 1).enabled = true ∧ (syncUp .claim).claiming = true ∧ (30255000 : Nat) ∈ (syncUp .claim).startup.stamps) ∧
    (run.md.mode.timed = true ∧ run.clk.waitPps = false ∧ Mode.timed .reset = false) ∧
    (({ syncUp .won with clk := { run.clk with waitPps := true } } : State).clk.waitPps = true) ∧
    (claimLead.straps.lead = true ∧ claimLead.others.testBit 1 = true ∧ claimLead.claiming = true) ∧
    (∀ v ∈ [true, false], (claimMember .won v).straps.lead = false ∧ (claimMember .won v).startup.phase = .won ∧ (claimMember .claim v).claiming = true ∧
      (claimMember .won v).twin.valid = v ∧ (claimMember .won v).twin.enable = true) := by decide +kernel

/-- A claim of each rank below, at and above the device's own reaches it. -/
theorem witness_ClaimRanks :
    at_ 32 (b2n ({} : ClaimFrame).side) + ({} : ClaimFrame).hash.toNat < (syncUp .claim).rank ∧
    at_ 32 (b2n true) + Config.serialHash.toNat = (syncUp .claim).rank ∧
    run.rank < at_ 32 (b2n ({ side := true } : ClaimFrame).side) + ({ side := true } : ClaimFrame).hash.toNat := by
  have h := Config.serialHash.isLt
  refine ⟨?_, rfl, ?_⟩
  · show 0 < 4294967296 + Config.serialHash.toNat
    omega
  · show 0 * 2 ^ 32 + Config.serialHash.toNat < _
    have : at_ 32 (b2n ({ side := true } : ClaimFrame).side) + ({ side := true } : ClaimFrame).hash.toNat = 4294967296 := by decide +kernel
    omega

/-- A head at the renewal instant of cycle 999. -/
def early : State := { run with clk := { run.clk with tb := 31253000 } }

/-- A head that holds the token, renewed for cycle `r` − 1. -/
def token (r : Nat) : State := { run with twin := { run.twin with token := true, renewed := r } }

theorem witness_TokenAndSilenceEvents :
    (early.md.mode.heads = true ∧ early.clk.begun = true ∧ early.twin.renewed ≠ early.clk.cycle + 1 ∧
      early.unhealthy = 0 ∧ ({ early with twin := { early.twin with healthNow := 1 } } : State).unhealthy ≠ 0) ∧
    ((token 999).isHead = true ∧ (token 999).twin.token = true ∧ (token 999).clk.begun = true ∧
      (token 999).twin.renewed - 1 + (token 999).twin.l ≤ (token 999).clk.cycle + 1) ∧
    ((token 1000).clk.cycle + 1 < (token 1000).twin.renewed - 1 + (token 1000).twin.l) ∧
    (standby.md.mode = .runStandby ∧ standby.clk.begun = true ∧ standby.twin.checked ≠ standby.clk.cycle + 1 ∧
      (standby.by 31260000).due (standby.by 31260000).dNow = true ∧ (1 : Word).toNat = (standby.twin.leaseSeq + 1) % 2 ^ 32 ∧
      0 < sgn 32 ((1 : Word).toNat + 2 ^ 32 - standby.twin.leaseSeq)) ∧
    (∀ b ∈ [true, false], ({ standby.twin with heard := b, cfg := 0 } : Twin).heard = b ∧ ({ standby.twin with heard := b, cfg := 0 } : Twin).enable = false) ∧
    (standby.twin.enable = true ∧ standby.twin.valid = true ∧ standby.twin.timeLock = true ∧ standby.twin.cfgCurrent = true ∧ standby.twin.applied = true ∧
      ({ standby with twin := { standby.twin with ready := true, count := 6 } } : State).twin.l + 2 ≤ 6) ∧
    standby.twin.count < standby.twin.l + 2 := by decide +kernel

/-- A head whose twin's identity is known. -/
def paired : State := { run with twin := { run.twin with lanes := 3 } }

theorem witness_SyncLinkEvents :
    (paired.twin.lanes = 3 ∧ pairDiffers paired.pairId { side := true, cfgId := paired.twin.cfgId } = 0 ∧ pairDiffers paired.pairId { cfgId := paired.twin.cfgId } ≠ 0 ∧
      paired.twin.ready = false ∧ paired.md.mode.heads = true ∧ paired.md.lapsed = false ∧ ({ paired.md with lapsed := true } : ModeRec).lapsed = true) ∧
    run.twin.lanes ≠ 3 ∧
    (standby.twin.valid = true ∧ standby.clk.fixed = true ∧ ({ cycle := 1000 } : ControlBlock).crcOk = true ∧ ({ cycle := 1000 } : ControlBlock).cycle = standby.clk.cycle ∧
      ({} : ControlBlock).gear.toNat = standby.clk.gear ∧ ({} : ControlBlock).shiftGear = 0 ∧ ({} : ControlBlock).cfgGen.toNat = standby.link.cfgGen ∧
      ({ cycle := 999 } : ControlBlock).cycle ≠ standby.clk.cycle ∧ ({ crcOk := false } : ControlBlock).crcOk = false) ∧
    (withTwin.twin.enable = true ∧ ({ withTwin with twin := { withTwin.twin with valid := true }, link := { withTwin.link with refresh := true } } : State).twin.valid = true) ∧
    (standby.link.refresh = false ∧ (1 : Word).toNat = (standby.link.cfgGen + 1) % 2 ^ 32 ∧ (2 : Word).toNat ≠ (standby.link.cfgGen + 1) % 2 ^ 32 ∧
      standby.clk.cycle < ({ effect := 1001 } : Forwarded).effect ∧ ({} : Forwarded).effect = 0) ∧
    (withTwin.md.mode.heads = true ∧ withTwin.twin.ready = true) := by decide +kernel

theorem witness_PlannedSwapEvents :
    (standby.standbyReady = true ∧ standby.clk.cycle < 1001 ∧ standby.clk.cycle ≥ 1000) ∧
    (({ run with link := { run.link with swap := some { e := some 1002 } } } : State).link.swap = some { e := some 1002 }) ∧
    (fld (0x00010049 : Word) 23 16 = 1 ∧ ({ withTwin with twin := { withTwin.twin with cfg := 0x00010049 } } : State).twinReady = true) ∧
    (standby.straps.lead = true ∧ standby.md.bootDone = true) := by decide +kernel

/-- A member with a shift, a move and a swap accepted. -/
def pended : State :=
  { memberDev with pend := { shift := some { gear := 3, e := 2000 }, move := some { src := 5, dst := 6, e := 2000 } }, link := { memberDev.link with swap := some {} } }

theorem witness_ClusterEvents :
    (lead.straps.lead = true ∧ lead.others.testBit 1 = true) ∧
    (memberDev.straps.lead = false ∧ memberDev.md.mode = .configure ∧ memberDev.clk.fixed = false ∧ pended.straps.lead = false ∧
      ({ run with straps := memberDev.straps } : State).md.mode ≠ .configure ∧ ({ run with straps := memberDev.straps } : State).md.mode ≠ .syncUp) ∧
    (lead.clu.out = [{ member := 1 }] ∧ ({ member := 1 } : Outgoing).member = (1 : Fin 4).val ∧ ({ member := 1 } : Outgoing).ref.opcode < 65536) ∧
    (({ waiting := 8 } : Gather).waiting.testBit 3 = true ∧ ({ waiting := 8 } : Gather).ref.opcode < 65536 ∧ conf.clu.out = [] ∧ conf.clu.gather = none) ∧
    (pended.pend.shift = some { gear := 3, e := 2000 } ∧ pended.pend.move = some { src := 5, dst := 6, e := 2000 } ∧ pended.link.swap = some {} ∧
      (hd []).len = 0 ∧ (hd [2001, 0]).len = 2 ∧ (hd [1]).len ≠ 0 ∧ memberDev.pend.shift = none ∧ memberDev.pend.move = none ∧ memberDev.link.swap = none) ∧
    (cmdOf (0xFFFF : BitVec 16).toNat = none ∧ (cmdOf (0x0101 : BitVec 16).toNat).isSome = true) ∧
    (lead.md.bootDone = true ∧ lead.twin.valid = false) ∧
    (lead.clu.lost.testBit 1 = false ∧ (1 : Fin 4).val ≠ lead.straps.cid ∧ ((({ lead with clu := { lead.clu with joined := 0, lost := 2 } } : State).raise 109 1 0).timeOut 1).md.mode.cycles = false) ∧
    (lead.md.mode = .configure ∧ (2 : Fin 4).val ≠ lead.straps.cid ∧ bit lead.clu.cfg 2 = true ∧ lead.clu.joined.testBit 2 = false ∧
      lead.pairId.stepping = ({} : PairId).stepping ∧ lead.pairId.fwMajor = ({} : PairId).fwMajor ∧ lead.pairId.fwMinor = ({} : PairId).fwMinor ∧
      lead.pairId.protocol = ({} : PairId).protocol ∧ memberDev.pairId.stepping = ({} : PairId).stepping ∧ memberDev.pairId.protocol = ({} : PairId).protocol) ∧
    (lead.clu.otherWay ≠ true) := by decide +kernel

/-! ## Hypotheses that are met: scheduler, pins, feedback, converters -/

/-- A head with one item of axis 5 posted. -/
def oneItem (x : Item) (left : Nat) : State := { withAxis true with sched := { run.sched with items := [x] }, budget := { run.budget with left := [(1, left), (2, left)] } }

/-- An axis item and a profile item of axis 5, their deadline 31,257,000. -/
def axisItem : Item := { axis := 5, charge := 400, deadline := 31257000, cycle := 1000 }
def profItem : Item := { kind := .profile, level := 2, axis := 5, charge := 400, deadline := 31280000, cycle := 1000 }

/-- The same item in the course of its computation on core 15. -/
def runItem : Item := { axisItem with stage := .running (.core 15) 31254900 }

theorem witness_SchedulerEvents :
    (∀ q ∈ [(axisItem, 400), (axisItem, 399), (profItem, 399)], (oneItem q.1 q.2).expireBefore.execFree (.core 15) = true ∧
      (oneItem q.1 q.2).expireBefore.sched.inService.testBit 15 = true ∧ (oneItem q.1 q.2).expireBefore.choose (.core 15) = some q.1 ∧
      ((oneItem q.1 q.2).expireBefore.ax q.1.axis).discards q.1.level = false) ∧
    ((oneItem axisItem 400).expireBefore.chargeFits axisItem = true ∧ (oneItem axisItem 399).expireBefore.chargeFits axisItem = false ∧
      (oneItem profItem 399).expireBefore.chargeFits profItem = false) ∧
    (run.expireBefore.choose .supervisor = none ∧ (oneItem runItem 400).expireBefore.execFree (.core 15) = false) ∧
    ((oneItem { axisItem with stage := .spilled } 0).sched.items.find? (fun y => y.level == 1 && y.stage == .spilled) = some { axisItem with stage := .spilled } ∧
      ((oneItem { axisItem with stage := .spilled } 0).sched.items.filter (fun y => y.level == 1 && y.stage == .queued)).length < 128) ∧
    ((oneItem runItem 400).runningOn (.core 15) = some (runItem, 31254900) ∧ (oneItem runItem 400).now ≤ 31254900 + 100 ∧
      (oneItem runItem 400).now ≤ 31254900 + 2 * runItem.charge) ∧
    ((((oneItem runItem 400).to 31255700).expireBefore).runningOn (.core 15) = some (runItem, 31254900)) ∧
    ((oneItem axisItem 400).deadlines.min? = some 31257000 ∧ run.deadlines = [] ∧
      (oneItem { axisItem with stage := .queued } 0).sched.items.find? (fun y => y.level == 2 && y.stage == .spilled) = none) := by decide +kernel

/-- Items of the filter and of the supervisor in hand, and one of a job that is done. -/
def chunkItem (st : Stage) : Item := { kind := .filter, level := 4, charge := 400, flow := some 4, stage := st, deadline := 31281250, cycle := 1000 }
def houseItem : Item := { kind := .house, level := 7, charge := 400, stage := .running .supervisor 31254900, deadline := 31281250, cycle := 1000 }

theorem witness_SchedulerOtherItems :
    (((oneItem (chunkItem (.running .filter 31254900)) 0).by 31255700).expireBefore.runningOn .filter = some (chunkItem (.running .filter 31254900), 31254900) ∧
      2 < (chunkItem .done).level ∧ (chunkItem .done).dead = false ∧ (chunkItem .done).kind = .filter) ∧
    (((oneItem houseItem 0).by 31255700).expireBefore.runningOn .supervisor = some (houseItem, 31254900) ∧ 2 < houseItem.level ∧
      houseItem.dead = false ∧ houseItem.kind = .house) ∧
    (((oneItem runItem 400).by 31255700).expireBefore.runningOn (.core 15) = some (runItem, 31254900) ∧ runItem.level ≤ 2 ∧
      (run.by 31255700).expireBefore.runningOn (.core 15) = none ∧ (oneItem runItem 400).runningOn (.core 15) = some (runItem, 31254900) ∧
      run.runningOn (.core 15) = none) ∧
    ((run.by 31255700).expireBefore.releasable 1 = none ∧ 4 ≤ (4 : Fin 64).val ∧
      ((oneItem (chunkItem .done) 0).by 31255700).expireBefore.sched.items.find?
        (fun y => y.flow == some 4 && y.stage == .done && y.fseq == Tbl.get 0 ((oneItem (chunkItem .done) 0).by 31255700).expireBefore.sched.heads 4) =
        some (chunkItem .done)) := by decide +kernel

/-- A head whose flow 1 can release the item of spoke 127 of chain 1. -/
theorem witness_Release :
    let it : Item := { axisItem with flow := some 1, spoke := 127, fseq := 127, stage := .done }
    (({ outSpoke { posted := true, confirmed := true } with sched := { run.sched with items := [it] } } : State).releasable 1) = some it := by decide +kernel

/-- A head with step output 15 at one microstep a cycle since the boundary, and pulse input 15 in A/B mode. -/
def pulses : State := (run.setStp 15 { cfg := 0x102, rate := 65536, since := 31250000, expiry := 31281250 }).setPin 15 { cfg := 0x101 }

/-- The same, with gating on and axis 5 at its positive limit, seen at a local input. -/
def gatedPulses : State :=
  { (pulses.setStp 15 { pulses.stp 15 with cfg := 0x20102 }).setAx 5 { stepAxis with cfg0 := 0xF0002E, prf2 := 2, enabled := true } with
    pins := { pulses.pins with lim := (List.range 16).map (fun k => (k, { p := 2 ^ 256 - 1 })), stp := (pulses.setStp 15 { pulses.stp 15 with cfg := 0x20102 }).pins.stp } }

theorem witness_PinEvents :
    pulses.pinsLive = true ∧ bit (pulses.pin 15).cfg 0 = true ∧ bit (pulses.pin 14).cfg 0 = false ∧
    ((pulses.stp 15).due pulses.tc = some 31281250 ∧ pulses.gated 15 (pulses.stp 15).dirNeg = false) ∧
    ((pulses.setStp 15 { pulses.stp 15 with cfg := 0x10102 }).stp 15).due pulses.tc = some 31281250 ∧
    (gatedPulses.gated 15 (gatedPulses.stp 15).dirNeg = true) ∧
    ((pulses.stp 15).rate ≠ 0 ∧ (pulses.stp 14).rate = 0 ∧ (pulses.stp 14).acc < 65536 * pulses.tc) ∧
    (({ edgeNow := 1 } : Capture).edgeNow.testBit (if true then 0 else 1) = true ∧ ({ edgeNow := 1 } : Capture).edgeNow.testBit (if false then 0 else 1) = false) := by
  decide +kernel

/-- A level that has held for 255 µs counts for every filter, one that has held for 0 µs for a filter of 0 only. -/
theorem test_level_held : levelHeld 0 true 255 = 2 ^ 256 - 1 ∧ levelHeld (2 ^ 256 - 1) false 0 = 2 ^ 256 - 2 := by decide +kernel

/-- A serial port with its offset 5,000 and no request out. -/
def idlePort : FbPort := { w0 := 0x061A1401, w3 := 5000 }

/-- The same with its request at 31,254,000. -/
def waiting : FbPort := { idlePort with request := some 31254000 }

theorem witness_FeedbackEvents :
    ((port15 { idlePort with w3 := 6000 }).clk.begun = true ∧ run.md.mode.heads = true ∧ idlePort.mode = 1 ∧ idlePort.complete = false ∧
      idlePort.request = none ∧ run.due (run.bNow + ({ idlePort with w3 := 6000 } : FbPort).offset) = true) ∧
    (standby.clk.begun = true ∧ standby.md.mode = .runStandby ∧ standby.bNow + idlePort.offset ≤ (standby.by 31256000).now ∧
      (standby.by 31256000).due (standby.bNow + idlePort.offset + idlePort.timeoutNs) = true) ∧
    (waiting.request = some 31254000 ∧ waiting.start = none ∧ 31254000 ≤ (run.by 31255000).now ∧
      (run.by 31255000).due (31254000 + waiting.timeoutNs) = true ∧ (run.by 41255000).due (31254000 + waiting.timeoutNs) = false) ∧
    ({ waiting with start := some 31255010 } : FbPort).start = some 31255010 ∧
    (run.pinsLive = true ∧ ({ w0 := 0x061A140B } : FbPort).mode = 3 ∧ ({ w0 := 0x061A140B } : FbPort).zClear = true ∧
      ({ w0 := 0x061A1402 } : FbPort).mode = 2 ∧ ({ w0 := 0x061A1402 } : FbPort).zClear = false ∧ ({ w0 := 0x061A1402 } : FbPort).lastSign = 0 ∧
      ({ w0 := 0x061A1402 } : FbPort).dirInv = false ∧ ({ w0 := 0x061A1406 } : FbPort).dirInv = true ∧
      ({} : FbPort).zAt ≠ some (run.by 31256000).now ∧ ({ zAt := some 31256000 } : FbPort).zAt = some (run.by 31256000).now) ∧
    (run.portCycle = true ∧ ({ w0 := 0x061A1402, w3 := 6000 } : FbPort).complete = false ∧
      run.due (run.bNow + ({ w0 := 0x061A1402, w3 := 6000 } : FbPort).offset) = true) := by decide +kernel

/-- A head whose converter CONV-P is as given. -/
def convP (c : Conv) : State := { run.setConv 1 c with bbr := { run.bbr with running := some 0 } }

/-- Converter CONV-P with trigger 2, its next start at 31,260,000 and each ms. -/
def timed : Conv := { w0 := 0x410, w4 := 1000, armed := true, next := some 31260000 }

/-- A sequence of one entry with the open-wire test, its limit 256 codes. -/
def wire : ConvRun := { w0 := 0x410, w1 := 1, seq := [(0, 0x800#32)] }

theorem witness_ConverterEvents :
    (run.pinsLive = true ∧ timed.off = false ∧ timed.armed = true ∧ timed.trig = 2 ∧ timed.next = some 31260000 ∧
      timed.run = none ∧ ({ timed with run := some {} } : Conv).run.isSome = true) ∧
    (((convP timed).to 31260000).now < ({ wire with until_ := 31270000 } : ConvRun).until_ ∧
      ({ wire with until_ := 31260000 } : ConvRun).until_ ≤ ((convP timed).to 31260000).now ∧
      Conv.seqLen wire.w0 ≤ wire.idx + 1 ∧ timed.again = none ∧ ({ timed with again := some 31260000 } : Conv).again ≠ none) ∧
    ((({ timed with run := some {} } : Conv).done 1 {} {} 20000000 31256000).openWire = none ∧
      (({ timed with run := some wire } : Conv).done 1 wire { vin := 300000000, second := 0 } 20000000 31256000).openWire = some 0) ∧
    (timed.cross = none ∧ timed.lock = false ∧ ({ timed with cross := some 255000, lock := true } : Conv).lock = true ∧
      105 * (convP timed).mainsNominal < 100 * ((run.by 31255000).now - 255000)) ∧
    (timed.refOk = false ∧ ({ timed with refOk := true } : Conv).refOk = true) := by decide +kernel

/-! ## Hypotheses that are met: safety, arbiter, records -/

/-- A head whose safety function has input 7 in use. -/
def safety : State := { run with safe := { run.safe with si := [(7, 0x00519001)], begun := true, cycle := 15 } }

/-- Input 7 has had contacts that differ since 11,255,000 (20 ms). -/
def differs : SafeIn := { a := { closed := true }, since := some 11255000 }

/-- RESTART has been pressed on both channels since `t1` and `t2`; it is 4 s after the origin. -/
def pressedAt (t1 t2 : Nat) : State :=
  { safety with clk := { safety.clk with tb := 4000000000 }, safe := { safety.safe with press1 := { since := some t1 }, press2 := { since := some t2 } } }

/-- Side B of pair 3 is energised, off-pulses of 400 µs come every 5 ms; the pair is under test where `under`. -/
def pulsing (under : Bool) : Safe :=
  { safety.safe with w1 := 0x01900005, sideB := 8, test := if under then { pairs := 8, zones := 1, until_ := 41255000 } else {} }

theorem witness_SafeEvents :
    (safety.safeRuns = true ∧ safety.safe.test.pairs = 0 ∧ safety.md.mode.heads = true ∧
      safety.safe.configured = true ∧ safety.safe.internal = false ∧ standby.safeRuns = true ∧ standby.md.mode = .runStandby ∧
      safety.safe.begun = true ∧ standby.safe.begun = false) ∧
    (let n := 16000 * max safety.safe.tSafe 1
     let v := (safety.to (safety.safe.sAt 16)).internalFault 3
     (95 * n ≤ 100 * n ∧ 100 * n ≤ 105 * n) ∧ 100 * 0 < 95 * n ∧ v.md.mode.heads = true ∧ v.safe.configured = true ∧ v.faults.stopLease = false ∧
     ((standby.to (standby.safe.sAt 16)).internalFault 3).md.mode.heads = false) ∧
    (safety.safe.evaluated = false ∧ conf.md.mode = .configure) ∧
    (Tbl.get {} [(7, differs)] 7 = differs ∧ fld (safety.safe.siw 7) 1 0 ≠ 0 ∧ differs.disc = false ∧ differs.a.closed ≠ differs.b.closed ∧
      conf.safeRuns = false) ∧
    (safety.md.mode.timed = true ∧ safety.safe.press1 = {} ∧ safety.safe.press2 = {} ∧ safety.safe.held = false ∧ safety.safe.stuck = false ∧
      safety.safe.pressedSince = none ∧ (pressedAt 3950000000 1000000000).safe.pressedSince ≠ none) ∧
    ((pressedAt 3950000000 1000000000).safe.press1.since = some 3950000000 ∧ (pressedAt 3950000000 1000000000).now = 3950000000 + 50000000 ∧
      (pressedAt 3950000000 1000000000).now = 1000000000 + 3000000000 ∧ (pressedAt 3950000001 0).now < 3950000001 + 50000000 ∧
      999999999 + 3000000000 < (pressedAt 999999999 0).now ∧ 3998999999 + 1000000 < (pressedAt 0 0).now) ∧
    (∀ under ∈ [true, false], (pulsing under).sideB.testBit 3 = true ∧ ((pulsing under).test.pairs = 0 ↔ under = false) ∧
      (safety.by (100000 + 31255000 + fld (pulsing under).w1 25 16 * 1000)).now ≤ 41255000) ∧
    ((pulsing false).pulseDue 3 true (5000000 + 2500000 + 3 * 625000) = true ∧ (pulsing false).pulseDue 3 true 1 = false ∧
      (pulsing false).pulseOk { off := some 50000, on := some 450000 } = true ∧ (pulsing false).pulseOk {} = false) ∧
    (safety.safe.pairFault.testBit 3 = false ∧ ({ safety.safe with pairFault := 8 } : Safe).pairFault.testBit 3 = true ∧
      Tbl.get 0 safety.safe.changedAt 3 + 100000 ≤ safety.now ∧ safety.now < Tbl.get 0 [(3, 31200000)] 3 + 100000) := by decide +kernel

/-- A resource with requests of 2 and 3, that of 3 due first; and one held by 2. -/
def asked : ArbRes := { raised := [{ who := 2, deadline := 31300000 }, { who := 3, deadline := 31290000 }] }
def heldRes (frames : Nat) : ArbRes := { holder := some 2, since := 31255000, frames := frames }

/-- A head with resource `r` as given. -/
def withRes (r : Nat) (x : ArbRes) : State := { run with arb := run.arb.put r x }

/-- A head with an entry to log, its log region marked as running so that it needs no seal. -/
def logging : State := { run with faults := { run.faults with log := [{ cls := 1 }] } }

theorem witness_ArbiterLogAndStageEvents :
    (∀ r ∈ [0, 1, 3], (withRes r asked).arb.get r = asked ∧
      bestReq run.now (asked.raised.filter (fun q => !asked.ignored.contains q.who)) = some { who := 3, deadline := 31290000 }) ∧
    bestReq run.now ((run.arb.get 3).raised.filter (fun q => !(run.arb.get 3).ignored.contains q.who)) = none ∧
    ((withRes 2 (heldRes 16)).arb.get 2 = heldRes 16 ∧ fld (withRes 2 (heldRes 16)).arb.w1 15 0 ≤ (heldRes 16).frames ∧
      (heldRes 15).frames < fld (withRes 2 (heldRes 15)).arb.w1 15 0) ∧
    ((withRes 0 (heldRes 0)).arb.get 0 = heldRes 0 ∧ (withRes 3 (heldRes 0)).arb.get 3 = heldRes 0) ∧
    ((staged 20).trace.stage = [{ body := [1] }] ∧ ((staged 16).chargeBytes 5 (staged 16).trace.recLen).isSome = true ∧
      ((staged 15).chargeBytes 5 (staged 15).trace.recLen).isNone = true ∧ (staged 16).trace.trigSlot = none ∧ (staged 16).trace.trigSample = none ∧
      run.trace.stage = []) ∧
    (logging.faults.log = [{ cls := 1 }] ∧ logging.bbr.lastLog = none ∧
      ({ logging with bbr := { logging.bbr with words := [(0x37C, 1)] } } : State).bbr.lastLog = some 31) ∧
    (({ run with fw := { run.fw with stage := some (.write true 0 [], {}) } } : State).fw.stage = some (.write true 0 [], {})) ∧
    (({ run with fw := { run.fw with stage := some (.verify true, {}) } } : State).fw.stage = some (.verify true, {})) ∧
    (({ conf with power := { conf.power with coreTest := some (15, {}) } } : State).power.coreTest = some ((15 : Fin 16).val, {}) ∧
      ({ conf with sched := { conf.sched with inService := 0x7FFF } } : State).sched.inService.testBit 15 = false) ∧
    (({ run with safe := { run.safe with waitArm := some ({}, 1255000) } } : State).safe.waitArm = some ({}, 1255000)) := by decide +kernel

/-- An image header that passes and one that does not. -/
theorem witness_Images : imageOk { svn := 0xFFFF } = true ∧ imageOk { sigOk := false } = false := by
  refine ⟨?_, by decide +kernel⟩
  have h := Config.minSvn.isLt
  simp [imageOk]
  omega

/-! ## Hypotheses that are met: detectors, power, boot -/

theorem witness_DetectorEvents :
    (run.host.fwRunning = true ∧ State.reset.host.fwRunning = false ∧ run.md.mode.timed = true ∧ run.twinReady = false ∧ withTwin.twinReady = true) ∧
    (run.faults.oscBad = false ∧ 5000 < (-5001 : Int).natAbs ∧ (5000 : Int).natAbs ≤ 5000) ∧
    (run.power.railWarn.testBit 0 = false ∧ ({ run.power with railWarn := 4 } : Power).railWarn.testBit 2 = true ∧ run.power.railFault.testBit 2 = false) ∧
    (railWarns 0 760 = false ∧ railFails 0 760 = false ∧ railWarns 5 (railNominal 5) = false ∧ railFails 5 (railNominal 5) = false) ∧
    (run.power.tempFault = false ∧ run.power.tempWarn = false ∧ ({ run.power with tempWarn := true } : Power).tempWarn = true) ∧
    (run.power.vbatLow = false) ∧ (3 : Fin 5).val < 4 := by decide +kernel

/-- A device held in reset, and one without its rails. -/
def inReset : State := { State.reset with md := { State.reset.md with mode := .reset } }
def dormant : State := { State.reset with md := { State.reset.md with mode := .dormant } }

theorem witness_PowerEvents :
    run.md.mode ≠ .dormant ∧ dormant.md.mode = .dormant ∧ inReset.md.mode = .reset ∧ run.md.mode ≠ .reset ∧ run.md.sysReset = none ∧
    ({ run.md with sysReset := some (true, 31355000) } : ModeRec).sysReset = some (true, 31355000) ∧ run.md.extest = false ∧
    ({ run.md with extest := true } : ModeRec).extest = true := by decide +kernel

/-- A device in BOOT: memories cleared or not, image verified or not, tested or not; BOOTSEL as given. -/
def booting (clearing imageOk tested : Bool) (bootsel : Nat := 1) (retained : Bool := false) : State :=
  { State.reset with
    md := { mode := .boot, clearing := clearing, retained := retained, imageOk := imageOk, tested := tested }
    straps := { State.reset.straps with bootsel := bootsel }, bbr := { running := some 0 } }

theorem witness_BootEvents :
    ((booting true false false).md.mode = .boot ∧ (booting true false false).md.clearing = true ∧ (booting true false false).md.asleep = false ∧
      (booting true false false).md.retained = false ∧ (booting true false false).straps.bootsel ≠ 3 ∧ (booting true false false 3).straps.bootsel = 3 ∧
      (booting true false false 1 true).md.retained = true) ∧
    ((booting false false false).md.clearing = false ∧ (booting false false false).host.loader = false ∧ (booting false false false).md.imageOk = false ∧
      (booting false false false).imageDue false = true ∧
      ({ booting false false false with md := { (booting false false false).md with tried := 1 } } : State).allTried = true ∧
      ({ booting false false false 0 with md := { (booting false false false).md with tried := 1 } } : State).allTried = false ∧
      (booting false false false 0).imageDue false = true) ∧
    ((booting false true false).md.imageOk = true ∧ (booting false true false).md.tested = false) ∧
    ((booting false true true).md.tested = true ∧ (booting false true true).host.loader = false ∧ (booting false true true).bootGear = 2 ∧
      (booting false true true).limitsOk 2 State.reset.ch0.active State.reset.ch1.active = true ∧ (booting false true true).curAxesOk 2 = true) := by
  decide +kernel

/-- A check of a seal leaves the mode and the safety unit as they are. -/
theorem checkSeal_keeps (s : State) (r : Nat) (b : Bool) : (s.checkSeal r b).safe = s.safe ∧ (s.checkSeal r b).md = s.md := by
  unfold State.checkSeal
  dsimp only
  split
  · split <;> simp
  · exact ⟨rfl, rfl⟩

/-- BOOT_DONE of such a device ends with no internal fault and no link seen. -/
theorem witness_BootDone (t : State) (h : t.safe.internal = false ∧ t.md.linkSeen = false) :
    let w := [0, 1, 2, 3].foldl (fun u r => u.checkSeal r true) t
    w.safe.internal = false ∧ w.md.linkSeen = false := by
  have k := fun (s : State) (r : Nat) => (checkSeal_keeps s r true).1
  have l := fun (s : State) (r : Nat) => (checkSeal_keeps s r true).2
  simp [List.foldl, k, l, h]

theorem witness_BootDoneState :
    let u : State := ({ booting false true true with
      md := { (booting false true true).md with bootDone := true }
      host := { (booting false true true).host with fwRunning := true, mbxReady := true } } : State).enter .configure 6
    (u.raise 1 0 0).safe.internal = false ∧ (u.raise 1 0 0).md.linkSeen = false := by decide +kernel

/-- A device of a pair in mode `m`, left port of chain 0 with an external PHY. -/
def wired (m : Mode) : State :=
  { md := { mode := m, lapsed := m == .configure }, twin := { cfg := 0x00180087 }, ch0 := { cfg := 0x488B5, portL := 2 } }

theorem witness_BallsFollowTheMode :
    ((wired .boot).portDark 0 false = true ∧ (wired .boot).phyReset 0 false = true ∧ (wired .dormant).phyReset 0 false = false) ∧
    ((wired .configure).md.mode = .configure ∧ bit (wired .configure).ch0.cfg 17 = false ∧ (wired .configure).sysFault = true) ∧
    (fld ((wired .syncUp).ch0.portW false) 1 0 = 2 ∧ (wired .syncUp).ch0.enabled = true ∧ (wired .safeHold).portDark 0 false = false) ∧
    ((wired .runStandby).twin.enable = true ∧ (wired .runStandby).drivesMotion = false ∧ (wired .runActive).drivesMotion = true) := by
  decide +kernel

end Sys2Proof.Tests
end

/-!
PROOF. Both lines of an incremental input changing in one sample (R230): the row of the edge, and what the latches of that cycle and of
the next one hold.
-/
namespace Sys2Proof.Machine

/-- A double edge is marked in the port's window; it counts nothing and raises no event of its own (R230). -/
@[simp] theorem FbPort.quadEdge_double (p : FbPort) (n t : Nat) : p.quadEdge n .double t = ({ p with dbl := true }, []) := rfl

/-- QUADRATURE_EDGE with a double edge on an incremental port: the port is marked and class 12 has an occurrence (R230). -/
theorem execQuadratureEdge_double {s : State} {n : Fin 16} {t : Nat} (live : s.pinsLive = true) (incremental : 2 ≤ (s.fbp n.val).mode) :
    execQuadratureEdge n .double t s = .next (((s.by t).setFb n.val { s.fbp n.val with dbl := true }).occur 12 n.val
      (fun st => some (71, n.val, st))) := by
  have port : (s.by t).fbp n.val = s.fbp n.val := rfl
  simp [execQuadratureEdge, port, live, Nat.not_lt.2 incremental, State.raiseAll]

/-! What a latch leaves in the port (R229 to R232). -/

@[simp] theorem FbPort.latch_count (p : FbPort) (ts tc : Nat) : (p.latch ts tc).count = p.count := rfl

@[simp] theorem FbPort.latch_doubleEdge (p : FbPort) (ts tc : Nat) : (p.latch ts tc).res.doubleEdge = p.dbl := rfl

@[simp] theorem FbPort.latch_discarded (p : FbPort) (ts tc : Nat) :
    (p.latch ts tc).res.discarded = (p.dbl || (p.edge && p.mode == 2 && p.revLast)) := rfl

/-- The velocity word is the velocity the latch holds. -/
@[simp] theorem FbPort.latch_vel (p : FbPort) (ts tc : Nat) : (p.latch ts tc).res.vel = wdi (p.latch ts tc).vPrev := rfl

/-- The velocity of a cycle with a double edge is not measured: the last one stands (R230). -/
theorem FbPort.latch_vPrev_of_dbl {p : FbPort} (later : p.firstLatch = false) (double : p.dbl = true) (ts tc : Nat) :
    (p.latch ts tc).vPrev = p.vPrev := by
  simp [FbPort.latch, later, double]

/-- The velocity of a cycle with single edges, the last of them no reversal, is measured from the reference to the last edge (R231). -/
theorem FbPort.latch_vPrev_of_edge {p : FbPort} (later : p.firstLatch = false) (single : p.dbl = false) (edge : p.edge = true)
    (forth : p.revLast = false) (ts tc : Nat) :
    (p.latch ts tc).vPrev = satS 32 (divRne (sgn 32 (ubits 32 (p.ce - p.cr)) * tc * 65536) (p.te - p.tr)) := by
  simp [FbPort.latch, later, single, edge, forth]

/-- The next reference is the last single edge of the cycle, where there was one (R231). -/
theorem FbPort.latch_reference_of_edge {p : FbPort} (edge : p.edge = true) (ts tc : Nat) :
    (p.latch ts tc).cr = p.ce ∧ (p.latch ts tc).tr = p.te := by
  simp [FbPort.latch, edge]

/-- After a cycle whose only edges are double ones the next reference is the latch itself (R230). -/
theorem FbPort.latch_reference_of_dbl_alone {p : FbPort} (double : p.dbl = true) (alone : p.edge = false) (ts tc : Nat) :
    (p.latch ts tc).cr = p.count ∧ (p.latch ts tc).tr = ts := by
  simp [FbPort.latch, double, alone]

/-- Settles O55: the row marks the port and counts the occurrence; the latch of that cycle keeps the velocity and sets the reference
from which the next latch measures. -/
theorem doubleEdge : Obligations.DoubleEdge := by
  unfold Obligations.DoubleEdge
  rintro s _ n _ t live incremental rfl rfl
  refine ⟨execQuadratureEdge_double live incremental, ?_⟩
  rintro _ ts tc double rfl
  refine ⟨FbPort.latch_count .., ?_, ?_, fun later => ?_, fun edge => FbPort.latch_reference_of_edge edge ts tc,
    fun alone => FbPort.latch_reference_of_dbl_alone double alone ts tc, ?_⟩
  · simp [double]
  · simp [double]
  · simp [FbPort.latch_vPrev_of_dbl later double]
  · intro e ts' tc' sameCount sameTime edge single forth later
    rw [← sameCount, ← sameTime]
    exact FbPort.latch_vPrev_of_edge later single edge forth ts' tc'

end Sys2Proof.Machine

/-!
PROOF. A read-back that fails (R274): the pair is off on both sides with a lasting fault, the fault is an internal one (R281), and no
class that is counted in windows sees an occurrence (R406).
-/
namespace Sys2Proof.Machine

/-! What an internal fault leaves of the output pairs: each operation it is made of keeps a faulty pair off. -/

/-- Setting the listed bits one by one, bit by bit. -/
theorem testBit_foldl_or (k : Nat) (l : List Nat) :
    ∀ a : Nat, (l.foldl (fun a i => a ||| 2 ^ i) a).testBit k = (a.testBit k || decide (k ∈ l)) := by
  induction l with
  | nil => simp
  | cons i l ih =>
    intro a
    rw [List.foldl_cons, ih, Nat.testBit_or, Nat.testBit_two_pow]
    simp [Bool.or_assoc, eq_comm]

/-- The set bits of `ofBits l` are those listed. -/
theorem ofBits_testBit (l : List Nat) (k : Nat) : (ofBits l).testBit k = decide (k ∈ l) := by
  simp [ofBits, testBit_foldl_or]

/-- Pair n has a lasting fault and is not under the test of a re-arming edge (R274, R276). -/
def Safe.PairBarred (f : Safe) (n : Nat) : Prop := f.pairFault.testBit n = true ∧ f.test.pairs.testBit n = false

/-- A barred pair with both sides de-energised. -/
def Safe.PairDown (f : Safe) (n : Nat) : Prop := f.PairBarred n ∧ f.sideA.testBit n = false ∧ f.sideB.testBit n = false

theorem Safe.failPair_pairBarred (f : Safe) (n : Nat) : (f.failPair n).PairBarred n := by
  simp [Safe.failPair, Safe.PairBarred, Nat.testBit_or, sub_and_testBit]

/-- A channel does not energise a barred pair (R259). -/
theorem State.pairOn_of_pairBarred {s : State} {n : Nat} (barred : s.safe.PairBarred n) : s.pairOn n = false := by
  obtain ⟨fault, untested⟩ := barred
  simp [State.pairOn, fault, untested]

@[simp] theorem State.drivePairs_faults (s : State) : s.drivePairs.faults = s.faults := rfl

@[simp] theorem State.drivePairs_md (s : State) : s.drivePairs.md = s.md := rfl

@[simp] theorem State.drivePairs_internal (s : State) : s.drivePairs.safe.internal = s.safe.internal := rfl

@[simp] theorem State.drivePairs_pairBarred (s : State) (n : Nat) : s.drivePairs.safe.PairBarred n ↔ s.safe.PairBarred n := Iff.rfl

theorem State.drivePairs_pairDown {s : State} {n : Nat} (barred : s.safe.PairBarred n) : s.drivePairs.safe.PairDown n := by
  have off : (ofBits ((List.range 4).filter (fun k => s.pairOn k))).testBit n = false := by
    simp [ofBits_testBit, State.pairOn_of_pairBarred barred]
  exact ⟨barred, off, off⟩

/-- An entry into STO leaves the safety function, or drives the pairs with their faults, their test and the internal fault as before. -/
theorem State.enterSto_safe_cases (s : State) (z c : Nat) : (s.enterSto z c).safe = s.safe ∨
    ∃ f : Safe, (s.enterSto z c).safe = ({ s with safe := f } : State).drivePairs.safe ∧ f.pairFault = s.safe.pairFault ∧
      f.test.pairs = s.safe.test.pairs ∧ f.internal = s.safe.internal := by
  by_cases old : z % 256 - (z % 256 &&& s.safe.sto) = 0
  · rw [s.enterSto_old z c old]
    split
    · exact .inl rfl
    · exact .inr ⟨_, rfl, rfl, rfl, rfl⟩
  · exact .inr ⟨_, (s.enterSto_new z c _ rfl old).2.1, rfl, rfl, rfl⟩

theorem State.enterSto_pairDown {s : State} {n : Nat} (down : s.safe.PairDown n) (z c : Nat) : (s.enterSto z c).safe.PairDown n := by
  obtain same | ⟨f, driven, faults, tested, -⟩ := s.enterSto_safe_cases z c
  · rwa [same]
  · obtain ⟨⟨fault, untested⟩, -⟩ := down
    rw [driven]
    exact State.drivePairs_pairDown ⟨faults ▸ fault, tested ▸ untested⟩

@[simp] theorem State.enterSto_internal (s : State) (z c : Nat) : (s.enterSto z c).safe.internal = s.safe.internal := by
  obtain same | ⟨f, driven, -, -, internal⟩ := s.enterSto_safe_cases z c
  · rw [same]
  · rw [driven, State.drivePairs_internal, internal]

/-! What a fixed class changes of the fault classes (R405, R406): its own entry, and the log. -/

@[simp] theorem State.fixedFault_safe (s : State) (cls idx r : Nat) : (s.fixedFault cls idx r).safe = s.safe := by
  unfold State.fixedFault
  dsimp only
  split <;> rfl

@[simp] theorem State.fixedFault_md (s : State) (cls idx r : Nat) : (s.fixedFault cls idx r).md = s.md := by
  unfold State.fixedFault
  dsimp only
  split <;> rfl

/-- The classes counted in windows, 1 to 20, stand in `g` as in `f` (Table 17.1). -/
def Faults.SameWindows (f g : Faults) : Prop := g.transient = f.transient ∧ ∀ cls idx, cls ≤ 20 → g.get cls idx = f.get cls idx

theorem Faults.SameWindows.refl (f : Faults) : f.SameWindows f := ⟨rfl, fun _ _ _ => rfl⟩

theorem Faults.SameWindows.trans {f g h : Faults} (a : f.SameWindows g) (b : g.SameWindows h) : f.SameWindows h :=
  ⟨b.1.trans a.1, fun cls idx le => (b.2 cls idx le).trans (a.2 cls idx le)⟩

@[simp] theorem Faults.putInst_transient (f : Faults) (x : FaultInst) : (f.putInst x).transient = f.transient := by
  unfold Faults.putInst
  split <;> rfl

theorem State.fixedFault_sameWindows (s : State) {cls : Nat} (fixed : 20 < cls) (idx r : Nat) :
    s.faults.SameWindows (s.fixedFault cls idx r).faults := by
  unfold State.fixedFault
  dsimp only
  split
  · refine ⟨Faults.putInst_transient _ _, fun c i le => Faults.get_putInst_ne _ _ c i ?_⟩
    rw [Faults.get_cls]
    omega
  · exact Faults.SameWindows.refl _

/-! The internal fault of a head (R281). -/

/-- A mode change still to come leaves the safety function and the fault classes. -/
theorem State.modeAtBoundary_safe_faults (s : State) (m : Mode) (c : Nat) :
    (s.modeAtBoundary m c).safe = s.safe ∧ (s.modeAtBoundary m c).faults = s.faults := by
  unfold State.modeAtBoundary
  split
  · exact ⟨rfl, rfl⟩
  · split <;> exact ⟨rfl, rfl⟩

/-- SAFE-HOLD demanded of a head waits for the boundary: the safety function and the fault classes stay. -/
theorem State.demandHold_of_heads {s : State} (heads : s.md.mode.heads = true) :
    s.demandHold.safe = s.safe ∧ s.demandHold.faults = s.faults := by
  unfold State.demandHold
  cases mode : s.md.mode with
  | runActive => exact s.modeAtBoundary_safe_faults .safeHold 4
  | safeHold => exact ⟨rfl, rfl⟩
  | _ => simp [mode, Mode.heads] at heads

/-- The internal fault marked, the pairs driven and event 93 raised: what every internal fault begins with. -/
def State.markInternal (s : State) (code : Nat) : State :=
  ({ s with safe := { s.safe with internal := true } } : State).drivePairs.raise 93 code 0

/-- A new internal fault is logged as class 35 (R411). -/
def State.logInternal (s : State) (code : Nat) : State := (s.markInternal code).fixedFault 35 0 5

/-- An internal fault by its cases (R281): one that stands already is only reported; otherwise it is logged too, the active of a twin lets
its lease run out, and any other head enters STO and demands SAFE-HOLD. -/
theorem State.internalFault_eq (s : State) (code : Nat) : s.internalFault code =
    if s.safe.internal then s.markInternal code
    else if s.md.mode = .runStandby then s.logInternal code
    else if s.twin.enable && s.md.mode.heads then
      { s.logInternal code with faults := { (s.logInternal code).faults with stopLease := true } }
    else ((s.logInternal code).enterSto 255 7).demandHold := rfl

/-- What stands of a faulty pair on a head from the mark of the internal fault to its end: the pair is off, the internal fault is
lasting, and the classes counted in windows are those of the faults `f` before it. -/
structure State.FailsPair (t : State) (n : Nat) (f : Faults) : Prop where
  down : t.safe.PairDown n
  internal : t.safe.internal = true
  windows : f.SameWindows t.faults

theorem State.markInternal_failsPair {s : State} {n : Nat} {f : Faults} (barred : s.safe.PairBarred n)
    (windows : f.SameWindows s.faults) (code : Nat) : (s.markInternal code).FailsPair n f where
  down := by
    rw [State.markInternal, State.raise_safe]
    exact State.drivePairs_pairDown barred
  internal := by simp [State.markInternal]
  windows := by simpa [State.markInternal] using windows

theorem State.FailsPair.fixedFault {t : State} {n : Nat} {f : Faults} (fails : t.FailsPair n f) {cls : Nat} (fixed : 20 < cls)
    (idx r : Nat) : (t.fixedFault cls idx r).FailsPair n f where
  down := by simpa using fails.down
  internal := by simpa using fails.internal
  windows := fails.windows.trans (t.fixedFault_sameWindows fixed idx r)

theorem State.FailsPair.enterSto {t : State} {n : Nat} {f : Faults} (fails : t.FailsPair n f) (z c : Nat) :
    (t.enterSto z c).FailsPair n f where
  down := State.enterSto_pairDown fails.down z c
  internal := by simpa using fails.internal
  windows := by simpa using fails.windows

theorem State.FailsPair.demandHold {t : State} {n : Nat} {f : Faults} (fails : t.FailsPair n f) (heads : t.md.mode.heads = true) :
    t.demandHold.FailsPair n f := by
  obtain ⟨safe, faults⟩ := State.demandHold_of_heads heads
  exact ⟨safe ▸ fails.down, safe ▸ fails.internal, faults ▸ fails.windows⟩

/-- An internal fault leaves a barred pair of a head off, whichever way it reacts. -/
theorem State.internalFault_failsPair {s : State} {n : Nat} {f : Faults} (heads : s.md.mode.heads = true)
    (barred : s.safe.PairBarred n) (windows : f.SameWindows s.faults) (code : Nat) : (s.internalFault code).FailsPair n f := by
  have marked : (s.markInternal code).FailsPair n f := State.markInternal_failsPair barred windows code
  have logged : (s.logInternal code).FailsPair n f := marked.fixedFault (by decide) 0 5
  rw [State.internalFault_eq]
  have held : ((s.logInternal code).enterSto 255 7).md.mode.heads = true := by
    simpa [State.logInternal, State.markInternal] using heads
  by_cases standing : s.safe.internal = true
  · rw [if_pos standing]
    exact marked
  · rw [if_neg standing]
    by_cases standby : s.md.mode = .runStandby
    · rw [if_pos standby]
      exact logged
    · rw [if_neg standby]
      by_cases active : (s.twin.enable && s.md.mode.heads) = true
      · rw [if_pos active]
        exact ⟨logged.down, logged.internal, logged.windows⟩
      · rw [if_neg active]
        exact (logged.enterSto 255 7).demandHold held

/-! The row of a failed read-back (R273, R274). -/

/-- The time base of a head runs (Table 18.1). -/
theorem Mode.timed_of_heads {m : Mode} : m.heads = true → m.timed = true := by cases m <;> decide

/-- OUT_TEST_FAIL on a head: a level that differs from a command which has stood for 100 µs fails a pair that has not failed yet. -/
theorem execOutTestFail_of_heads {s : State} {p : Fin 4} {b x : Bool} (heads : s.md.mode.heads = true)
    (sound : s.safe.pairFault.testBit p.val = false) (differs : x ≠ s.safe.side p.val b)
    (stands : Tbl.get 0 s.safe.changedAt p.val + 100000 ≤ s.now) : execOutTestFail p b x s = .next (s.outFail p.val b) := by
  simp [execOutTestFail, Mode.timed_of_heads heads, sound, differs, stands]

/-- A failed read-back of a head takes its pair down as an internal fault, and no window counts it (R274, R281, R406). -/
theorem State.outFail_failsPair {s : State} (heads : s.md.mode.heads = true) (n : Nat) (b : Bool) :
    (s.outFail n b).FailsPair n s.faults := by
  unfold State.outFail
  refine State.internalFault_failsPair ?_ ?_ ?_ 6
  · simpa using heads
  · simpa using s.safe.failPair_pairBarred n
  · refine Faults.SameWindows.trans ?_ (State.fixedFault_sameWindows _ (by decide) _ _)
    simpa using Faults.SameWindows.refl s.faults

/-- Settles O56: the row is `outFail`, and the internal fault that ends it keeps the pair off and the counted classes as they were. -/
theorem failedReadBack : Obligations.FailedReadBack := by
  unfold Obligations.FailedReadBack
  intro s t p b x heads sound differs stands goes
  have result : t = s.outFail p.val b :=
    (Host.Outcome.next.inj ((execOutTestFail_of_heads heads sound differs stands).symm.trans goes)).symm
  obtain ⟨⟨⟨fault, -⟩, offA, offB⟩, internal, transient, windows⟩ := State.outFail_failsPair heads p.val b
  rw [result]
  exact ⟨rfl, offA, offB, fault, internal, transient, windows⟩

end Sys2Proof.Machine

/-!
PROOF. The event queue when it is full and when space returns (R359): what an entry does in each case, and the EVENT_LOST entry that goes
before it.
-/
namespace Sys2Proof.Machine

/-! The pending bit of an event that is signalled (R358, R360). -/

@[simp] theorem putBit_testBit_self (v i : Nat) : (putBit v i true).testBit i = true := by
  simp [putBit, Nat.testBit_or, Nat.testBit_two_pow_self]

/-- A message leaves the pending bits, whether it is sent or waits in the pending-bit array. -/
@[simp] theorem Irq.message_pend (q : Irq) (up : Bool) (v : Nat) : (q.message up v).pend = q.pend := by
  unfold Irq.message
  split <;> rfl

@[simp] theorem Irq.set_pend (q : Irq) (pcie up : Bool) (e : Nat) : (q.set pcie up e).pend = putBit q.pend e true := by
  unfold Irq.set
  split
  · rw [Irq.message_pend]
  · rfl

theorem State.signal_pend_testBit (s : State) (e : Nat) : (s.signal e).irq.pend.testBit e = true := by
  simp [State.signal]

/-! One entry for the queue: lost, or written (R359). -/

theorem HostPort.pushEvt_of_full {h : HostPort} (full : h.evtCount = 256) (w : List Word) :
    h.pushEvt w = { h with lost := cadd h.lost 1, evtLost := true } := if_pos full

theorem HostPort.pushEvt_of_space {h : HostPort} (space : h.evtCount ≠ 256) (w : List Word) :
    h.pushEvt w = { h with evtMem := evtInsert h.evtMem h.evtTail w h.evtCount, evtTail := (h.evtTail + 1) % 512 } := if_neg space

/-! The EVENT_LOST entry (R359): none while nothing is lost or the queue is full, and one for all that is lost once space returns. -/

theorem State.flushLost_of_none {s : State} (nothing : s.host.lost = 0) : s.flushLost = s := by
  simp [State.flushLost, nothing]

theorem State.flushLost_of_full {s : State} (full : s.host.evtCount = 256) : s.flushLost = s := by
  simp [State.flushLost, full]

theorem State.flushLost_of_space {s : State} (lost : s.host.lost ≠ 0) (space : s.host.evtCount ≠ 256) :
    s.flushLost = ({ s with host := { s.host.pushEvt (eventWords 121 false s.straps.cid 0 s.host.lost s.now) with lost := 0 } } : State).signal 121 := by
  simp [State.flushLost, lost, space]

/-- Once written, the EVENT_LOST entry is not written again. -/
theorem State.flushLost_flushLost (s : State) : s.flushLost.flushLost = s.flushLost := by
  by_cases nothing : s.host.lost = 0
  · rw [State.flushLost_of_none nothing, State.flushLost_of_none nothing]
  · by_cases full : s.host.evtCount = 256
    · rw [State.flushLost_of_full full, State.flushLost_of_full full]
    · rw [State.flushLost_of_space nothing full]
      exact State.flushLost_of_none rfl

/-- An event that comes after the EVENT_LOST entry does what it does by itself when that entry is due: the entry stands before it. -/
theorem State.post_flushLost (s : State) (n : Nat) (w : List Word) : s.flushLost.post n w = s.post n w := by
  rw [State.post, State.flushLost_flushLost, State.post]

/-- An event of a full queue is lost, and pending all the same. -/
theorem State.post_of_full {s : State} (full : s.host.evtCount = 256) (n : Nat) (w : List Word) :
    s.post n w = ({ s with host := { s.host with lost := cadd s.host.lost 1, evtLost := true } } : State).signal n := by
  rw [State.post, State.flushLost_of_full full, HostPort.pushEvt_of_full full]

/-- No entry moves before an EVENT_LOST entry at the end of the queue (R359 over R412). -/
theorem evtInsert_after_lost {mem : Tbl Word} {tail : Nat}
    (last : fld (pw (Tbl.getRange 0 mem (4 * ((tail + 511) % 256)) 4) 0) 6 0 = 121) (w : List Word) (k : Nat) :
    evtInsert mem tail w k = Tbl.putRange mem (4 * (tail % 256)) w := by
  cases k with
  | zero => rfl
  | succ k => simp only [evtInsert, last, bne_self_eq_false, Bool.and_false, Bool.false_and, Bool.false_eq_true, if_false]

theorem goes_eventLost_iff {s t : State} : Goes .eventLost s t ↔ s.flushLost = t :=
  ⟨Host.Outcome.next.inj, congrArg Host.Outcome.next⟩

/-- Settles O53: with a full queue `post` only counts and signals; EVENT_LOST is `flushLost`, which `post` begins with and which comes
about once. -/
theorem eventQueueOverflow : Obligations.EventQueueOverflow := by
  unfold Obligations.EventQueueOverflow
  intro s t n w
  refine ⟨?_, ?_, fun _ _ => ⟨_, goes_eventLost_iff.2 rfl⟩, fun mem tail k last => evtInsert_after_lost last w k⟩
  · rintro full rfl
    have pending := ({ s with host := { s.host with lost := cadd s.host.lost 1, evtLost := true } } : State).signal_pend_testBit n
    rw [State.post_of_full full]
    exact ⟨rfl, rfl, pending, rfl, rfl⟩
  · intro lost space goes
    obtain rfl := goes_eventLost_iff.1 goes
    refine ⟨?_, ?_, ?_, ?_, (s.post_flushLost n w).symm⟩ <;> rw [State.flushLost_of_space lost space]
    · rw [State.signal_host, HostPort.pushEvt_of_space space]
    · rw [State.signal_host, HostPort.pushEvt_of_space space]
    · rfl
    · exact State.signal_pend_testBit _ 121

end Sys2Proof.Machine

/-!
PROOF. The indices the host writes (R353): a write that is ignored with `HS.DB_ERR`, and one that moves the index.
-/
namespace Sys2Proof.Machine

/-- No bit stands above the `k` low ones. -/
theorem within_low_bits (v : Word) (k : Nat) : within v (2 ^ k - 1) = decide (v.toNat < 2 ^ k) := by
  rw [within, Nat.and_two_pow_sub_one_eq_mod, Bool.eq_iff_iff, beq_iff_eq, decide_eq_true_iff, eq_comm, Nat.mod_eq_iff_lt (by simp)]

/-! Each index of a ready mailbox: ignored beyond its field or its queue, moved otherwise. -/

/-- `CMDQ_TAIL`: the queue holds at most 64 commands. -/
theorem State.cmdTailWrite_of_ready {s : State} (ready : s.host.mbxReady = true) (v : Word) : s.cmdTailWrite v =
    if 128 ≤ v.toNat ∨ 64 < (v.toNat + 128 - s.host.cmdHead) % 128 then s.dbErr
    else { s with host := { s.host with cmdTail := v.toNat } } := by
  have field : within v 127 = decide (v.toNat < 128) := within_low_bits v 7
  simp [State.cmdTailWrite, ready, field]

/-- `RSPQ_HEAD`: not beyond the device's tail. -/
theorem State.rspHeadWrite_of_ready {s : State} (ready : s.host.mbxReady = true) (v : Word) : s.rspHeadWrite v =
    if 128 ≤ v.toNat ∨ (s.host.rspTail + 128 - s.host.rspHead) % 128 < (v.toNat + 128 - s.host.rspHead) % 128 then s.dbErr
    else { s with host := { s.host with rspHead := v.toNat } } := by
  have field : within v 127 = decide (v.toNat < 128) := within_low_bits v 7
  simp [State.rspHeadWrite, ready, field]

/-- `EVTQ_HEAD`: not beyond the device's tail. -/
theorem State.evtHeadWrite_of_ready {s : State} (ready : s.host.mbxReady = true) (v : Word) : s.evtHeadWrite v =
    if 512 ≤ v.toNat ∨ (s.host.evtTail + 512 - s.host.evtHead) % 512 < (v.toNat + 512 - s.host.evtHead) % 512 then s.dbErr
    else { s with host := { s.host with evtHead := v.toNat } } := by
  have field : within v 511 = decide (v.toNat < 512) := within_low_bits v 9
  simp [State.evtHeadWrite, ready, field]

/-! The rows of an open port: a write of BAR0 between two keys is a key fault first (R254), and the command queue is served after the
two indices that may let a command be taken (R354). -/

theorem goes_cmdqTailWrite {s : State} (isOpen : s.portOpen = true) (v : Word) :
    Goes (.cmdqTailWrite v) s (s.bar0Write.cmdTailWrite v).serve := by
  have write : s.regWrite 0x10 v = s.bar0Write.cmdTailWrite v := by simp [State.regWrite, isOpen]
  rw [← write]
  rfl

theorem goes_rspqHeadWrite {s : State} (isOpen : s.portOpen = true) (v : Word) :
    Goes (.rspqHeadWrite v) s (s.bar0Write.rspHeadWrite v).serve := by
  have write : s.regWrite 0x18 v = s.bar0Write.rspHeadWrite v := by simp [State.regWrite, isOpen]
  rw [← write]
  rfl

theorem goes_evtqHeadWrite {s : State} (isOpen : s.portOpen = true) (v : Word) :
    Goes (.evtqHeadWrite v) s (s.bar0Write.evtHeadWrite v) := by
  have write : s.regWrite 0x20 v = s.bar0Write.evtHeadWrite v := by simp [State.regWrite, isOpen]
  rw [← write]
  rfl

/-- Settles O54: each row is the write of its index in the state after the BAR0 write, and the index's two cases are those of the
statement. -/
theorem indexWriteRules : Obligations.IndexWriteRules := by
  unfold Obligations.IndexWriteRules
  rintro s _ v isOpen rfl ready
  have cmd := goes_cmdqTailWrite isOpen v
  have rsp := goes_rspqHeadWrite isOpen v
  have evt := goes_evtqHeadWrite isOpen v
  rw [State.cmdTailWrite_of_ready ready] at cmd
  rw [State.rspHeadWrite_of_ready ready] at rsp
  rw [State.evtHeadWrite_of_ready ready] at evt
  refine ⟨fun beyond => ?_, fun low holds => ?_, fun beyond => ?_, fun low holds => ?_, fun beyond => ?_, fun low holds => ?_⟩
  · rwa [if_pos beyond] at cmd
  · rwa [if_neg (by omega)] at cmd
  · rwa [if_pos beyond] at rsp
  · rwa [if_neg (by omega)] at rsp
  · rwa [if_pos beyond] at evt
  · rwa [if_neg (by omega)] at evt

end Sys2Proof.Machine

/-!
PROOF. Steps and instants (R14, R15): the front command, the tick of an empty queue, the ticks an instant stands for, and that no command stops the
block (log entries 1 and 2).
-/
namespace Sys2Proof.Machine

/-- Settles O1: a step on a queue with a front command is that command's meaning, by definition. -/
theorem stepTakesFrontCommand : Obligations.StepTakesFrontCommand := by
  unfold Obligations.StepTakesFrontCommand
  intro c rest s
  rfl

theorem step_empty {s : State} (empty : s.pending = []) : step s = .next s.tick := by simp [step, empty]

theorem Clk.inc_int {c : Clk} (slow : c.rate.natAbs ≤ 858993) : (c.inc : Int) = 5 * 4294967296 + 5 * c.rate := by
  unfold Clk.inc
  omega

/-- A clock some ticks later shows its number of 2^-32 ns, wrapped at 2^96 (R14). -/
theorem Clk.after_total (c : Clk) (k : Nat) : (c.after k).total = (c.total + k * c.inc) % 2 ^ 96 := by
  simp only [Clk.after, Clk.total]
  generalize 4294967296 * c.tb + c.frac + k * c.inc = x
  omega

@[simp] theorem Clk.after_inc (c : Clk) (k : Nat) : (c.after k).inc = c.inc := rfl

/-- Settles O2: a tick in a timed mode is one tick of the clock, and the device's other modes have none. -/
theorem emptyQueueIsOneTick : Obligations.EmptyQueueIsOneTick := by
  unfold Obligations.EmptyQueueIsOneTick
  intro s empty slow frac tb
  rw [step_empty empty]
  refine ⟨fun idle => by simp [State.tick, idle], fun timed => ⟨s.clk.tick.tb, s.clk.tick.frac, ?_, ?_, ?_, ?_⟩⟩
  · exact Nat.mod_lt _ (by decide)
  · exact Nat.mod_lt _ (by decide)
  · have total := s.clk.after_total 1
    have inc := Clk.inc_int slow
    simp only [Clk.total, Nat.one_mul] at total
    unfold Clk.tick
    omega
  · simp [State.tick, timed, Clk.tick, Clk.after]

/-- No tick changes nothing. -/
theorem Clk.after_zero {c : Clk} (frac : c.frac < 2 ^ 32) (tb : c.tb < 2 ^ 64) : c.after 0 = c := by
  have seconds : (4294967296 * c.tb + c.frac) / 4294967296 % 2 ^ 64 = c.tb := by omega
  have rest : (4294967296 * c.tb + c.frac) % 4294967296 = c.frac := by omega
  simp only [Clk.after, Clk.total, Nat.zero_mul, Nat.add_zero, seconds, rest]

/-- The next tick is one tick of the clock as it stands. -/
theorem Clk.after_succ (c : Clk) (k : Nat) : c.after (k + 1) = (c.after k).tick := by
  have total := c.after_total k
  have step : c.total + (k + 1) * c.inc = c.total + k * c.inc + c.inc := by rw [Nat.succ_mul, Nat.add_assoc]
  rw [Clk.tick, Clk.after, Clk.after, Clk.after_inc, step, total, Nat.one_mul]
  generalize c.total + k * c.inc = x
  have counter : (x + c.inc) / 4294967296 % 2 ^ 64 = (x % 2 ^ 96 + c.inc) / 4294967296 % 2 ^ 64 := by omega
  have rest : (x + c.inc) % 4294967296 = (x % 2 ^ 96 + c.inc) % 4294967296 := by omega
  rw [counter, rest]
  rfl

/-- Before the counter wraps the clock's number grows by the increment of each tick. -/
theorem Clk.after_total_of_lt {c : Clk} {k : Nat} (low : c.total + k * c.inc < 2 ^ 96) : (c.after k).total = c.total + k * c.inc := by
  rw [Clk.after_total, Nat.mod_eq_of_lt low]

/-- The counter is the whole part of the clock's number. -/
theorem Clk.after_tb_of_lt {c : Clk} {k : Nat} (low : c.total + k * c.inc < 2 ^ 96) :
    (c.after k).tb = (c.total + k * c.inc) / 4294967296 := by
  rw [Clk.after]
  dsimp only
  omega

/-! The two instants of a clock that has not wrapped (R14, R15): `until` is the least number of ticks that reaches `t`, `by` the greatest
that does not pass it. -/

/-- An increment is about 5 ns at every rate. -/
theorem Clk.inc_bounds {c : Clk} (slow : c.rate.natAbs ≤ 858993) : 0 < c.inc ∧ c.inc < 6 * 4294967296 := by
  have inc := Clk.inc_int slow
  omega

theorem Clk.total_until_bounds {c : Clk} (t : Nat) (inc : 0 < c.inc) :
    4294967296 * t ≤ c.total + c.until t * c.inc ∧ (c.until t = 0 ∨ c.total + c.until t * c.inc < 4294967296 * t + c.inc) := by
  have least : c.until t * c.inc ≤ 4294967296 * t - c.total + (c.inc - 1) := Nat.div_mul_le_self _ _
  have reaches : 4294967296 * t - c.total + (c.inc - 1) < c.until t * c.inc + c.inc := Nat.lt_div_mul_add inc
  refine ⟨by omega, ?_⟩
  by_cases later : c.total < 4294967296 * t
  · exact .inr (by omega)
  · exact .inl (Nat.div_eq_of_lt (by omega))

theorem Clk.total_by_bounds {c : Clk} (t : Nat) (inc : 0 < c.inc) :
    4294967296 * t + 4294967295 < c.total + c.by t * c.inc + c.inc ∧ (c.by t = 0 ∨ c.total + c.by t * c.inc ≤ 4294967296 * t + 4294967295) := by
  have greatest : c.by t * c.inc ≤ 4294967295 + 4294967296 * t - c.total := Nat.div_mul_le_self _ _
  have passes : 4294967295 + 4294967296 * t - c.total < c.by t * c.inc + c.inc := Nat.lt_div_mul_add inc
  refine ⟨by omega, ?_⟩
  by_cases later : c.total ≤ 4294967295 + 4294967296 * t
  · exact .inr (by omega)
  · exact .inl (Nat.div_eq_of_lt (by omega))

/-- Settles O3: both numbers of ticks are quotients by the increment, and below 2^63 ns no tick up to them wraps the counter. -/
theorem instantsAreTicks : Obligations.InstantsAreTicks := by
  unfold Obligations.InstantsAreTicks
  intro s t slow frac tb near
  obtain ⟨pos, small⟩ := Clk.inc_bounds slow
  obtain ⟨reached, least⟩ := Clk.total_until_bounds t pos
  obtain ⟨passed, greatest⟩ := Clk.total_by_bounds t pos
  have start : s.clk.total < 4294967296 * 2 ^ 63 := by unfold Clk.total; omega
  refine ⟨fun k => ⟨Clk.after_zero frac (by omega), s.clk.after_succ k⟩, ⟨s.clk.until t, rfl, ?_, fun j fewer => ?_⟩,
    ⟨s.clk.by t, rfl, ?_, ?_⟩⟩
  · rw [Clk.after_total_of_lt]
    · omega
    · obtain none | least := least
      · rw [none]; omega
      · omega
  · have step : (j + 1) * s.clk.inc ≤ s.clk.until t * s.clk.inc := Nat.mul_le_mul_right _ fewer
    rw [Nat.add_mul, Nat.one_mul] at step
    obtain none | least := least
    · omega
    · rw [Clk.after_total_of_lt (by omega)]
      omega
  · obtain none | greatest := greatest
    · exact .inl none
    · rw [Clk.after_tb_of_lt (by omega)]
      omega
  · have next : (s.clk.by t + 1) * s.clk.inc = s.clk.by t * s.clk.inc + s.clk.inc := Nat.succ_mul _ _
    rw [Clk.after_tb_of_lt]
    · omega
    · obtain none | greatest := greatest
      · rw [none, Nat.zero_add, Nat.one_mul]; omega
      · omega

/-- Settles O4: most rows are written as a next state; the others choose between next states. -/
theorem everyCommandAnswersANextState : Obligations.EveryCommandAnswersANextState := by
  unfold Obligations.EveryCommandAnswersANextState Goes
  intro i s
  cases i
  case qspiWrite | qspiRead | pcieMemoryAccess | hostLink | msixPendingSend | syncLinkLock | envKeyTimeout | envLockoutEnd |
    envPathTimeout | safeCycleStart | safeEvaluation | safeExchangeTimeout | safeInputSample | siDiscrepancy | restartSample |
    restartStuck | canFrameReceived | referenceMessage | canTxOffer | canTxDone | canError | canRecoveryDone | ttBasicCycle |
    ttWindowStart | ttWindowMiss | referenceTimeout | oscFault | supplyDetector | tempDetector | memEccError | railPowerFail |
    memoryClearDone | imageVerified | selfTestDone | bootDone | flashOperationDone | coreTestDone | modeSetTimeout |
    referencesLost =>
    simp only [exec, execQspiWrite, execQspiRead, execPcieMemoryAccess, execHostLink, execMsixPendingSend, execSyncLinkLock,
      execEnvKeyTimeout, execEnvLockoutEnd, execEnvPathTimeout, execSafeCycleStart, execSafeEvaluation, execSafeExchangeTimeout,
      execSafeInputSample, execSiDiscrepancy, execRestartSample, execRestartStuck, execCanFrameReceived, execReferenceMessage,
      execCanTxOffer, execCanTxDone, execCanError, execCanRecoveryDone, execTtBasicCycle, execTtWindowStart, execTtWindowMiss,
      execReferenceTimeout, execOscFault, execSupplyDetector, execTempDetector, execMemEccError, execRailPowerFail,
      execMemoryClearDone, execImageVerified, execSelfTestDone, execBootDone, execFlashOperationDone, execCoreTestDone,
      execModeSetTimeout, execReferencesLost]
    (repeat' split) <;> exact ⟨_, rfl⟩
  all_goals exact ⟨_, rfl⟩

end Sys2Proof.Machine

/-!
PROOF. The addressed memories over every row of the table: their canonical form, and who writes them (R350, R390, R426, R427).
-/
namespace Sys2Proof.Machine

/-- A command that may not write the addressed memories leaves them as they stand. -/
theorem exec_keeps {i : Instr} (reads : i.writesRams = false) (s : State) : Result'.Keeps s (exec i s) := by
  cases i with
  | sysIdent h p => exact execSysIdent_keeps h p s
  | sysReset h p => exact execSysReset_keeps h p s
  | sysNop h p => exact execSysNop_keeps h p s
  | modeRead h p => exact execModeRead_keeps h p s
  | modeSet h p => exact execModeSet_keeps h p s
  | gearRead h p => exact execGearRead_keeps h p s
  | gearSet h p => exact execGearSet_keeps h p s
  | gearShift h p => exact execGearShift_keeps h p s
  | tableWinWrite h p => exact execTableWinWrite_keeps h p s
  | tableMapWrite h p => exact execTableMapWrite_keeps h p s
  | tableNodeWrite h p => exact execTableNodeWrite_keeps h p s
  | tableBudgetWrite h p => exact execTableBudgetWrite_keeps h p s
  | tableRead h p => exact execTableRead_keeps h p s
  | tableStage h p => exact execTableStage_keeps h p s
  | tableCommit h p => exact execTableCommit_keeps h p s
  | chainCfgWrite h p => exact execChainCfgWrite_keeps h p s
  | chainCfgRead h p => exact execChainCfgRead_keeps h p s
  | chainSupvWrite h p => exact execChainSupvWrite_keeps h p s
  | chainGuardWrite h p => exact execChainGuardWrite_keeps h p s
  | chainMissAtWrite h p => exact execChainMissAtWrite_keeps h p s
  | chainSupvRead h p => exact execChainSupvRead_keeps h p s
  | chainNodeRead h p => exact execChainNodeRead_keeps h p s
  | chainNodeWrite h p => exact execChainNodeWrite_keeps h p s
  | chainDescRead h p => exact execChainDescRead_keeps h p s
  | chainCensusRead h p => exact execChainCensusRead_keeps h p s
  | chainDelayRead h p => exact execChainDelayRead_keeps h p s
  | timeRead h p => exact execTimeRead_keeps h p s
  | timeStage h p => exact execTimeStage_keeps h p s
  | timeRate h p => exact execTimeRate_keeps h p s
  | timeCpWrite h p => exact execTimeCpWrite_keeps h p s
  | timeCapCfg h p => exact execTimeCapCfg_keeps h p s
  | timeCapRead h p => exact execTimeCapRead_keeps h p s
  | axisEnable h p => exact execAxisEnable_keeps h p s
  | axisDisable h p => exact execAxisDisable_keeps h p s
  | axisStatusRead h p => exact execAxisStatusRead_keeps h p s
  | axisPrfCfgWrite h p => exact execAxisPrfCfgWrite_keeps h p s
  | axisPrfCfgRead h p => exact execAxisPrfCfgRead_keeps h p s
  | axisMissWindow h p => exact execAxisMissWindow_keeps h p s
  | axisStreamInfo h p => exact execAxisStreamInfo_keeps h p s
  | axisAuxWrite h p => exact execAxisAuxWrite_keeps h p s
  | moveStart h p => exact execMoveStart_keeps h p s
  | moveQuickStop h p => exact execMoveQuickStop_keeps h p s
  | moveHold h p => exact execMoveHold_keeps h p s
  | moveResume h p => exact execMoveResume_keeps h p s
  | moveAbort h p => exact execMoveAbort_keeps h p s
  | moveSetStop h p => exact execMoveSetStop_keeps h p s
  | loopCfgWrite h p => exact execLoopCfgWrite_keeps h p s
  | loopCfgRead h p => exact execLoopCfgRead_keeps h p s
  | loopCurWrite h p => exact execLoopCurWrite_keeps h p s
  | loopCoefWrite h p => exact execLoopCoefWrite_keeps h p s
  | loopParamWrite h p => exact execLoopParamWrite_keeps h p s
  | loopReady h p => exact execLoopReady_keeps h p s
  | loopSwap h p => exact execLoopSwap_keeps h p s
  | loopCoefRead h p => exact execLoopCoefRead_keeps h p s
  | pulsePinCfg h p => exact execPulsePinCfg_keeps h p s
  | pulseStpCfg h p => exact execPulseStpCfg_keeps h p s
  | pulseRead h p => exact execPulseRead_keeps h p s
  | feedbackCfgWrite h p => exact execFeedbackCfgWrite_keeps h p s
  | feedbackCfgRead h p => exact execFeedbackCfgRead_keeps h p s
  | feedbackResultRead h p => exact execFeedbackResultRead_keeps h p s
  | feedbackSingleRead h p => exact execFeedbackSingleRead_keeps h p s
  | adcCfgWrite h p => exact execAdcCfgWrite_keeps h p s
  | adcSeqWrite h p => exact execAdcSeqWrite_keeps h p s
  | adcStart h p => exact execAdcStart_keeps h p s
  | adcResultRead h p => exact execAdcResultRead_keeps h p s
  | adcStatRead h p => exact execAdcStatRead_keeps h p s
  | envRead h p => exact execEnvRead_keeps h p s
  | envClampRead h p => exact execEnvClampRead_keeps h p s
  | safeCfgWrite h p => exact execSafeCfgWrite_keeps h p s
  | safeZoneWrite h p => exact execSafeZoneWrite_keeps h p s
  | safeAxisWrite h p => exact execSafeAxisWrite_keeps h p s
  | safeSiWrite h p => exact execSafeSiWrite_keeps h p s
  | safeRead h p => exact execSafeRead_keeps h p s
  | safeConfirm h p => exact execSafeConfirm_keeps h p s
  | safeDemand h p => exact execSafeDemand_keeps h p s
  | safeStatus h p => exact execSafeStatus_keeps h p s
  | twinCfgWrite h p => exact execTwinCfgWrite_keeps h p s
  | twinStatus h p => exact execTwinStatus_keeps h p s
  | twinSwap h p => exact execTwinSwap_keeps h p s
  | clusterCfgWrite h p => exact execClusterCfgWrite_keeps h p s
  | clusterStatus h p => exact execClusterStatus_keeps h p s
  | clusterMoveAxis h p => exact execClusterMoveAxis_keeps h p s
  | canCfgWrite h p => exact execCanCfgWrite_keeps h p s
  | canFilterWrite h p => exact execCanFilterWrite_keeps h p s
  | canSchedWrite h p => exact execCanSchedWrite_keeps h p s
  | canSafeWrite h p => exact execCanSafeWrite_keeps h p s
  | canAbort h p => exact execCanAbort_keeps h p s
  | canRecover h p => exact execCanRecover_keeps h p s
  | canInfo h p => exact execCanInfo_keeps h p s
  | canRead h p => exact execCanRead_keeps h p s
  | traceCfgWrite h p => exact execTraceCfgWrite_keeps h p s
  | traceSigWrite h p => exact execTraceSigWrite_keeps h p s
  | traceTrigWrite h p => exact execTraceTrigWrite_keeps h p s
  | traceArm h p => exact execTraceArm_keeps h p s
  | traceStop h p => exact execTraceStop_keeps h p s
  | traceStatus h p => exact execTraceStatus_keeps h p s
  | filterJobStart h p => exact execFilterJobStart_keeps h p s
  | filterJobStatus h p => exact execFilterJobStatus_keeps h p s
  | filterJobAbort h p => exact execFilterJobAbort_keeps h p s
  | eventClassWrite h p => exact execEventClassWrite_keeps h p s
  | eventClassRead h p => exact execEventClassRead_keeps h p s
  | bbrRead h p => exact execBbrRead_keeps h p s
  | bbrWrite h p => exact execBbrWrite_keeps h p s
  | fwWrite h p => exact execFwWrite_keeps h p s
  | fwVerify h p => exact execFwVerify_keeps h p s
  | fwActivate h p => exact execFwActivate_keeps h p s
  | fwInfo h p => exact execFwInfo_keeps h p s
  | diagActRead h p => exact execDiagActRead_keeps h p s
  | diagHeadroomRead h p => exact execDiagHeadroomRead_keeps h p s
  | diagChainCounters h p => exact execDiagChainCounters_keeps h p s
  | diagSchedRead h p => exact execDiagSchedRead_keeps h p s
  | diagQueueSnapshot h p => exact execDiagQueueSnapshot_keeps h p s
  | diagLoopCounters h p => exact execDiagLoopCounters_keeps h p s
  | diagCanCounters h p => exact execDiagCanCounters_keeps h p s
  | diagCoreTest h p => exact execDiagCoreTest_keeps h p s
  | diagMemStatus h p => exact execDiagMemStatus_keeps h p s
  | cmdqTailWrite v => exact execCmdqTailWrite_keeps v s
  | rspqHeadWrite v => exact execRspqHeadWrite_keeps v s
  | evtqHeadWrite v => exact execEvtqHeadWrite_keeps v s
  | irqPendWrite k v => exact execIrqPendWrite_keeps k v s
  | irqMaskWrite k v => exact execIrqMaskWrite_keeps k v s
  | irqRouteWrite w v => exact execIrqRouteWrite_keeps w v s
  | registerWrite off v => exact execRegisterWrite_keeps off v s
  | envKeyWrite v we => exact execEnvKeyWrite_keeps v we s
  | envDataWrite v we => exact execEnvDataWrite_keeps v we s
  | rxqTailWrite n v => exact execRxqTailWrite_keeps n v s
  | rxwRead n => exact execRxwRead_keeps n s
  | qspiRead ins addr n => exact execQspiRead_keeps ins addr n s
  | perstAssert => exact execPerstAssert_keeps s
  | perstRelease => exact execPerstRelease_keeps s
  | hostLink gen x2 => exact execHostLink_keeps gen x2 s
  | msixPendingSend v enabled => exact execMsixPendingSend_keeps v enabled s
  | eventLost => exact execEventLost_keeps s
  | cyclePoint k => exact execCyclePoint_keeps k s
  | serviceFrameLaunch c => exact execServiceFrameLaunch_keeps c s
  | openFrameLaunch c => exact execOpenFrameLaunch_keeps c s
  | beaconLaunch c => exact execBeaconLaunch_keeps c s
  | discoveryLaunch c => exact execDiscoveryLaunch_keeps c s
  | acyclicFill c open_ => exact execAcyclicFill_keeps c open_ s
  | missInstant c => exact execMissInstant_keeps c s
  | candidateSpoke c b k fb t => exact execCandidateSpoke_keeps c b k fb t s
  | copyConfirm c b i t => exact execCopyConfirm_keeps c b i t s
  | serviceCopyReturn c b i replies safe t => exact execServiceCopyReturn_keeps c b i replies safe t s
  | discoveryCopyReturn c b i hops recs t => exact execDiscoveryCopyReturn_keeps c b i hops recs t s
  | delayCopyReturn c b i round hops recs t => exact execDelayCopyReturn_keeps c b i round hops recs t s
  | claimFrameReceived c f t => exact execClaimFrameReceived_keeps c f t s
  | beaconReceived c f t => exact execBeaconReceived_keeps c f t s
  | foreignFrame c => exact execForeignFrame_keeps c s
  | passThroughForward c f t => exact execPassThroughForward_keeps c f t s
  | linkUp c right t => exact execLinkUp_keeps c right t s
  | linkDown c right t => exact execLinkDown_keeps c right t s
  | phyStatusPoll up t => exact execPhyStatusPoll_keeps up t s
  | listenEnd => exact execListenEnd_keeps s
  | claimPeriod => exact execClaimPeriod_keeps s
  | ppsEdge t => exact execPpsEdge_keeps t s
  | rateStep => exact execRateStep_keeps s
  | leaseRenewal => exact execLeaseRenewal_keeps s
  | silenceCheck => exact execSilenceCheck_keeps s
  | leaseLapse => exact execLeaseLapse_keeps s
  | takeover => exact execTakeover_keeps s
  | heartbeatReceived seq t => exact execHeartbeatReceived_keeps seq t s
  | syncLinkLock peer => exact execSyncLinkLock_keeps peer s
  | syncLinkChange lanes => exact execSyncLinkChange_keeps lanes s
  | copyControlBlock cb recs precs t => exact execCopyControlBlock_keeps cb recs precs t s
  | forwardedChange gen x t => exact execForwardedChange_keeps gen x t s
  | configRefreshDone gen => exact execConfigRefreshDone_keeps gen s
  | memberHealth m ok cycle t => exact execMemberHealth_keeps m ok cycle t s
  | leaseGrant g t => exact execLeaseGrant_keeps g t s
  | memberLost m => exact execMemberLost_keeps m s
  | memberJoined m id dup => exact execMemberJoined_keeps m id dup s
  | claimReport m won => exact execClaimReport_keeps m won s
  | bridgeChange otherWay => exact execBridgeChange_keeps otherWay s
  | bridgeResponse m tag opcode status p => exact execBridgeResponse_keeps m tag opcode status p s
  | swapAck e => exact execSwapAck_keeps e s
  | swapDue => exact execSwapDue_keeps s
  | dispatch x => exact execDispatch_keeps x s
  | spillReturn level => exact execSpillReturn_keeps level s
  | itemDeadline => exact execItemDeadline_keeps s
  | dispatchAckTimeout x => exact execDispatchAckTimeout_keeps x s
  | occupancyLimit x => exact execOccupancyLimit_keeps x s
  | limitDebounced n positive l => exact execLimitDebounced_keeps n positive l s
  | pulseInputStep n s0 t => exact execPulseInputStep_keeps n s0 t s
  | stepPulse n => exact execStepPulse_keeps n s
  | stepRateExpiry n => exact execStepRateExpiry_keeps n s
  | encoderRequest n => exact execEncoderRequest_keeps n s
  | encoderRequestEdge n t => exact execEncoderRequestEdge_keeps n t s
  | encoderStartEdge n t => exact execEncoderStartEdge_keeps n t s
  | encoderTimeout n => exact execEncoderTimeout_keeps n s
  | encoderWordDone n bits => exact execEncoderWordDone_keeps n bits s
  | quadratureEdge n e t => exact execQuadratureEdge_keeps n e t s
  | incrementalLatch n => exact execIncrementalLatch_keeps n s
  | indexEdge n t => exact execIndexEdge_keeps n t s
  | captureEdge n level t => exact execCaptureEdge_keeps n level t s
  | adcTimeTrigger x => exact execAdcTimeTrigger_keeps x s
  | conversionDone x v => exact execConversionDone_keeps x v s
  | mainsCrossing x t => exact execMainsCrossing_keeps x t s
  | mainsLockTimeout x => exact execMainsLockTimeout_keeps x s
  | refSettled x => exact execRefSettled_keeps x s
  | envKeyTimeout => exact execEnvKeyTimeout_keeps s
  | envLockoutEnd => exact execEnvLockoutEnd_keeps s
  | envPathTimeout => exact execEnvPathTimeout_keeps s
  | envWeFall => exact execEnvWeFall_keeps s
  | envSealUpdateDone => exact execEnvSealUpdateDone_keeps s
  | sealCheck => exact execSealCheck_keeps s
  | safeCycleStart rc => exact execSafeCycleStart_keeps rc s
  | safeEvaluation v => exact execSafeEvaluation_keeps v s
  | safeExchangeTimeout => exact execSafeExchangeTimeout_keeps s
  | safeInputSample a b => exact execSafeInputSample_keeps a b s
  | siDiscrepancy m => exact execSiDiscrepancy_keeps m s
  | restartSample r => exact execRestartSample_keeps r s
  | restartStuck => exact execRestartStuck_keeps s
  | offPulseTest pair sideB r => exact execOffPulseTest_keeps pair sideB r s
  | outTestFail pair sideB level => exact execOutTestFail_keeps pair sideB level s
  | canFrameReceived n f t => exact execCanFrameReceived_keeps n f t s
  | referenceMessage n f t => exact execReferenceMessage_keeps n f t s
  | canTxOffer n => exact execCanTxOffer_keeps n s
  | canTxDone n t => exact execCanTxDone_keeps n t s
  | canError n e => exact execCanError_keeps n e s
  | canRecoveryDone n => exact execCanRecoveryDone_keeps n s
  | ttBasicCycle n => exact execTtBasicCycle_keeps n s
  | ttWindowStart n w free_ => exact execTtWindowStart_keeps n w free_ s
  | ttWindowMiss n w => exact execTtWindowMiss_keeps n w s
  | referenceTimeout n => exact execReferenceTimeout_keeps n s
  | arbiterGrant r => exact execArbiterGrant_keeps r s
  | arbCutoff r => exact execArbCutoff_keeps r s
  | faultLogWrite => exact execFaultLogWrite_keeps s
  | supervisorHeartbeat => exact execSupervisorHeartbeat_keeps s
  | hardwareWatchdog => exact execHardwareWatchdog_keeps s
  | oscFault lost ppm => exact execOscFault_keeps lost ppm s
  | supplyDetector rail mv => exact execSupplyDetector_keeps rail mv s
  | tempDetector tj => exact execTempDetector_keeps tj s
  | vbatLow mv => exact execVbatLow_keeps mv s
  | memEccError area uncorrectable off => exact execMemEccError_keeps area uncorrectable off s
  | scrubPass corrected => exact execScrubPass_keeps corrected s
  | porstLow => exact execPorstLow_keeps s
  | resetEnd s0 => exact execResetEnd_keeps s0 s
  | sysResetExpiry => exact execSysResetExpiry_keeps s
  | railsInRange => exact execRailsInRange_keeps s
  | bbrSupplyChangeover toVbat => exact execBbrSupplyChangeover_keeps toVbat s
  | vbatPowerOnClear => exact execVbatPowerOnClear_keeps s
  | bankWake => exact execBankWake_keeps s
  | imageVerified h => exact execImageVerified_keeps h s
  | selfTestDone fail => exact execSelfTestDone_keeps fail s
  | bootDone => exact execBootDone_keeps s
  | extestExit => exact execExtestExit_keeps s
  | flashOperationDone r => exact execFlashOperationDone_keeps r s
  | coreTestDone x passed => exact execCoreTestDone_keeps x passed s
  | modeSetTimeout => exact execModeSetTimeout_keeps s
  | forwardedCommand h opcode p => exact execForwardedCommand_keeps h opcode p s
  | claimOrder step value => exact execClaimOrder_keeps step value s
  | memberEvent m n a16 a32 time => exact execMemberEvent_keeps m n a16 a32 time s
  | mirroredEvent m n a16 a32 time => exact execMirroredEvent_keeps m n a16 a32 time s
  | copyAcknowledge seq => exact execCopyAcknowledge_keeps seq s
  | refreshRequest => exact execRefreshRequest_keeps s
  | swapNotice e => exact execSwapNotice_keeps e s
  | referencesLost n => exact execReferencesLost_keeps n s
  | extestEntry => exact execExtestEntry_keeps s
  | _ => nomatch reads

/-- Every command keeps the canonical form: most leave the memories, and the nine that may write them write bytes or clear them. -/
theorem exec_memOk (i : Instr) (s : State) (ok : s.mem.Ok) : Result'.MemOk (exec i s) := by
  cases writes : i.writesRams with
  | false => exact fun t goes => ok.of_eq (exec_keeps writes s t goes)
  | true =>
    cases i with
    | itemComplete x occ r t => exact execItemComplete_memOk x occ r t s ok
    | release f t => exact execRelease_memOk f t s ok
    | cycleBoundary b => exact execCycleBoundary_memOk b s ok
    | traceRecordWrite => exact execTraceRecordWrite_memOk s ok
    | qspiWrite ins addr data => exact execQspiWrite_memOk ins addr data s ok
    | pcieMemoryAccess a => exact execPcieMemoryAccess_memOk a s ok
    | canTxEntryOwn n i w0 w1 w2 w3 data => exact execCanTxEntryOwn_memOk n i w0 w1 w2 w3 data s ok
    | memoryClearDone => exact execMemoryClearDone_memOk s ok
    | railPowerFail vbat => exact execRailPowerFail_memOk vbat s ok
    | _ => nomatch writes

/-- Settles O6: a tick leaves the memories, and every command keeps their form. -/
theorem stepKeepsMemoriesCanonical : Obligations.StepKeepsMemoriesCanonical := by
  unfold Obligations.StepKeepsMemoriesCanonical
  intro s t ok stepped
  unfold step at stepped
  split at stepped
  · obtain rfl := Host.Outcome.next.inj stepped
    unfold State.tick
    split <;> exact ok
  · next c rest _ => exact exec_memOk c { s with pending := rest } ok t stepped

/-- What a trace record writes: nothing, or the oldest staged record into its slot of trace memory (R390, R392). -/
theorem State.traceWrite_mem_cases (s : State) : s.traceWrite.mem = s.mem ∨ ∃ (r : StagedRec) (l : List StagedRec) (trig : Bool),
    s.trace.stage = r :: l ∧ s.traceWrite.mem = { s.mem with
      trace := s.mem.trace.writeBytes (s.trace.slots % s.trace.slotCount * s.trace.recLen) (s.trace.slotData r trig) } := by
  unfold State.traceWrite
  dsimp only
  split
  · exact .inl rfl
  · next r l staged =>
    split
    · exact .inl rfl
    · next u charged =>
      right
      rw [ite_mem, State.raise_mem, ite_self, State.chargeBytes_mem charged]
      exact ⟨r, l, _, staged, rfl⟩

@[simp] theorem leBytes_length (n v : Nat) : (leBytes n v).length = n := by
  induction n generalizing v with
  | zero => rfl
  | succ n ih => simp [leBytes, ih]

/-- Bytes of a slot: the head of 16 bytes, and what follows it. -/
theorem Trace.slotData_length (t : Trace) (r : StagedRec) (trig : Bool) :
    (t.slotData r trig).length = 16 + if r.gap then t.recLen - 16 else r.body.length := by
  unfold Trace.slotData
  split <;> simp <;> omega

/-- Settles O59: the other rows keep the memories, and a trace record writes within its slot. -/
theorem onlyTheseRowsWriteTheMemories : Obligations.OnlyTheseRowsWriteTheMemories := by
  unfold Obligations.OnlyTheseRowsWriteTheMemories
  intro i s t goes
  refine ⟨fun reads a => ?_, ?_⟩
  · rw [exec_keeps reads s t goes]
    exact ⟨rfl, rfl⟩
  · rintro rfl ok a
    obtain rfl : s.traceWrite = t := Host.Outcome.next.inj goes
    obtain same | ⟨r, l, trig, staged, written⟩ := s.traceWrite_mem_cases
    · rw [same]
      exact ⟨rfl, fun _ _ _ _ => rfl⟩
    · rw [written]
      refine ⟨rfl, fun r' l' staged' outside => ?_⟩
      obtain ⟨rfl, rfl⟩ : r = r' ∧ l = l' := by simpa [staged] using staged'
      rw [Memory.read_writeBytes _ _ _ _ ok.1, Trace.slotData_length, if_neg]
      omega

end Sys2Proof.Machine

/-!
PROOF. The bounds of what passes the envelope (R252, R253, Table 11.3).
-/
namespace Sys2Proof.Machine

theorem clampI_natAbs_le (m : Nat) (v : Int) : (clampI (-m) m v).natAbs ≤ m := by
  unfold clampI
  split
  · omega
  · split <;> omega

/-- The window passes a command or makes it zero (R252). -/
theorem EnvLimits.window_natAbs_le (e : EnvLimits) (pos y : Int) : (e.window pos y).natAbs ≤ y.natAbs := by
  unfold EnvLimits.window
  split <;> simp

/-- A step-limited change stays within `STEP_MAX` of the last command, and within any bound that both ends keep (R252). -/
theorem EnvLimits.stepTo_bounds (e : EnvLimits) {last y : Int} {m : Nat} (low : y.natAbs ≤ m) :
    (e.stepTo last y - last).natAbs ≤ e.step ∧ (last.natAbs ≤ m → (e.stepTo last y).natAbs ≤ m) := by
  have step := clampI_natAbs_le e.step (y - last)
  refine ⟨by unfold EnvLimits.stepTo; omega, fun bound => ?_⟩
  unfold EnvLimits.stepTo clampI
  split
  · omega
  · split <;> omega

/-- The bound of a command by its kind: scaled to the cycle for velocities per cycle (Table 11.3). -/
def EnvLimits.bound (e : EnvLimits) (kind : Nat) : Nat := if kind = 1 ∨ kind = 5 then e.cmdScaled else e.cmd

/-- But for position targets the clamp steps from the last command to one within the bound of its kind (Table 11.3). -/
theorem EnvLimits.clamp_target (e : EnvLimits) {kind : Nat} (speed : kind ≠ 4) (free : Bool) (last pos : Int) (r : Result) :
    ∃ y : Int, y.natAbs ≤ e.bound kind ∧ (e.clamp kind free last pos r).target = e.stepTo last y := by
  have scaled := clampI_natAbs_le e.cmdScaled r.target
  have plain := clampI_natAbs_le e.cmd r.target
  have window (v : Int) {m : Nat} (low : v.natAbs ≤ m) : (if free then v else e.window pos v).natAbs ≤ m := by
    split
    · exact low
    · exact Nat.le_trans (e.window_natAbs_le pos v) low
  unfold EnvLimits.clamp
  split
  · exact ⟨_, window _ scaled, rfl⟩
  · exact absurd rfl speed
  · exact ⟨_, window _ scaled, rfl⟩
  · exact ⟨_, plain, rfl⟩
  · next one _ five _ =>
    have unscaled : e.bound kind = e.cmd := if_neg (by rintro (rfl | rfl) <;> contradiction)
    exact ⟨_, Nat.le_trans (window _ plain) (Nat.le_of_eq unscaled.symm), rfl⟩

/-- Settles O57: at zero motion the result is zero; otherwise it is the clamp, which steps from the last command towards one within the
bound. -/
theorem envelopeBounds : Obligations.EnvelopeBounds := by
  unfold Obligations.EnvelopeBounds
  intro s i kind m r z cl last speed passes rfl rfl
  unfold State.envelope at passes
  dsimp only at passes
  by_cases still : s.zeroMotion i = true
  · refine ⟨fun _ => ?_, fun moving => absurd still (by simp [moving])⟩
    simp only [still, if_true, Axis.zeroResult, speed, if_false, Option.map_some, Option.some.injEq, Prod.mk.injEq] at passes
    obtain ⟨rfl, rfl⟩ := passes
    exact ⟨rfl, rfl, rfl, rfl⟩
  · refine ⟨fun h => absurd h still, fun _ => ?_⟩
    simp only [still, speed] at passes
    simp [Result.low, speed] at passes
    obtain ⟨rfl, rfl⟩ := passes
    obtain ⟨y, low, target⟩ := (s.envOf i).clamp_target speed ((s.ax i).loopTemplate == 3) ((s.ax i).lastTarget kind)
      (s.envPosOf (s.ax i)) r
    obtain ⟨step, bound⟩ := (s.envOf i).stepTo_bounds (last := (s.ax i).lastTarget kind) low
    rw [target]
    exact ⟨step, bound, by simp⟩

end Sys2Proof.Machine

/-!
PROOF. An entry into STO and the output pairs (R259, R268, R276).
-/
namespace Sys2Proof.Machine

/-- The pairs that `drivePairs` energises are those a channel may energise, so they are safe (R259). -/
theorem State.drivePairs_pairsSafe (s : State) : PairsSafe s.drivePairs := by
  intro n low energised
  have on : s.pairOn n = true := by
    simp only [State.drivePairs, or_self] at energised
    simpa [ofBits_testBit, low] using energised
  have zones : (s.safe.pairZones n &&& (s.safe.sto - (s.safe.sto &&& s.safe.test.zones)) == 0) = true := by
    simp only [State.pairOn, Bool.and_eq_true] at on
    exact on.1.1.1.2
  exact eq_of_beq zones

theorem PairsSafe.of_safe {s t : State} (same : t.safe = s.safe) (safe : PairsSafe s) : PairsSafe t := by
  unfold PairsSafe at safe ⊢
  rwa [same]

/-- Zones that are new beside those that stand add up to all that are named. -/
theorem or_sub_and (a b : Nat) : a ||| (b - (b &&& a)) = a ||| b := by
  apply Nat.eq_of_testBit_eq
  intro k
  rw [Nat.testBit_or, Nat.testBit_or, sub_and_testBit]
  cases a.testBit k <;> simp

/-- Zones taken out of a test are under it no longer (R276). -/
theorem Safe.endTest_zones (f : Safe) (z : Nat) : (f.endTest z).test.zones &&& z = 0 := by
  apply Nat.eq_of_testBit_eq
  intro k
  simp [Safe.endTest, sub_and_testBit]

/-- Settles O58: both cases of an entry end in `drivePairs`, after which no pair is energised against a zone in STO. -/
theorem stoEntryDeenergises : Obligations.StoEntryDeenergises := by
  unfold Obligations.StoEntryDeenergises
  rintro s _ z c rfl
  refine ⟨fun new => ?_, fun old => ?_⟩
  · obtain ⟨md, safe, -⟩ := s.enterSto_new z c _ rfl new
    refine ⟨?_, ?_, PairsSafe.of_safe safe (State.drivePairs_pairsSafe _), md⟩
    · rw [safe]
      exact or_sub_and s.safe.sto (z % 256)
    · rw [safe]
      exact s.safe.endTest_zones (z % 256)
  · rw [s.enterSto_old z c old]
    refine ⟨fun untested => if_pos untested, fun tested => ?_⟩
    rw [if_neg tested]
    exact ⟨rfl, State.drivePairs_pairsSafe _⟩

end Sys2Proof.Machine

/-!
PROOF. A refused command has no effect and no payload but those the rule lists (R356).
-/
namespace Sys2Proof.Machine

/-- A refusal comes from the checks before the command's own, which leave nothing, or from the command's own (R356, R371). -/
theorem execute_cases (c : HostCmd) (r : MsgRef) (p : List Word) (s t : State) (st : Nat) (q : List Word)
    (done : c.execute r p s = .done st q t) (refused : st ≠ stOk) (late : st ≠ stCommitLate) :
    (t = s ∧ q = []) ∨ c.run r p s = .done st q t := by
  unfold HostCmd.execute at done
  dsimp only at done
  split at done
  · cases done; exact .inl ⟨rfl, rfl⟩
  · split at done
    · cases done; exact .inl ⟨rfl, rfl⟩
    · split at done
      · unfold HostCmd.gatherStart at done
        split at done
        · split at done
          · split at done <;> cases done
            exact .inl ⟨rfl, rfl⟩
          · cases done
            exact .inr ‹_›
        · split at done <;> cases done
          exact .inl ⟨rfl, rfl⟩
      · unfold HostCmd.carry at done
        split at done
        · next ran =>
          cases done
          refine .inr ?_
          simpa [refused, late] using ran
        · cases done

theorem modeSetSyncUp_refused {r : MsgRef} {s t : State} {st : Nat} {q : List Word} (done : modeSetSyncUp r s = .done st q t) (refused : st ≠ stOk) :
    t = s ∧ (q = [] ∨ (st = stBadArg ∧ q.length = 1)) := by
  unfold modeSetSyncUp at done
  (repeat' split at done) <;> cases done
  · exact ⟨rfl, .inl rfl⟩
  · exact ⟨rfl, .inl rfl⟩
  · exact ⟨rfl, .inr ⟨rfl, rfl⟩⟩
  all_goals exact absurd rfl refused

theorem refuse_keeps {s t : State} {x st : Nat} {q : List Word} (done : refuse s x = .done st q t) :
    t = s ∧ (q = [] ∨ (st = stBadArg ∧ q.length = 1)) := by
  cases done
  exact ⟨rfl, .inl rfl⟩

theorem ok_status {s t : State} {st : Nat} {q : List Word} (done : ok s = .done st q t) : st = stOk := by
  cases done
  rfl

/-- MODE.SET refused has no effect, and only a faulty configuration gives a payload, of one word (R374). -/
theorem modeSetCmd_refused {r : MsgRef} {p : List Word} {s t : State} {st : Nat} {q : List Word}
    (done : modeSetCmd.run r p s = .done st q t) (refused : st ≠ stOk) : t = s ∧ (q = [] ∨ (st = stBadArg ∧ q.length = 1)) := by
  simp only [modeSetCmd] at done
  split at done
  case h_1 =>
    repeat' split at done
    · exact absurd (ok_status done) refused
    · exact absurd (ok_status done) refused
    · exact modeSetSyncUp_refused done refused
    · exact refuse_keeps done
  case h_2 =>
    repeat' split at done
    · exact absurd (ok_status done) refused
    · exact absurd (ok_status done) refused
    · exact refuse_keeps done
  case h_3 =>
    repeat' split at done
    · exact absurd (ok_status done) refused
    · exact refuse_keeps done
    · exact refuse_keeps done
    · exact absurd (ok_status done) refused
    · exact refuse_keeps done
  case h_4 =>
    repeat' split at done
    · exact absurd (ok_status done) refused
    · exact refuse_keeps done
  case h_5 =>
    repeat' split at done
    · exact absurd (ok_status done) refused
    · exact refuse_keeps done
    · cases done
    · exact refuse_keeps done
  case h_6 => exact refuse_keeps done

/-- The catalogue lists its commands by ascending opcode. -/
theorem catalogue_opcodes_ascend : (catalogue.map HostCmd.opcode).Pairwise (· < ·) := by decide +kernel

/-- Members of a list on which a number ascends are told apart by it. -/
theorem eq_of_ascending {α : Type} {f : α → Nat} {c d : α} (same : f c = f d) :
    ∀ {l : List α}, (l.map f).Pairwise (· < ·) → c ∈ l → d ∈ l → c = d
  | x :: l, ascends, hc, hd => by
    rw [List.map_cons, List.pairwise_cons] at ascends
    obtain ⟨first, rest⟩ := ascends
    have above {y : α} (hy : y ∈ l) : f x < f y := first _ (List.mem_map_of_mem hy)
    obtain rfl | inC := List.mem_cons.1 hc
    · obtain rfl | inD := List.mem_cons.1 hd
      · rfl
      · exact absurd same (Nat.ne_of_lt (above inD))
    · obtain rfl | inD := List.mem_cons.1 hd
      · exact absurd same.symm (Nat.ne_of_lt (above inC))
      · exact eq_of_ascending same rest inC inD

/-- An opcode names one command of the catalogue. -/
theorem catalogue_opcode_injective {c d : HostCmd} (hc : c ∈ catalogue) (hd : d ∈ catalogue) (same : c.opcode = d.opcode) : c = d :=
  eq_of_ascending same catalogue_opcodes_ascend hc hd

theorem modeSetCmd_mem_catalogue : modeSetCmd ∈ catalogue := by
  have group : modeSetCmd ∈ group02 := .tail _ (.head _)
  unfold catalogue
  iterate 21 refine List.mem_append_left _ ?_
  exact List.mem_append_right _ group

theorem axisStatusReadCmd_mem_catalogue : axisStatusReadCmd ∈ catalogue := by
  have group : axisStatusReadCmd ∈ group07 := .tail _ (.tail _ (.head _))
  unfold catalogue
  iterate 16 refine List.mem_append_left _ ?_
  exact List.mem_append_right _ group

/-- AXIS.STATUS_READ answers OK or REMOVED, and has no effect. -/
theorem axisStatusReadCmd_answer {r : MsgRef} {p : List Word} {s t : State} {st : Nat} {q : List Word}
    (done : axisStatusReadCmd.run r p s = .done st q t) : st = (if (s.ax (selItem p)).gen.endCause = 3 then stRemoved else stOk) ∧
      q = (s.ax (selItem p)).statusWords ++ [wd (b2n (s.ax (selItem p)).enabled + bitAt 1 (s.ax (selItem p)).enSent
        + bitAt 2 (s.inSto (selItem p)) + bitAt 3 (s.ax (selItem p)).fb.held + bitAt 4 (s.ax (selItem p)).gen.pend.isSome)] ∧ t = s := by
  cases done
  exact ⟨rfl, rfl, rfl⟩

/-- Settles O7: the three commands that the rule names by opcode are looked at one by one, every other one is `Clean`. -/
theorem refusedCommandsHaveNoEffect : Obligations.RefusedCommandsHaveNoEffect := by
  unfold Obligations.RefusedCommandsHaveNoEffect
  intro c listed r p s t st q done refused late
  obtain ⟨rfl, rfl⟩ | ran := execute_cases c r p s t st q done refused late
  · exact ⟨fun _ => rfl, fun _ _ _ => rfl, fun _ => .inl rfl⟩
  by_cases setStop : c.opcode = 0x0806
  · exact ⟨fun h => absurd setStop h, fun h => absurd setStop h, fun h => by omega⟩
  by_cases modeSet : c.opcode = 0x0202
  · obtain rfl := catalogue_opcode_injective listed modeSetCmd_mem_catalogue modeSet
    obtain ⟨rfl, payload⟩ := modeSetCmd_refused ran refused
    exact ⟨fun _ => rfl, fun _ h => absurd modeSet h, fun _ => payload⟩
  by_cases statusRead : c.opcode = 0x0703
  · obtain rfl := catalogue_opcode_injective listed axisStatusReadCmd_mem_catalogue statusRead
    obtain ⟨status, -, rfl⟩ := axisStatusReadCmd_answer ran
    have removed : st = stRemoved := by
      split at status
      · exact status
      · exact absurd status refused
    exact ⟨fun _ => rfl, fun _ _ kept => absurd ⟨statusRead, removed⟩ kept, fun h => absurd h modeSet⟩
  · have clean := catalogue_clean c listed statusRead setStop modeSet r p s
    rw [ran] at clean
    obtain accepted | accepted | ⟨rfl, rfl⟩ := clean
    · exact absurd accepted refused
    · exact absurd accepted late
    · exact ⟨fun _ => rfl, fun _ _ _ => rfl, fun _ => .inl rfl⟩

end Sys2Proof.Machine

/-!
PROOF. When a command is taken, and which check decides its status (R351 to R356, Table 14.8).
-/
namespace Sys2Proof.Machine

/-- The checks of a served, otherwise empty queue find the entered command at its head (R354). -/
theorem hostCommand_head {c : HostCmd} {h : Hdr} {p : List Word} {s : State} (served : s.host.mbxReady = true) (empty : s.host.cmdCount = 0)
    (room : s.host.slotsUsed < 64) (fence : h.fence = true → s.host.reserved = 0) (keys : s.env.firstKey = none)
    (charged : s.entryWaits p = false) (len : h.len.toNat = p.length) :
    hostCommand c h p s = c.taken h p (s.entered c.opcode h p) := by
  have write : s.bar0Write = s := by simp [State.bar0Write, keys]
  have free : s.canTake h.fence = true := by
    cases fenced : h.fence with
    | false => simp [State.canTake, room]
    | true => simp [State.canTake, room, fence fenced]
  have payload := entryPayload_full s.host.cmdMem (s.host.cmdTail % 64) h.len.toNat p len
  unfold hostCommand
  rw [write]
  dsimp only
  rw [payload, if_neg (by simp [State.served, served]), if_neg (by simp [empty]), if_neg (by simp [charged]), if_pos (by simp [empty, free])]
  rfl

/-- The header of a command for this device passes where no bit above it is set (Table 14.8). -/
theorem headerOk_here {c : HostCmd} {h : Hdr} {s : State} (plain : h.rsv = 0) (here : h.target.val = s.straps.cid) : headerOk c h s = true := by
  simp [headerOk, State.memberOk, plain, here]

/-- A header that fails one of its checks fails (Table 14.8). -/
theorem headerOk_false {c : HostCmd} {h : Hdr} {s : State} (bad : h.rsv ≠ 0 ∨ s.memberOk h.target.val = false ∨
    (c.lead = true ∧ h.target.val ≠ s.straps.cid)) : headerOk c h s = false := by
  obtain rsv | member | ⟨lead, target⟩ := bad
  · have set : (h.rsv == 0) = false := beq_false_of_ne rsv
    rw [headerOk, set, Bool.false_and, Bool.false_and]
  · simp [headerOk, member]
  · simp [headerOk, lead, target]

/-- Settles O8: a command at the head is judged by `HostCmd.taken`, whose tests stand in the order of Table 14.8. -/
theorem firstFailingCheckDecidesStatus : Obligations.FirstFailingCheckDecidesStatus := by
  unfold Obligations.FirstFailingCheckDecidesStatus
  intro c _ h p s served empty room fence keys charged len
  dsimp only
  rw [hostCommand_head served empty room fence keys charged len]
  refine ⟨fun own => ?_, fun lead long => ?_, fun lead fits bad => ?_, fun lead fits plain here mode => ?_,
    fun lead fits plain here mode invalid => ?_⟩
  · simp [HostCmd.taken, own, State.answered]
  · simp [HostCmd.taken, lead, len, long, State.answered]
  · have header : headerOk c h (s.entered c.opcode h p) = false := headerOk_false bad
    simp [HostCmd.taken, lead, len, Nat.not_lt.2 fits, header, State.answered]
  · have header : headerOk c h (s.entered c.opcode h p) = true := headerOk_here plain here
    simp [HostCmd.taken, lead, len, Nat.not_lt.2 fits, header, here, HostCmd.execute, mode, refuse, Answer.finish, State.answered]
  · have header : headerOk c h (s.entered c.opcode h p) = true := headerOk_here plain here
    simp [HostCmd.taken, lead, len, Nat.not_lt.2 fits, header, here, HostCmd.execute, mode, invalid, refuse, Answer.finish, State.answered]

/-- Settles O9: the three tests before an entry is written. -/
theorem fullOrUnservedQueueTakesNoCommand : Obligations.FullOrUnservedQueueTakesNoCommand := by
  unfold Obligations.FullOrUnservedQueueTakesNoCommand
  intro c _ h p s keys
  have write : s.bar0Write = s := by simp [State.bar0Write, keys]
  unfold hostCommand
  rw [write]
  dsimp only
  refine ⟨fun unserved => ?_, fun served full => ?_, fun served space waits => ?_⟩
  · rw [if_pos (by simp [State.served, unserved])]
  · rw [if_neg (by simp [State.served, served]), if_pos full]
  · rw [if_neg (by simp [State.served, served]), if_neg space, if_pos waits]

end Sys2Proof.Machine

/-!
PROOF. Reset values, and what the balls show by mode (R60, R268, R290, R352, R437, R438).
-/
namespace Sys2Proof.Machine

/-- Settles O52: every value is that of the reset state, field by field. -/
theorem resetValues : Obligations.ResetValues := by
  unfold Obligations.ResetValues
  have pairs : PairsSafe State.reset := fun n _ energised => by simp [State.reset] at energised
  have vectors (e : Nat) : State.reset.irq.vector e = 0 := by simp [Irq.vector, State.reset, Tbl.get]
  exact ⟨rfl, rfl, rfl, rfl, rfl, rfl, rfl, rfl, vectors, rfl, rfl, rfl, rfl, rfl, pairs, fun _ => ⟨rfl, rfl⟩⟩

/-- Every chain port of an absent device is dark (R60, Table 3.2). -/
theorem State.portDark_of_absent {s : State} (absent : s.md.mode.absent = true) (c : Nat) (right : Bool) : s.portDark c right = true := by
  simp [State.portDark, absent]

/-- A chain that is not allowed to pass frames in CONFIGURE does not forward there. -/
theorem State.portDark_of_configure {s : State} {c : Nat} (configure : s.md.mode = .configure) (closed : bit (s.ch c).cfg 17 = false)
    (right : Bool) : s.portDark c right = true := by
  simp [State.portDark, State.forwards, configure, closed]

/-- A port in use on an enabled chain is lit in every mode that runs cycles. -/
theorem State.portDark_of_cycles {s : State} {c : Nat} {right : Bool} (used : fld ((s.ch c).portW right) 1 0 ≠ 0)
    (enabled : (s.ch c).enabled = true) (cycles : s.md.mode.cycles = true) : s.portDark c right = false := by
  cases mode : s.md.mode <;> simp [mode, Mode.cycles] at cycles <;> simp [State.portDark, used, enabled, mode, Mode.absent]

theorem Mode.cycles_of {m : Mode} (runs : m = .syncUp ∨ m = .runActive ∨ m = .runStandby ∨ m = .safeHold) : m.cycles = true := by
  obtain rfl | rfl | rfl | rfl := runs <;> rfl

theorem Mode.absent_of {m : Mode} (off : m = .dormant ∨ m = .reset ∨ m = .boot) : m.absent = true := by
  obtain rfl | rfl | rfl := off <;> rfl

/-- Settles O60: each ball is a test of the mode. -/
theorem ballsFollowTheMode : Obligations.BallsFollowTheMode := by
  unfold Obligations.BallsFollowTheMode
  intro s c right
  refine ⟨fun off => ⟨State.portDark_of_absent (Mode.absent_of off) c right, by simp [State.drivesMotion, Mode.absent_of off]⟩,
    fun configure closed => State.portDark_of_configure configure closed right,
    fun used enabled runs => State.portDark_of_cycles used enabled (Mode.cycles_of runs), ?_, fun parallel enabled runs => ?_,
    fun dormant => by simp [State.phyReset, dormant], fun pair standby => ?_, ?_, ?_⟩
  · rintro (reset | boot | ⟨serial, powered⟩)
    · simp [State.phyReset, State.portDark_of_absent (Mode.absent_of (.inr (.inl reset))), reset]
    · simp [State.phyReset, State.portDark_of_absent (Mode.absent_of (.inr (.inr boot))), boot]
    · simp [State.phyReset, serial, powered]
  · have lit := State.portDark_of_cycles (right := right) (c := c) (by omega) enabled (Mode.cycles_of runs)
    simp [State.phyReset, lit, Nat.not_lt.2 parallel]
  · simp [State.drivesMotion, pair, standby, Mode.heads]
  · rintro (active | hold)
    · simp [State.drivesMotion, active, Mode.absent, Mode.heads]
    · simp [State.drivesMotion, hold, Mode.absent, Mode.heads]
  · rintro (reset | ⟨boot, early⟩ | hold | ⟨configure, lapsed⟩)
    · simp [State.sysFault, reset]
    · simp [State.sysFault, boot, early]
    · simp [State.sysFault, hold]
    · simp [State.sysFault, configure, lapsed]

end Sys2Proof.Machine

/-!
PROOF. What a taken command does, by how its row answers (R354, R372, R376).
-/
namespace Sys2Proof.Machine

/-- A taken command that answers OK and changes no configuration. -/
theorem Taken.goes_ok {c : HostCmd} {h : Hdr} {p : List Word} {s t : State} {q : List Word} (k : Taken c h p s)
    (run : c.run (refOf c.opcode h) p (s.entered c.opcode h p) = ok t q) (plain : c.config = false) :
    (.next (hostCommand c h p s) : Result') = .next (t.answered c.opcode h 0 q) := by
  simp [hostCommand_ok k run, plain, State.answered]

/-- A taken command that answers OK and changes the configuration is forwarded to the twin (R305). -/
theorem Taken.goes_forwarded {c : HostCmd} {h : Hdr} {p : List Word} {s t : State} {q : List Word} (k : Taken c h p s)
    (run : c.run (refOf c.opcode h) p (s.entered c.opcode h p) = ok t q) (config : c.config = true) :
    (.next (hostCommand c h p s) : Result') = .next ((t.forward c.opcode p (Answer.effect q)).answered c.opcode h 0 q) := by
  simp [hostCommand_ok k run, config, State.answered]

/-- A taken command that is answered at completion. -/
theorem Taken.goes_wait {c : HostCmd} {h : Hdr} {p : List Word} {s t : State} (k : Taken c h p s)
    (run : c.run (refOf c.opcode h) p (s.entered c.opcode h p) = .wait t) : (.next (hostCommand c h p s) : Result') = .next t := by
  rw [hostCommand_wait k run]

/-- A taken command that its own checks refuse. -/
theorem Taken.goes_refused {c : HostCmd} {h : Hdr} {p : List Word} {s : State} {st : Nat} (k : Taken c h p s)
    (run : c.run (refOf c.opcode h) p (s.entered c.opcode h p) = refuse (s.entered c.opcode h p) st) (refused : st ≠ stOk)
    (late : st ≠ stCommitLate) :
    (.next (hostCommand c h p s) : Result') = .next ((s.entered c.opcode h p).answered c.opcode h st []) := by
  rw [hostCommand_refused k run refused late, State.answered]

/-- A taken command that answers in time and changes no configuration, whatever its status. -/
theorem Taken.goes_done {c : HostCmd} {h : Hdr} {p : List Word} {s t : State} {st : Nat} {q : List Word} (k : Taken c h p s)
    (run : c.run (refOf c.opcode h) p (s.entered c.opcode h p) = .done st q t) (plain : c.config = false) (late : st ≠ stCommitLate) :
    (.next (hostCommand c h p s) : Result') = .next (t.answered c.opcode h st q) := by
  rw [hostCommand_taken k, HostCmd.carry, run]
  simp [plain, late, Answer.finish, State.answered]

end Sys2Proof.Machine

/-!
PROOF. The reads of the catalogue (Tables 15.2 to 15.20).
-/
namespace Sys2Proof.Machine

/-- Settles O10: each read runs to OK with the words of its table. -/
theorem sysModeGearTimeReadsAnswer : Obligations.SysModeGearTimeReadsAnswer := by
  unfold Obligations.SysModeGearTimeReadsAnswer
  intro h p s
  refine ⟨fun k => k.goes_ok rfl rfl, fun k => k.goes_ok rfl rfl, fun k => k.goes_ok rfl rfl, fun k none => k.goes_ok ?_ rfl,
    fun x k some => k.goes_ok ?_ rfl, fun k none => k.goes_ok ?_ rfl, fun t k some => k.goes_ok ?_ rfl⟩
  · simp only [gearReadCmd, entered_pend, none]
    rfl
  · simp [gearReadCmd, some, words64]
  · simp only [timeReadCmd, entered_clk, none]
    rfl
  · simp only [timeReadCmd, entered_clk, some]
    rfl

/-- Settles O11: the reads run to OK; the clearing one also clears the counts of its chain. -/
theorem chainAndTableReadsAnswer : Obligations.ChainAndTableReadsAnswer := by
  unfold Obligations.ChainAndTableReadsAnswer
  intro h p s
  dsimp only
  refine ⟨fun k => k.goes_ok rfl rfl, fun k => k.goes_ok rfl rfl, fun k whole => k.goes_ok ?_ rfl,
    fun k partly => k.goes_refused ?_ (by decide) (by decide), fun k => ⟨_, _, rfl, rfl, k.goes_ok ?_ rfl⟩, fun k => k.goes_ok rfl rfl,
    fun k keep => k.goes_ok ?_ rfl, fun k clear => k.goes_ok ?_ rfl, ?_⟩
  · simp [chainDescReadCmd, whole]
  · simp [chainDescReadCmd, partly]
  · simp [chainCensusReadCmd]
  · simp [diagChainCountersCmd, keep]
  · simp [diagChainCountersCmd, clear, ChainCounters.clear]
  · rintro act t k rfl rfl
    refine ⟨fun windows => k.goes_ok ?_ rfl, fun map => k.goes_ok ?_ rfl, fun nodes => k.goes_ok ?_ rfl,
      fun budget active => k.goes_ok ?_ rfl, fun budget shadow => k.goes_ok ?_ rfl⟩
    · simp [tableReadCmd, tableReadWords, windows]
    · simp [tableReadCmd, tableReadWords, map]
    · simp [tableReadCmd, tableReadWords, nodes]
    · simp [tableReadCmd, tableReadWords, budget, active]
    · simp [tableReadCmd, tableReadWords, budget, shadow]

/-! What bringing the level of ENV_WE changes: that level alone (log entry 127). -/

@[simp] theorem State.seesWe_bbr (s : State) (we : Bool) : (s.seesWe we).bbr = s.bbr := by cases we <;> rfl
@[simp] theorem State.seesWe_unlocked (s : State) (we : Bool) : (s.seesWe we).env.unlocked = s.env.unlocked := by cases we <;> rfl
@[simp] theorem State.seesWe_we (s : State) (we : Bool) : (s.seesWe we).env.we = (we || s.env.we) := by cases we <;> rfl

/-- Settles O12: one case for each read, and for the reads that clear or bring the level of ENV_WE one for each kind. -/
theorem axisReadsAnswer : Obligations.AxisReadsAnswer := by
  unfold Obligations.AxisReadsAnswer
  intro h p s
  dsimp only
  refine ⟨fun k => ⟨_, rfl, k.goes_done rfl rfl ?_⟩, fun k => k.goes_ok rfl rfl, fun k => k.goes_ok rfl rfl, ?_, ?_, ?_, ?_,
    fun k keep => k.goes_ok ?_ rfl, fun k clear => k.goes_ok ?_ rfl, fun k keep => k.goes_ok ?_ rfl, fun k clear => k.goes_ok ?_ rfl⟩
  · split <;> decide
  · rintro _ k rfl
    exact k.goes_ok rfl rfl
  · rintro _ k rfl params
    refine k.goes_ok ?_ rfl
    simp only [loopCoefReadCmd, params, if_true]
    rfl
  · rintro _ k rfl coefs
    refine k.goes_ok ?_ rfl
    simp only [loopCoefReadCmd, coefs, Bool.false_eq_true, if_false]
    rfl
  · rintro _ rfl k
    refine k.goes_ok ?_ rfl
    simp [envReadCmd]
  · simp [envClampReadCmd, keep]
  · simp [envClampReadCmd, clear]
  · simp [diagLoopCountersCmd, keep]
  · simp [diagLoopCountersCmd, clear]

/-- Settles O13: the plain reads run to OK; a capture and a counter read split on what they clear. -/
theorem portReadsAnswer : Obligations.PortReadsAnswer := by
  unfold Obligations.PortReadsAnswer
  intro h p s
  dsimp only
  refine ⟨fun k keep => k.goes_ok ?_ rfl, fun k clear => k.goes_ok ?_ rfl, ?_, ?_, fun k => k.goes_ok rfl rfl, fun k => k.goes_ok rfl rfl,
    fun k => k.goes_ok rfl rfl, fun k keep => k.goes_ok ?_ rfl, fun k clear => k.goes_ok ?_ rfl⟩
  · simp [pulseReadCmd, keep]
  · simp [pulseReadCmd, clear]
  · rintro _ k rfl keep
    refine k.goes_ok ?_ rfl
    simp [timeCapReadCmd, keep, words64]
  · rintro _ k rfl clear
    refine k.goes_ok ?_ rfl
    simp [timeCapReadCmd, clear, words64]
  · simp [adcStatReadCmd, keep]
  · simp [adcStatReadCmd, clear]

/-- Settles O14: the table reads split on the part that is read; the CAN counters on `SEL.CLEAR`. -/
theorem safeTwinCanReadsAnswer : Obligations.SafeTwinCanReadsAnswer := by
  unfold Obligations.SafeTwinCanReadsAnswer
  intro h p s
  dsimp only
  refine ⟨fun k => ⟨fun cfg => k.goes_ok ?_ rfl, fun zones => k.goes_ok ?_ rfl, fun axes => k.goes_ok ?_ rfl, fun inputs => k.goes_ok ?_ rfl⟩,
    fun k => k.goes_ok rfl rfl, fun k => k.goes_ok rfl rfl, fun k => k.goes_ok rfl rfl, fun k => k.goes_ok rfl rfl,
    fun k => ⟨fun cfg => k.goes_ok ?_ rfl, fun windows => k.goes_ok ?_ rfl, fun filters => k.goes_ok ?_ rfl, fun safe => k.goes_ok ?_ rfl⟩,
    fun k keep => k.goes_ok ?_ rfl, fun k clear => k.goes_ok ?_ rfl⟩
  · simp [safeReadCmd, safeReadWords, cfg]
  · simp [safeReadCmd, safeReadWords, zones]
  · simp [safeReadCmd, safeReadWords, axes]
  · simp [safeReadCmd, safeReadWords, inputs]
  · simp [canReadCmd, canReadWords, cfg]
  · simp [canReadCmd, canReadWords, windows]
  · simp [canReadCmd, canReadWords, filters]
  · simp [canReadCmd, canReadWords, safe]
  · simp [diagCanCountersCmd, keep]
  · simp [diagCanCountersCmd, clear]

/-- What an activity's record shows is not charged by an entry of the mailbox. -/
@[simp] theorem hostSpend_record (s : State) (n i : Nat) : (s.hostSpend n).record i = s.budget.record i := by
  unfold State.hostSpend
  split <;> rfl

/-- Settles O15: a job read splits on what became of the job, a counter read on `SEL.CLEAR`. -/
theorem diagnosticReadsAnswer : Obligations.DiagnosticReadsAnswer := by
  unfold Obligations.DiagnosticReadsAnswer
  intro h p s
  refine ⟨fun k => k.goes_ok rfl rfl, ?_, ?_, ?_, ?_, ?_, fun k => k.goes_ok rfl rfl, fun k keep => k.goes_ok ?_ rfl,
    fun k clear => k.goes_ok ?_ rfl, fun k => k.goes_ok ?_ rfl, fun k keep => k.goes_ok ?_ rfl, fun k clear => k.goes_ok ?_ rfl, ?_,
    fun k keep => k.goes_ok ?_ rfl, fun k clear => k.goes_ok ?_ rfl⟩
  · rintro _ k rfl known running
    refine k.goes_ok ?_ rfl
    simp [filterJobStatusCmd, State.jobKnown, known, Nat.not_le.2 running]
  · rintro _ k rfl known finished
    refine k.goes_ok ?_ rfl
    simp [filterJobStatusCmd, State.jobKnown, known, finished]
  · rintro _ _ k rfl counted keep rfl
    refine k.goes_ok ?_ rfl
    simp [eventClassReadCmd, counted, keep]
  · rintro _ _ k rfl counted clear rfl
    refine k.goes_ok ?_ rfl
    simp [eventClassReadCmd, counted, clear]
  · rintro _ _ k rfl rfl
    exact k.goes_ok rfl rfl
  · simp [diagActReadCmd, keep]
  · simp [diagActReadCmd, clear, Budgets.clearCounts]
  · simp [diagHeadroomReadCmd]
  · simp [diagSchedReadCmd, keep]
  · simp [diagSchedReadCmd, clear, Sched.clearRecord]
  · rintro _ k rfl
    refine k.goes_ok ?_ rfl
    rfl
  · simp [diagMemStatusCmd, keep]
  · simp [diagMemStatusCmd, clear]

end Sys2Proof.Machine

/-!
PROOF. Writes of the host's registers (R353, R354, R360, Tables 14.3 to 14.5).
-/
namespace Sys2Proof.Machine

/-! The port between no two keys: a write of BAR0 is no key fault, and each register stands at its offset (Tables 14.4 and 14.5). -/

theorem State.bar0Write_of_none {s : State} (keys : s.env.firstKey = none) : s.bar0Write = s := by simp [State.bar0Write, keys]

@[simp] theorem State.seesWe_portOpen (s : State) (we : Bool) : (s.seesWe we).portOpen = s.portOpen := by cases we <;> rfl
@[simp] theorem State.seesWe_fullPort (s : State) (we : Bool) : (s.seesWe we).fullPort = s.fullPort := by cases we <;> rfl
@[simp] theorem State.seesWe_firstKey (s : State) (we : Bool) : (s.seesWe we).env.firstKey = s.env.firstKey := by cases we <;> rfl
@[simp] theorem State.seesWe_straps (s : State) (we : Bool) : (s.seesWe we).straps = s.straps := by cases we <;> rfl

theorem State.fullPort_of_lead {s : State} (isOpen : s.portOpen = true) (lead : s.straps.lead = true) : s.fullPort = true := by
  simp [State.fullPort, isOpen, lead]

theorem State.fullPort_of_member {s : State} (member : s.straps.lead = false) : s.fullPort = false := by simp [State.fullPort, member]

/-- The registers that a member's port does not serve ignore a write. -/
theorem State.regWrite_member {s : State} (keys : s.env.firstKey = none) (member : s.straps.lead = false)
    {off : Nat} (low : 0x40 ≤ off) (high : off < 0xE0) (v : Word) : s.regWrite off v = s := by
  simp [State.regWrite, State.bar0Write_of_none keys, State.fullPort_of_member member, show off ≠ 0x100 by omega, show off ≠ 0x108 by omega,
    show off ≠ 4 by omega, show off ≠ 0x10 by omega, show off ≠ 0x18 by omega, show off ≠ 0x20 by omega, show off ≠ 0x104 by omega]

/-- What a lead's port does with a write of its interrupt registers. -/
theorem State.regWrite_irq {s : State} (isOpen : s.portOpen = true) (keys : s.env.firstKey = none) (lead : s.straps.lead = true)
    {off : Nat} (low : 0x40 ≤ off) (high : off < 0xE0) (v : Word) : s.regWrite off v =
      if off < 0x50 then s.irqPend ((off - 0x40) / 4) v
      else if off < 0x60 then s.irqMask ((off - 0x50) / 4) v
      else s.irqRoute ((off - 0x60) / 4) v := by
  unfold State.regWrite
  rw [State.bar0Write_of_none keys]
  dsimp only
  rw [if_neg (by simp [isOpen]), if_neg (by omega), if_neg (by omega), if_neg (by omega), if_neg (by omega), if_neg (by omega),
    if_neg (by omega), if_neg (by omega), if_neg (by simp [State.fullPort_of_lead isOpen lead])]
  by_cases pend : off < 0x50
  · rw [if_pos ⟨low, pend⟩, if_pos pend]
  · rw [if_neg (by omega), if_neg pend]
    by_cases mask : off < 0x60
    · rw [if_pos ⟨by omega, mask⟩, if_pos mask]
    · rw [if_neg (by omega), if_neg mask, if_pos ⟨by omega, high⟩]

/-! Bits of the pending register when some of them are cleared (R360). -/

theorem mem_setBits {n v e : Nat} : e ∈ setBits n v ↔ e < n ∧ v.testBit e = true := by simp [setBits]

/-- The bits that a word of 1s clears. -/
theorem putWord_clear_testBit (n k : Nat) (v : Word) (e : Nat) :
    (putWord n k (wordOf n k &&& ~~~v)).testBit e = (n.testBit e && !(decide (e / 32 = k) && v.getLsbD (e % 32))) := by
  have low : e % 32 < 32 := Nat.mod_lt _ (by decide)
  rw [putWord_testBit]
  by_cases word : e / 32 = k
  · have place : 32 * k + e % 32 = e := by omega
    rw [if_pos word, BitVec.getLsbD_and, BitVec.getLsbD_not, wordOf_getLsbD]
    simp only [low, word, place, decide_true, Bool.true_and]
  · simp [word]

theorem putBit_true_testBit (v i e : Nat) : (putBit v i true).testBit e = (v.testBit e || decide (e = i)) := by
  by_cases same : e = i
  · simp [same]
  · simp [putBit, Nat.testBit_or, same, Ne.symm same]

/-- Events that signal again are pending again. -/
theorem Irq.foldl_set_pend_testBit (pcie up : Bool) (e : Nat) (l : List Nat) :
    ∀ q : Irq, (l.foldl (fun r i => r.set pcie up i) q).pend.testBit e = (q.pend.testBit e || decide (e ∈ l)) := by
  induction l with
  | nil => simp
  | cons i l ih =>
    intro q
    rw [List.foldl_cons, ih, Irq.set_pend, putBit_true_testBit]
    simp [Bool.or_assoc]

/-- `IRQ_PENDk` where no event was raised in this tick: the bits written 1 are cleared. -/
theorem State.irqPend_of_quiet {s : State} (quiet : s.irq.risenAt ≠ s.now) (k : Nat) (v : Word) :
    s.irqPend k v = { s with irq := { s.irq with pend := putWord s.irq.pend k (wordOf s.irq.pend k &&& ~~~v) } } := by
  simp [State.irqPend, quiet]

/-- `IRQ_PENDk`: the bits written 1 are cleared, but for events raised in this tick. -/
theorem State.irqPend_testBit (s : State) (k : Nat) (v : Word) {e : Nat} (event : e < 128) : (s.irqPend k v).irq.pend.testBit e =
    (s.irq.pend.testBit e && (!(decide (e / 32 = k) && v.getLsbD (e % 32)) || (decide (s.irq.risenAt = s.now) && s.irq.risen.testBit e))) := by
  unfold State.irqPend
  dsimp only
  rw [Irq.foldl_set_pend_testBit, putWord_clear_testBit]
  by_cases now : s.irq.risenAt = s.now
  · simp only [now, if_true, List.mem_filter, mem_setBits, event, true_and, putWord_clear_testBit]
    generalize (decide (e / 32 = k) && v.getLsbD (e % 32)) = cleared
    cases s.irq.pend.testBit e <;> cases s.irq.risen.testBit e <;> cases cleared <;> decide
  · simp [now]

/-- Settles O28: each row is the write of its register; pending bits and masks are told bit by bit. -/
theorem hostRegisterWrites : Obligations.HostRegisterWrites := by
  unfold Obligations.HostRegisterWrites
  intro s v isOpen keys
  have bar0 := State.bar0Write_of_none keys
  have cmd := goes_cmdqTailWrite isOpen v
  have rsp := goes_rspqHeadWrite isOpen v
  have evt := goes_evtqHeadWrite isOpen v
  rw [bar0] at cmd rsp evt
  have pend (k : Fin 4) (lead : s.straps.lead = true) : Goes (.irqPendWrite k v) s (s.irqPend k.val v) := by
    have reg := State.regWrite_irq isOpen keys lead (off := 0x40 + 4 * k.val) (by omega) (by omega) v
    rw [if_pos (by omega), show (0x40 + 4 * k.val - 0x40) / 4 = k.val by omega] at reg
    exact congrArg Host.Outcome.next reg
  refine ⟨fun ready low holds => ?_, fun ready beyond => ?_, fun ready low holds => ?_, fun ready low holds => ?_, fun member => ?_,
    fun k lead => ⟨_, pend k lead, fun e event => State.irqPend_testBit s k.val v event⟩, fun k lead quiet => ?_, fun k lead => ?_,
    fun k lead => ?_, ?_⟩
  · rw [State.cmdTailWrite_of_ready ready, if_neg (by omega)] at cmd
    exact cmd
  · rw [State.cmdTailWrite_of_ready ready, if_pos beyond] at cmd
    exact cmd
  · rw [State.rspHeadWrite_of_ready ready, if_neg (by omega)] at rsp
    exact rsp
  · rw [State.evtHeadWrite_of_ready ready, if_neg (by omega)] at evt
    exact evt
  · have ignored {off : Nat} (low : 0x40 ≤ off) (high : off < 0xE0) : (.next (s.regWrite off v) : Result') = .next s :=
      congrArg Host.Outcome.next (State.regWrite_member keys member low high v)
    exact ⟨fun k => ⟨ignored (by omega) (by omega), ignored (by omega) (by omega)⟩, fun k => ignored (by omega) (by omega)⟩
  · have row := pend k lead
    rw [State.irqPend_of_quiet quiet] at row
    exact ⟨_, row, putWord_clear_testBit s.irq.pend k.val v⟩
  · have reg := State.regWrite_irq isOpen keys lead (off := 0x50 + 4 * k.val) (by omega) (by omega) v
    rw [if_neg (by omega), if_pos (by omega), show (0x50 + 4 * k.val - 0x50) / 4 = k.val by omega] at reg
    exact ⟨_, congrArg Host.Outcome.next reg, putWord_testBit s.irq.mask k.val v⟩
  · have reg := State.regWrite_irq isOpen keys lead (off := 0x60 + 4 * k.val) (by omega) (by omega) v
    rw [if_neg (by omega), if_neg (by omega), show (0x60 + 4 * k.val - 0x60) / 4 = k.val by omega] at reg
    exact congrArg Host.Outcome.next reg
  · rintro we _ rfl
    have same : (s.seesWe we).bar0Write = s.seesWe we := State.bar0Write_of_none (by simp [keys])
    refine ⟨congrArg (fun t : State => (.next t.serve : Result')) ?_, ?_, fun lead => congrArg (fun t : State => (.next t.serve : Result')) ?_,
      fun _ => rfl⟩
    · simp [State.regWrite, isOpen, same]
    · rintro _ rfl
      exact ⟨rfl, by simp [State.regWrite, isOpen, same]⟩
    · simp [State.regWrite, isOpen, same, State.fullPort_of_lead isOpen lead]

end Sys2Proof.Machine

/-!
PROOF. The exchange memory over the PCI Express port (R350, R351).
-/
namespace Sys2Proof.Machine

/-! An access that nothing is in the way of (R351). -/

theorem State.serve_of_empty {s : State} (empty : s.host.cmdCount = 0) : s.serve = s := by simp [State.serve, empty, State.serveN]

/-- Outside the cycles A6 is not limited: an access behind none that is held is carried out as it stands. -/
theorem State.access_free {s : State} (held : s.port.pcieHeld = []) (idle : s.clk.begun = false) (a : MemAccess) :
    s.access a = s.doAccess a := by
  simp [State.access, held, State.chargeHost, State.hostFits, State.hostSpend, idle]

/-! Exchange memory outside the CAN queue areas (R350). -/

theorem State.write2_exch {s : State} {a : Nat} (full : s.fullPort = true) (low : 0x400000 ≤ a) (high : a < 0x500000)
    (can : canArea a = none) (b : Byte) : s.write2 a b =
      if streamReadOnly a then s else { s with mem := { s.mem with exch := s.mem.exch.write (a - 0x400000) b } } := by
  unfold State.write2
  rw [can]
  have above : ¬ a < 0x400000 := Nat.not_lt.2 low
  have below : ¬ 0x500000 ≤ a := Nat.not_le.2 high
  cases streamReadOnly a <;> simp [full, above, below]

/-- What a write of exchange memory leaves: all but that memory. -/
theorem State.write2_exch_frame {s : State} {a : Nat} (full : s.fullPort = true) (low : 0x400000 ≤ a) (high : a < 0x500000)
    (can : canArea a = none) (b : Byte) : ∃ m, s.write2 a b = { s with mem := m } := by
  rw [State.write2_exch full low high can]
  split
  · exact ⟨s.mem, rfl⟩
  · exact ⟨_, rfl⟩

/-- A byte written is read back, and no other byte changes. -/
theorem State.read2_write2_exch {s : State} {a : Nat} (ok : s.mem.Ok) (full : s.fullPort = true) (low : 0x400000 ≤ a) (high : a < 0x500000)
    (can : canArea a = none) (b : Byte) (c : Nat) :
    (s.write2 a b).read2 c = if c = a then (if streamReadOnly a then s.read2 a else b) else s.read2 c := by
  rw [State.write2_exch full low high can]
  by_cases ro : streamReadOnly a = true
  · rw [if_pos ro, if_pos ro]
    split
    · next same => rw [same]
    · rfl
  · rw [if_neg ro, if_neg ro]
    have port : ({ s with mem := { s.mem with exch := s.mem.exch.write (a - 0x400000) b } } : State).fullPort = true := full
    unfold State.read2
    rw [port, full]
    dsimp only
    by_cases same : c = a
    · subst same
      rw [can, if_pos rfl, if_neg (by simp [high]), if_neg (by omega)]
      exact (Memory.read_write _ _ _ _ ok.2).trans (if_pos rfl)
    · rw [if_neg same]
      by_cases beyond : 0x500000 ≤ c
      · simp [beyond]
      · by_cases trace : c < 0x400000
        · simp [beyond, trace]
        · have other : c - 0x400000 ≠ a - 0x400000 := by omega
          rw [Memory.read_write _ _ _ _ ok.2, if_neg other]
          rfl

@[simp] theorem State.seesWe_host (s : State) (we : Bool) : (s.seesWe we).host = s.host := by cases we <;> rfl
@[simp] theorem State.seesWe_port (s : State) (we : Bool) : (s.seesWe we).port = s.port := by cases we <;> rfl
@[simp] theorem State.seesWe_clk (s : State) (we : Bool) : (s.seesWe we).clk = s.clk := by cases we <;> rfl
@[simp] theorem State.seesWe_read2 (s : State) (we : Bool) (a : Nat) : (s.seesWe we).read2 a = s.read2 a := by cases we <;> rfl

/-- A PCI Express access over the full port of the lead, nothing in its way. -/
theorem goes_pcieMemoryAccess {s : State} (full : s.fullPort = true) (pcie : s.straps.hsel = false) (up : s.host.gen ≠ 0)
    (held : s.port.pcieHeld = []) (idle : s.clk.begun = false) (a : MemAccess) :
    Goes (.pcieMemoryAccess a) s ((s.seesWe a.we).doAccess a).serve := by
  have timed : s.md.mode.timed = true := by
    simp only [State.fullPort, State.portOpen, Bool.and_eq_true] at full
    exact full.1.1
  show execPcieMemoryAccess a s = _
  rw [execPcieMemoryAccess, if_neg (by simp [pcie, timed, up]), State.access_free (by simpa using held) (by simpa using idle)]

/-- Settles O29: the write is one byte of exchange memory, and a read of one byte returns what stands there. -/
theorem exchangeMemoryIsReadBack : Obligations.ExchangeMemoryIsReadBack := by
  unfold Obligations.ExchangeMemoryIsReadBack
  rintro s _ _ a b x ok full pcie up held idle keys empty low high can bar2 addr write rfl rfl
  have full' : (s.seesWe x.we).fullPort = true := by rw [State.seesWe_fullPort, full]
  obtain ⟨m, frame⟩ := State.write2_exch_frame full' low high can b
  have back := State.read2_write2_exch (by simpa using ok) full' low high can b
  refine ⟨?_, ?_, fun c other => ?_⟩
  · have done : (s.seesWe x.we).doAccess x = (s.seesWe x.we).write2 a b := by simp [State.doAccess, write, bar2, addr, State.write2s]
    have row := goes_pcieMemoryAccess full pcie up held idle x
    rwa [done, State.serve_of_empty (by rw [frame]; simpa using empty)] at row
  · rintro y _ bar2' addr' read one rfl
    have row := goes_pcieMemoryAccess (s := (s.seesWe x.we).write2 a b) (by rw [frame]; exact full') (by rw [frame]; simpa using pcie)
      (by rw [frame]; simpa using up) (by rw [frame]; simpa using held) (by rw [frame]; simpa using idle) y
    have byte : ((s.seesWe x.we).write2 a b).read2 a = if streamReadOnly a then s.read2 a else b := by
      rw [back, if_pos rfl, State.seesWe_read2]
    have done : (((s.seesWe x.we).write2 a b).seesWe y.we).doAccess y =
        { ((s.seesWe x.we).write2 a b).seesWe y.we with
          port := { ((s.seesWe x.we).write2 a b).port with
            readData := ((s.seesWe x.we).write2 a b).port.partData ++ [if streamReadOnly a then s.read2 a else b], partData := [] } } := by
      simp [State.doAccess, read, bar2', addr', one, byte]
    rw [done, State.serve_of_empty (by rw [frame]; simpa using empty)] at row
    exact row
  · rw [back, if_neg other, State.seesWe_read2]

end Sys2Proof.Machine

/-!
PROOF. The commands of the system, the modes, the gears, the tables and the nodes (Tables 15.2 to 15.6).
-/
namespace Sys2Proof.Machine

/-! Commands that change the configuration: forwarded to the twin with the cycle in which they take effect (R305, R372, R376). -/

/-- The cycle that an answer's two words carry. -/
@[simp] theorem Answer.effect_words64 (e : Nat) : Answer.effect (words64 e) = e % 2 ^ 64 := by
  simp only [Answer.effect, words64, w64, wd, BitVec.toNat_ofNat]
  omega

/-- A taken change of the configuration that takes effect at once. -/
theorem Taken.goes_changed {c : HostCmd} {h : Hdr} {p : List Word} {s t : State} (k : Taken c h p s)
    (run : c.run (refOf c.opcode h) p (s.entered c.opcode h p) = ok t) (config : c.config = true) :
    (.next (hostCommand c h p s) : Result') = .next ((t.forward c.opcode p 0).answered c.opcode h 0 []) := k.goes_forwarded run config

/-- A taken change of the configuration for a cycle to come, on time. -/
theorem Taken.goes_pended {c : HostCmd} {h : Hdr} {p : List Word} {s t : State} {e : Nat} (k : Taken c h p s)
    (run : c.run (refOf c.opcode h) p (s.entered c.opcode h p) = .done stOk (words64 e) t) (config : c.config = true) :
    (.next (hostCommand c h p s) : Result') = .next ((t.forward c.opcode p (e % 2 ^ 64)).answered c.opcode h stOk (words64 e)) := by
  rw [k.goes_forwarded run config, Answer.effect_words64]
  rfl

/-- A taken change of the configuration for a cycle to come, late: event 43 tells it. -/
theorem Taken.goes_pended_late {c : HostCmd} {h : Hdr} {p : List Word} {s t : State} {e : Nat} (k : Taken c h p s)
    (run : c.run (refOf c.opcode h) p (s.entered c.opcode h p) = .done stCommitLate (words64 e) t) (config : c.config = true) :
    (.next (hostCommand c h p s) : Result') =
      .next (((t.forward c.opcode p (e % 2 ^ 64)).raise 43 c.opcode (e % 2 ^ 64)).answered c.opcode h stCommitLate (words64 e)) := by
  rw [hostCommand_taken k, HostCmd.carry, run]
  simp [config, Answer.finish, State.answered]

/-- A taken late command that changes no configuration. -/
theorem Taken.goes_late {c : HostCmd} {h : Hdr} {p : List Word} {s t : State} {e : Nat} (k : Taken c h p s)
    (run : c.run (refOf c.opcode h) p (s.entered c.opcode h p) = .done stCommitLate (words64 e) t) (plain : c.config = false) :
    (.next (hostCommand c h p s) : Result') =
      .next ((t.raise 43 c.opcode (e % 2 ^ 64)).answered c.opcode h stCommitLate (words64 e)) := by
  rw [hostCommand_taken k, HostCmd.carry, run]
  simp [plain, Answer.finish, State.answered]

/-- Settles O16: each command by the branch of its row that the mode, or the checks passed, select. -/
theorem sysModeGearCommandsTakeEffect : Obligations.SysModeGearCommandsTakeEffect := by
  unfold Obligations.SysModeGearCommandsTakeEffect
  intro h p s
  refine ⟨?_, ?_, ?_, fun k target mode => k.goes_ok ?_ rfl, fun k target mode alone still => k.goes_ok ?_ rfl, ?_, ?_, ?_⟩
  · rintro _ k here rfl
    refine k.goes_ok ?_ rfl
    simp [sysResetCmd, here]
    rfl
  · rintro _ k target mode lapsed rfl
    refine k.goes_ok ?_ rfl
    simp [modeSetCmd, target, mode, lapsed]
  · rintro _ k target mode rfl
    refine k.goes_ok ?_ rfl
    simp [modeSetCmd, target, mode]
  · simp [modeSetCmd, target, mode]
  · simp only [modeSetCmd, entered_md, mode]
    rw [if_neg (by simp [target]), if_pos target, if_neg (by simp only [entered_twin, alone]; decide), if_neg (by simpa using still)]
  · rintro _ k target mode arm rfl
    refine k.goes_wait ?_
    simp [modeSetCmd, target, mode, arm]
    rfl
  · rintro _ _ k rfl limits current ports rfl
    refine k.goes_ok ?_ rfl
    simp [gearSetCmd, limits, current, ports]
  · rintro _ _ _ _ _ k rfl rfl commit shift swap moves whole near limits current moving sets tables0 tables1 ports can budget rfl rfl rfl onTime
    refine k.goes_pended (e := (s.shiftEffect h.lag (w64 (pw p 1) (pw p 2))).1) ?_ rfl
    have still : (!movingShift s.clk.gear (fld (pw p 0) 2 0) && !s.moving.isEmpty) = false := by
      obtain moves | rests := moves
      · simp [moves]
      · simp [rests]
    have fit : (movingShift s.clk.gear (fld (pw p 0) 2 0) && !s.movingFit (fld (pw p 0) 2 0)) = false := by
      cases moves : movingShift s.clk.gear (fld (pw p 0) 2 0) with
      | false => rfl
      | true => simp [moving moves]
    have canFits : (s.safe.configured && !s.canTwinOk s.can.s1 (tcOf (fld (pw p 0) 2 0))) = false := by
      cases configured : s.safe.configured with
      | false => rfl
      | true => simp [can configured]
    simp only [gearShiftCmd]
    rw [if_neg (by simp [commit, shift, swap]), if_neg (by simp only [entered_moving, entered_clk, still]; decide), if_neg (by simp [whole, Nat.not_lt.2 near]),
      if_neg (by simp [State.shiftTables, limits, current]), if_neg (by simp [State.shiftTables, sets, tables0, tables1, ports, fit, canFits]),
      if_neg (by simpa using budget)]
    simp [onTime, refOf]

/-- Settles O18: each command by the branch of its row that its locks and the mode leave. -/
theorem tableAndNodeCommandsTakeEffect : Obligations.TableAndNodeCommandsTakeEffect := by
  unfold Obligations.TableAndNodeCommandsTakeEffect
  intro h p s
  dsimp only
  refine ⟨fun k commit shift => k.goes_changed ?_ rfl, fun k commit lock => k.goes_changed ?_ rfl, fun k commit => k.goes_changed ?_ rfl,
    ?_, ?_, ?_, ?_, ?_, ?_⟩
  · simp [tableWinWriteCmd, commit, shift, State.editShadow]
  · simp [tableMapWriteCmd, commit, lock, State.editShadow]
  · simp [tableNodeWriteCmd, commit, State.editShadow]
  · rintro _ _ k commit shift rfl rfl
    refine k.goes_changed ?_ rfl
    simp [tableBudgetWriteCmd, commit, shift]
  · rintro _ _ g k rfl commit shift soon near rfl staging affected
    refine k.goes_wait ?_
    simp only [tableStageCmd]
    rw [if_neg (by simp [commit, shift]), if_neg (by simp [Nat.not_lt.2 soon, Nat.not_lt.2 near])]
    rw [staging]
    exact if_neg affected
  · rintro _ k commit shift mode rfl checks
    refine k.goes_forwarded (q := words64 0) ?_ rfl
    simp [tableCommitCmd, commit, shift, mode, checks]
  · rintro _ _ _ k commit shift mode rfl rfl soon near checks rfl
    have inTime : ((decide (w64 (pw p 1) (pw p 2) < s.clk.cycle + 2) && !s.stagedExempt (bit (pw p 0) 0) (bit (pw p 0) 1) (w64 (pw p 1) (pw p 2))) ||
        decide (s.clk.cycle + 32767 < w64 (pw p 1) (pw p 2))) = false := by
      obtain soon | exempt := soon
      · simp [Nat.not_lt.2 soon, Nat.not_lt.2 near]
      · simp [exempt, Nat.not_lt.2 near]
    refine ⟨fun f onTime => k.goes_pended ?_ rfl, fun f late => k.goes_pended_late ?_ rfl⟩
    · simp only [tableCommitCmd]
      rw [if_neg (by simp [commit, shift]), if_neg (by simp [mode]), if_neg (by exact ne_true_of_eq_false inTime), if_neg (by simp [checks])]
      simp [refOf, onTime]
    · simp only [tableCommitCmd]
      rw [if_neg (by simp [commit, shift]), if_neg (by simp [mode]), if_neg (by exact ne_true_of_eq_false inTime), if_neg (by simp [checks])]
      simp [refOf, late]
  · rintro _ k assigned rfl
    refine k.goes_wait ?_
    simp [chainNodeReadCmd, assigned]
  · rintro _ _ k assigned rfl rfl
    refine k.goes_wait ?_
    simp [chainNodeWriteCmd, assigned]

end Sys2Proof.Machine

/-!
PROOF. The commands of an axis and of its moves (Tables 9.3, 15.8 and 15.9).
-/
namespace Sys2Proof.Machine

/-- Settles O19: each command by the branch of its row that the axis's state selects. -/
theorem axisCommandsTakeEffect : Obligations.AxisCommandsTakeEffect := by
  unfold Obligations.AxisCommandsTakeEffect
  intro h p s
  dsimp only
  refine ⟨fun k enables current zone off => ⟨fun free => k.goes_ok ?_ rfl, fun source locked => k.goes_refused ?_ (by decide) (by decide)⟩,
    fun k on rests => k.goes_ok ?_ rfl, fun k off => k.goes_changed ?_ rfl, fun k on => k.goes_refused ?_ (by decide) (by decide),
    fun k begun => k.goes_changed ?_ rfl, fun k spoke brake ack => k.goes_changed ?_ rfl⟩
  · have lock : ((s.ax (selItem p)).srcSel ≠ 0 && s.shiftLocks) = false := by
      obtain none | free := free
      · simp [none]
      · simp [free]
    simp only [axisEnableCmd]
    rw [if_neg (by simp [enables]), if_neg (by simp [Nat.not_lt.2 current]), if_neg (by simp [zone]), if_neg (by simp [off]),
      if_neg (by exact ne_true_of_eq_false lock)]
  · simp only [axisEnableCmd]
    rw [if_neg (by simp [enables]), if_neg (by simp [Nat.not_lt.2 current]), if_neg (by simp [zone]), if_neg (by simp [off]),
      if_pos (by simp [source, locked])]
  · simp [axisDisableCmd, on, rests]
  · simp [axisPrfCfgWriteCmd, off]
  · simp [axisPrfCfgWriteCmd, on]
  · simp [axisMissWindowCmd, begun]
  · have sto : (bit (pw p 1) 8 && s.inSto (selItem p)) = false := by
      cases released : bit (pw p 1) 8 with
      | false => rfl
      | true => simp [brake released]
    have busy : (bit (pw p 1) 9 && ((s.ax (selItem p)).ackNew || decide ((s.ax (selItem p)).ackLeft ≠ 0))) = false := by
      cases asked : bit (pw p 1) 9 with
      | false => rfl
      | true => simp [ack asked]
    simp only [axisAuxWriteCmd]
    rw [if_neg (by simp [Option.isSome_iff_ne_none.1 spoke]), if_neg (by exact ne_true_of_eq_false sto), if_neg (by exact ne_true_of_eq_false busy)]
    rfl

/-! The requests to one axis (Table 9.3). -/

theorem requestRun_taken {kind : Nat} {p : List Word} {s t : State} (accepted : s.request (selItem p) kind = (stOk, t)) :
    requestRun kind p s = ok t [wd (t.ax (selItem p)).gen.st] := by
  rw [requestRun, accepted]
  rfl

theorem requestRun_refused {kind st : Nat} {p : List Word} {s t : State} (refused : s.request (selItem p) kind = (st, t)) (not : st ≠ stOk) :
    requestRun kind p s = refuse s st := by
  rw [requestRun, refused]
  exact if_pos not

/-- A request answers with the generator's new state, or with the status of Table 9.3. -/
theorem Taken.goes_request {c : HostCmd} {kind : Nat} {h : Hdr} {p : List Word} {s t : State} {st : Nat} (k : Taken c h p s)
    (runs : c.run (refOf c.opcode h) p (s.entered c.opcode h p) = requestRun kind p (s.entered c.opcode h p)) (plain : c.config = false)
    (request : (s.entered c.opcode h p).request (selItem p) kind = (st, t)) :
    (st = stOk → (.next (hostCommand c h p s) : Result') = .next (t.answered c.opcode h 0 [wd (t.ax (selItem p)).gen.st])) ∧
    (st ≠ stOk → st ≠ stCommitLate → (.next (hostCommand c h p s) : Result') = .next ((s.entered c.opcode h p).answered c.opcode h st [])) := by
  refine ⟨?_, fun refused late => k.goes_refused (runs.trans (requestRun_refused request refused)) refused late⟩
  rintro rfl
  exact k.goes_ok (runs.trans (requestRun_taken request)) plain

/-- A move that may start has its start pended, late where its boundary has passed. -/
theorem State.placeMove_starts {s : State} {i n e : Nat} {m : Move} {late : Bool} (clear : (s.ax i).gen.towardLimit
      (if m.jog then sgnI m.v else sgnI (((s.ax i).endOf m false).2 - ((s.ax i).endOf m false).1)) = false)
    (window : m.jog = false → s.inWindow i ((s.ax i).endOf m false).2 = true) (isLate : (decide (n ≠ 0) && decide (s.clk.b n < s.now)) = late)
    (starts : (if n = 0 || late then s.clk.cycle + 1 else n) = e) : s.placeMove i m n false =
      .done (if late then stCommitLate else stOk) (words64 e) (s.setAx i { s.ax i with gen := { (s.ax i).gen with pend := some (m, e) } }) := by
  have inside : (!m.jog && !s.inWindow i ((s.ax i).endOf m false).2) = false := by
    cases jog : m.jog with
    | true => rfl
    | false => simp [window jog]
  unfold State.placeMove
  dsimp only
  rw [if_neg (by simp [clear]), if_neg (ne_true_of_eq_false inside), if_neg (by simp), if_neg (by simp), if_neg (by simp), isLate, starts]

/-- A move that may wait is queued. -/
theorem State.placeMove_waits {s : State} {i : Nat} {m : Move} (window : m.jog = false → s.inWindow i ((s.ax i).endOf m true).2 = true)
    (first : (s.ax i).gen.queued = none) (room : s.queuedMoves < 8) (n : Nat) : s.placeMove i m n true =
      ok ((s.setAx i ({ s.ax i with gen := { (s.ax i).gen with queued := some (m, n) } } : Axis).bump).markChanged i) (words64 0) := by
  have inside : (!m.jog && !s.inWindow i ((s.ax i).endOf m true).2) = false := by
    cases jog : m.jog with
    | true => rfl
    | false => simp [window jog]
  unfold State.placeMove
  dsimp only
  rw [if_neg (by simp), if_neg (ne_true_of_eq_false inside), if_neg (by simp [first]), if_neg (by simpa using room), if_pos rfl]

/-- A MOVE.START that passes its checks is placed as its fate says. -/
theorem moveStartCmd_run {p : List Word} {s : State} {waits : Bool} (starts : s.startStatus (selItem p) = 0)
    (source : (s.ax (selItem p)).srcSel = 0) (dec : (moveOf p).dec ≤ (s.ax (selItem p)).prf0.toNat)
    (near : w64 (pw p 8) (pw p 9) ≤ s.clk.cycle + 32767) (free : (s.ax (selItem p)).gen.pend = none)
    (judged : (if bit (pw p 3) 3 then (s.ax (selItem p)).gen.fateQueue (moveOf p) else (s.ax (selItem p)).gen.fateNow (moveOf p)) =
      if waits then .waits else .starts) (r : MsgRef) :
    moveStartCmd.run r p s = s.placeMove (selItem p) (moveOf p) (w64 (pw p 8) (pw p 9)) waits := by
  simp only [moveStartCmd]
  rw [if_neg (by simp [starts]), if_neg (by simp [source, Nat.not_lt.2 dec, Nat.not_lt.2 near]), if_neg (by simp [free]), judged]
  cases waits <;> rfl

/-- Settles O20: a start goes through `placeMove`, a request to one axis through `requestRun`. -/
theorem moveCommandsTakeEffect : Obligations.MoveCommandsTakeEffect := by
  unfold Obligations.MoveCommandsTakeEffect
  intro h p s
  dsimp only
  refine ⟨?_, ?_, ?_, ?_, ?_, ?_, ?_⟩
  · intro k starts source dec near free judged clear window
    have run := moveStartCmd_run (s := s.entered 0x0801 h p) (waits := false) starts source dec near free judged (refOf 0x0801 h)
    refine ⟨fun zero => k.goes_done (run.trans (State.placeMove_starts (s := s.entered 0x0801 h p) (late := false) clear window ?_ ?_)) rfl (by decide),
      fun some onTime => k.goes_done (run.trans (State.placeMove_starts (s := s.entered 0x0801 h p) (late := false) clear window ?_ ?_)) rfl (by decide),
      fun some late => k.goes_late (run.trans (State.placeMove_starts (s := s.entered 0x0801 h p) (late := true) clear window ?_ ?_)) rfl⟩
    · simp [zero]
    · simp [zero]
    · simp [Nat.not_lt.2 onTime]
    · simp [some]
    · simp [some, late]
    · simp
  · intro k starts source dec near free judged window first room
    exact k.goes_ok ((moveStartCmd_run (s := s.entered 0x0801 h p) (waits := true) starts source dec near free judged (refOf 0x0801 h)).trans
      (State.placeMove_waits (s := s.entered 0x0801 h p) window first room _)) rfl
  · rintro _ t st k rfl request
    exact k.goes_request rfl rfl request
  · rintro _ t st k rfl request
    exact k.goes_request rfl rfl request
  · rintro _ t st k rfl request
    exact k.goes_request rfl rfl request
  · rintro _ t st k rfl request
    exact k.goes_request rfl rfl request
  · rintro _ t l st k hold rfl request late
    refine k.goes_done ?_ rfl late
    have run : (fld (pw p 0) 2 0 = 3 && s.md.mode == .safeHold) = false := by
      by_cases three : fld (pw p 0) 2 0 = 3
      · simp [hold three]
      · simp [three]
    simp only [moveSetStopCmd]
    rw [if_neg (by exact ne_true_of_eq_false run), request]

end Sys2Proof.Machine

/-!
PROOF. The stop requests of an axis (Table 9.3, R163, R209, R210).
-/
namespace Sys2Proof.Machine

/-! What a stop request makes of the generator, state by state (Table 9.3). -/

/-- A generator stands and moves as another does. -/
def Gen.MovesAs (g b : Gen) : Prop := g.p = b.p ∧ g.v = b.v ∧ g.a = b.a

/-- A stop begins from the generator's own motion, unless a soft-start ramp of a position source runs. -/
theorem Gen.base_movesAs {g : Gen} {vel : Bool} (own : g.soft = none ∨ g.st = 3 ∨ vel = true) : (g.base vel).MovesAs g := by
  have plain : (g.soft.isSome && !vel && g.st != 3) = false := by
    obtain soft | source | vel := own
    · simp [soft]
    · simp [source]
    · simp [vel]
  rw [Gen.base, if_neg (ne_true_of_eq_false plain)]
  exact ⟨rfl, rfl, rfl⟩

theorem Gen.base_of_soft {g : Gen} (soft : g.soft.isSome = true) (moves : g.st = 1 ∨ g.st = 2) :
    g.base false = { g with p := g.pRef, v := q16to32 g.vRef, a := 0 } := by
  have source : g.st ≠ 3 := by omega
  simp [Gen.base, soft, source]

/-- A stop from a motion begins from its base; elsewhere the generator moves on as it did, or from its base. -/
def Axis.StopsFrom (x y : Axis) : Prop :=
  y.gen.MovesAs (x.gen.base x.velSource) ∨ (x.gen.st ≠ 1 ∧ x.gen.st ≠ 2 ∧ y.gen.MovesAs x.gen)

theorem Axis.StopsFrom.of_own {x y : Axis} {g : Nat} (stops : x.StopsFrom y) (state : g = x.gen.st)
    (own : x.gen.soft = none ∨ g = 3 ∨ x.velSource = true) : y.gen.MovesAs x.gen := by
  subst state
  obtain ⟨p, v, a⟩ | ⟨-, -, same⟩ := stops
  · obtain ⟨p', v', a'⟩ := Gen.base_movesAs own
    exact ⟨p.trans p', v.trans v', a.trans a'⟩
  · exact same

theorem Axis.StopsFrom.of_soft {x y : Axis} (stops : x.StopsFrom y) (soft : x.gen.soft.isSome = true) (position : x.velSource = false)
    (moves : x.gen.st = 1 ∨ x.gen.st = 2) : y.gen.p = x.gen.pRef ∧ y.gen.v = q16to32 x.gen.vRef ∧ y.gen.a = 0 := by
  obtain base | ⟨one, two, -⟩ := stops
  · rwa [position, Gen.base_of_soft soft moves] at base
  · exact (moves.elim one two).elim

/-- Where the stopped axis stands and moves, in both cases. -/
theorem Axis.StopsFrom.motion {x y : Axis} (stops : x.StopsFrom y) (g : Nat) :
    (x.gen.soft = none ∨ g = 3 ∨ x.velSource = true → g = x.gen.st → y.gen.MovesAs x.gen) ∧
    (x.gen.soft.isSome = true → x.velSource = false → g = x.gen.st → g = 1 ∨ g = 2 →
      y.gen.p = x.gen.pRef ∧ y.gen.v = q16to32 x.gen.vRef ∧ y.gen.a = 0) := by
  refine ⟨fun own state => stops.of_own state own, ?_⟩
  rintro soft position rfl moves
  exact stops.of_soft soft position moves

theorem Axis.quickStop_st (x : Axis) : x.quickStop.ax.gen.st =
    if x.gen.st = 1 ∨ x.gen.st = 2 ∨ x.gen.st = 3 ∨ x.gen.st = 5 ∨ x.gen.st = 10 ∨ (x.gen.st = 8 ∧ x.prf1.toNat < x.prf0.toNat) then 4
    else x.gen.st := by
  unfold Axis.quickStop
  dsimp only
  split
  case h_5 state =>
    by_cases quicker : x.prf0.toNat > x.prf1.toNat
    · simp [state, quicker, Axis.toRamp]
    · rw [if_neg quicker, if_neg (by omega)]
  case h_7 => simp_all
  all_goals next state => simp [state, Axis.toRamp]

theorem Axis.hold_st (x : Axis) : x.hold.ax.gen.st = if x.gen.st = 1 ∨ x.gen.st = 2 ∨ x.gen.st = 3 then 5 else x.gen.st := by
  unfold Axis.hold
  dsimp only
  split
  case h_4 => simp_all
  all_goals next state => simp [state, Axis.toRamp]

/-- ABORT, whatever is reported with the end of a move. -/
theorem Axis.abort_st (x : Axis) : x.abort.ax.gen.st =
    if x.gen.st = 1 ∨ x.gen.st = 2 ∨ x.gen.st = 3 ∨ x.gen.st = 5 then 10
    else if x.gen.st = 6 ∨ x.gen.st = 7 ∨ x.gen.st = 9 then 0 else x.gen.st := by
  unfold Axis.abort
  dsimp only
  generalize (if Gen.owes _ 4 = true then [PEvent.moveEnd] else []) = ev
  split
  case h_4 state | h_9 state => split <;> cases ev <;> simp [state, Axis.bump]
  case h_10 => simp_all
  all_goals
    next state => cases ev <;> simp [state, Axis.toRamp, Axis.bump]

theorem Gen.base_movesAs_base (g : Gen) (vel : Bool) (pend queued : Option (Move × Nat)) :
    (({ g with pend := pend, queued := queued } : Gen).base vel).MovesAs (g.base vel) := by
  by_cases soft : (g.soft.isSome && !vel && g.st != 3) = true <;> simp [Gen.base, Gen.MovesAs, soft]

/-- A ramp begins from the base of the axis that enters it; its pending start and its queued move do not matter. -/
theorem Axis.toRamp_stopsFrom (x : Axis) (pend queued : Option (Move × Nat)) (st : Nat) (r : Nat × Nat) :
    x.StopsFrom (({ x with gen := { x.gen with pend := pend, queued := queued } } : Axis).toRamp st r) := by
  refine .inl ?_
  exact Gen.base_movesAs_base x.gen x.velSource pend queued

theorem Axis.quickStop_stopsFrom (x : Axis) : x.StopsFrom x.quickStop.ax := by
  unfold Axis.quickStop
  dsimp only
  split
  case h_5 state =>
    split
    · exact x.toRamp_stopsFrom ..
    · exact .inr ⟨by omega, by omega, rfl, rfl, rfl⟩
  case h_7 => exact .inr ⟨by assumption, by assumption, rfl, rfl, rfl⟩
  case h_6 => exact x.toRamp_stopsFrom none x.gen.queued 4 (0, 0)
  all_goals exact x.toRamp_stopsFrom ..

theorem Axis.hold_stopsFrom (x : Axis) : x.StopsFrom x.hold.ax := by
  unfold Axis.hold
  dsimp only
  split
  case h_4 => exact .inr ⟨by assumption, by assumption, rfl, rfl, rfl⟩
  all_goals exact x.toRamp_stopsFrom ..

theorem Axis.abort_stopsFrom (x : Axis) : x.StopsFrom x.abort.ax := by
  unfold Axis.abort
  dsimp only
  generalize (if Gen.owes _ 4 = true then [PEvent.moveEnd] else []) = ev
  split
  case h_10 => exact .inr ⟨by assumption, by assumption, rfl, rfl, rfl⟩
  case h_1 | h_2 | h_3 => cases ev <;> exact x.toRamp_stopsFrom none none 10 (0, 0)
  case h_4 state | h_9 state => split <;> cases ev <;> exact .inr ⟨by omega, by omega, rfl, rfl, rfl⟩
  all_goals
    next state => cases ev <;> exact .inr ⟨by omega, by omega, rfl, rfl, rfl⟩

/-! The requests that stop. -/

@[simp] theorem Axis.quickStop_status (x : Axis) : x.quickStop.status = 0 := by
  unfold Axis.quickStop
  dsimp only
  (repeat' split) <;> rfl

@[simp] theorem Axis.hold_status (x : Axis) : x.hold.status = 0 := by
  unfold Axis.hold
  dsimp only
  split <;> rfl

@[simp] theorem Axis.abort_status (x : Axis) : x.abort.status = 0 := by
  unfold Axis.abort
  dsimp only
  (repeat' split) <;> rfl

/-- Settles O21: a stop is refused by an axis that is off and never otherwise; what it makes of the generator is told by the three requests. -/
theorem stopRequestsFollowTheGenerator : Obligations.StopRequestsFollowTheGenerator := by
  unfold Obligations.StopRequestsFollowTheGenerator
  rintro s i k g (rfl | rfl | rfl)
  all_goals dsimp only
  · refine ⟨fun off => by simp [State.request, off], fun on => by simp [State.request, on], ?_, (s.ax i).quickStop_stopsFrom.motion g⟩
    rintro rfl
    exact (s.ax i).quickStop_st
  · refine ⟨fun off => by simp [State.request, off], fun on => by simp [State.request, on], ?_, (s.ax i).hold_stopsFrom.motion g⟩
    rintro rfl
    exact (s.ax i).hold_st
  · refine ⟨fun off => by simp [State.request, off], fun on => by simp [State.request, on], ?_, (s.ax i).abort_stopsFrom.motion g⟩
    rintro rfl
    exact (s.ax i).abort_st

end Sys2Proof.Machine

/-!
PROOF. The commands of the loop (Table 15.11).
-/
namespace Sys2Proof.Machine

/-- The limits of the device leave room for axis i configured as `y` (Table 2.1). -/
theorem loopCfgRoom {s : State} {i : Nat} {y : Axis} (current : y.isCur = true → (s.ax i).isCur = true ∨ s.curAxes.length < 32)
    (axes : s.axesWith i y = true) : ((y.isCur && !(s.ax i).isCur && decide (32 ≤ s.curAxes.length)) || !s.axesWith i y) = false := by
  rw [axes, Bool.not_true, Bool.or_false]
  cases cur : y.isCur with
  | false => rfl
  | true =>
    obtain was | room := current cur
    · simp [was]
    · simp [Nat.not_le.2 room]

/-- Settles O22: each command by the branch of its row that the axis's state, its locks and the mode select. -/
theorem loopCommandsTakeEffect : Obligations.LoopCommandsTakeEffect := by
  unfold Obligations.LoopCommandsTakeEffect
  intro h p s
  dsimp only
  refine ⟨?_, fun k on differs => k.goes_refused ?_ (by decide) (by decide), ?_, fun k same => k.goes_changed ?_ rfl, ?_,
    fun k free => k.goes_changed ?_ rfl, fun k free ready => k.goes_changed ?_ rfl, fun k free unready => k.goes_refused ?_ (by decide) (by decide),
    ?_, ?_⟩
  · intro y k off config fits current axes
    have room := loopCfgRoom current axes
    subst config
    have run : loopCfgWriteCmd.run (refOf 0x0901 h) p (s.entered 0x0901 h p) =
        let t := (s.entered 0x0901 h p).setAx (selItem p) { s.ax (selItem p) with cfg0 := pw p 1, cfg1 := pw p 2, cfg2 := pw p 3, srcNext := none }
        ok (if ({ s.ax (selItem p) with cfg0 := pw p 1, cfg1 := pw p 2, cfg2 := pw p 3 } : Axis).template = 0 then t.tryClose
          else t.account (selItem p) t.clk.cycle) := by
      simp only [loopCfgWriteCmd]
      rw [if_neg (by simp [off]), if_neg (by simp [fits]), if_neg (by exact ne_true_of_eq_false room), if_neg (by simp [off])]
      rfl
    refine ⟨fun none => k.goes_changed (run.trans ?_) rfl, fun some => k.goes_changed (run.trans ?_) rfl⟩
    · exact congrArg ok (if_pos none)
    · exact congrArg ok (if_neg some)
  · simp [loopCfgWriteCmd, on, differs]
  · intro y k on same config fits current axes source
    have room := loopCfgRoom current axes
    subst config
    refine k.goes_changed ?_ rfl
    simp only [loopCfgWriteCmd]
    rw [if_neg (by simp [on, same]), if_neg (by simp [fits]), if_neg (by exact ne_true_of_eq_false room), if_pos (by simp [on])]
    by_cases kept : ({ s.ax (selItem p) with cfg0 := pw p 1, cfg1 := pw p 2, cfg2 := pw p 3 } : Axis).srcSel = (s.ax (selItem p)).srcSel
    · exact if_pos kept
    · obtain ⟨lock, soft⟩ := source.resolve_left kept
      rw [if_neg (by exact kept), if_neg ?rate, if_neg ?lock, if_pos ?soft]
      case rate =>
        obtain ⟨-, rate⟩ | ⟨off, -⟩ := soft
        · simp [rate]
        · simp [off]
      case lock =>
        obtain none | free := lock
        · simp [none]
        · simp [free]
      case soft =>
        obtain ⟨on, -⟩ | ⟨-, still⟩ := soft
        · simp [on]
        · simp [still]
      rfl
  · obtain off | same := same
    · simp [loopCurWriteCmd, off]
    · simp [loopCurWriteCmd, same]
  · rintro _ _ _ _ k free rfl rfl rfl rfl
    refine k.goes_changed ?_ rfl
    simp [loopCoefWriteCmd, free, coefIdx]
  · simp [loopParamWriteCmd, free]
  · simp [loopReadyCmd, free, ready]
  · simp [loopReadyCmd, free, unready]
  · rintro _ k swap shift rfl ready mode
    refine k.goes_forwarded (q := words64 0) ?_ rfl
    simp only [loopSwapCmd]
    rw [if_neg (by simp [swap, shift]), if_neg (by simpa using ready), if_pos (by simp [mode])]
  · rintro _ _ _ f k swap shift rfl ready mode rfl soon near onTime rfl
    refine k.goes_pended ?_ rfl
    simp only [loopSwapCmd]
    rw [if_neg (by simp [swap, shift]), if_neg (by simpa using ready), if_neg (by simp [mode]),
      if_neg (by simp [Nat.not_lt.2 soon, Nat.not_lt.2 near])]
    simp [refOf, onTime]

end Sys2Proof.Machine

/-!
PROOF. The commands of the ports, the safety unit, the twin, the cluster and CAN (Tables 15.12 to 15.16).
-/
namespace Sys2Proof.Machine

@[simp] theorem pw_tail (p : List Word) (i : Nat) : pw p.tail i = pw p (i + 1) := by simp [pw, List.getD_eq_getElem?_getD]

/-- Arming a trigger leaves the converter's words. -/
@[simp] theorem Conv.arm_w0 (c : Conv) (t : Nat) : (c.arm t).w0 = c.w0 := by
  unfold Conv.arm
  split <;> rfl

/-- Settles O23: each command by the branch of its row that the port's state selects. -/
theorem portCommandsTakeEffect : Obligations.PortCommandsTakeEffect := by
  unfold Obligations.PortCommandsTakeEffect
  intro h p s
  dsimp only
  refine ⟨fun k unused => k.goes_changed ?_ rfl, fun k unused => k.goes_changed ?_ rfl, ?_, fun k mode single request => k.goes_wait ?_, ?_, ?_,
    fun k rests on => k.goes_ok ?_ rfl⟩
  · simp only [pulsePinCfgCmd]
    rw [if_neg (by simpa using unused)]
    rfl
  · simp only [pulseStpCfgCmd]
    rw [if_neg (by simpa using unused)]
    rfl
  · intro f k config fits unused
    subst config
    refine k.goes_changed ?_ rfl
    simp only [feedbackCfgWriteCmd]
    rw [if_neg (by simp [fits]), if_neg (by simpa using unused)]
    rfl
  · simp only [feedbackSingleReadCmd]
    rw [if_neg (by simp [mode]), if_neg (by simp [single, request])]
    rfl
  · rintro _ d k rfl fits rests unarmed config same
    refine k.goes_changed ?_ rfl
    have fresh : ((s.conv (selSub p)).run.isSome || (s.conv (selSub p)).isArmed) = false := by simp [rests, unarmed]
    have source : fld (s.conv (selSub p)).w0 1 0 = fld ((s.conv (selSub p)).setCfg (p.drop 1)).w0 1 0 := by
      simpa [config, Conv.setCfg] using same
    subst config
    simp only [adcCfgWriteCmd]
    rw [if_neg (by simp [fits]), if_neg (by simp [rests, unarmed]), if_pos (by exact source), if_pos (by simp [rests, unarmed])]
    simp [Conv.setCfg]
  · rintro _ _ k rfl rfl entries fits rests unarmed
    refine k.goes_changed ?_ rfl
    simp only [adcSeqWriteCmd]
    rw [if_neg (by simp [fits, entries, -List.drop_one]), if_neg (by simp [rests, unarmed])]
    rfl
  · simp only [adcStartCmd]
    rw [if_neg (by simp [rests, on])]
    rfl

/-- Settles O24: the writes take no other branch; a confirmation and a demand split on what they name. -/
theorem safeCommandsTakeEffect : Obligations.SafeCommandsTakeEffect := by
  unfold Obligations.SafeCommandsTakeEffect
  intro h p s
  refine ⟨?_, ?_, ?_, ?_, ?_, fun k other => k.goes_refused (if_pos other) (by decide) (by decide), ?_⟩
  · rintro _ k rfl
    exact k.goes_changed rfl rfl
  · rintro _ _ k rfl rfl
    exact k.goes_changed rfl rfl
  · rintro _ _ k rfl rfl
    exact k.goes_changed rfl rfl
  · rintro _ _ k rfl rfl
    exact k.goes_changed rfl rfl
  · rintro _ k rfl present
    exact k.goes_ok (if_neg (Classical.not_not.2 present)) rfl
  · rintro _ _ k rfl rfl
    refine ⟨fun sto => k.goes_ok ?_ rfl, fun ss1 => k.goes_ok ?_ rfl, fun back => ⟨_, _, fun j => sub_and_testBit j _ _, fun j => sub_and_testBit j _ _, k.goes_ok ?_ rfl⟩⟩
    · simp [safeDemandCmd, sto, Safe.demand]
    · simp [safeDemandCmd, ss1, Safe.demand]
    · simp [safeDemandCmd, back, Safe.demand]

/-- Settles O25: each command by the branch of its row that the unit's state and the mode select. -/
theorem twinClusterCanCommandsTakeEffect : Obligations.TwinClusterCanCommandsTakeEffect := by
  unfold Obligations.TwinClusterCanCommandsTakeEffect
  intro h p s
  dsimp only
  refine ⟨?_, fun k ready swap commit shift quiet => k.goes_wait ?_, fun k unready => k.goes_refused ?_ (by decide) (by decide), ?_, ?_, ?_, ?_,
    fun k => k.goes_changed rfl rfl, ?_, ?_, fun k waits owned => k.goes_ok ?_ rfl, fun k waits other => k.goes_ok ?_ rfl, fun k off => k.goes_ok ?_ rfl⟩
  · rintro _ k rfl
    exact k.goes_ok rfl rfl
  · simp only [twinSwapCmd]
    rw [if_neg (by simp [ready]), if_neg (by simpa [swap, commit, shift] using quiet)]
  · simp [twinSwapCmd, unready]
  · rintro _ k own rfl
    exact k.goes_ok (if_neg (by simp [own])) rfl
  · rintro _ k rfl src dst move shift status mode
    refine k.goes_forwarded (q := words64 0) ?_ rfl
    simp only [clusterMoveAxisCmd]
    rw [if_neg (by simp [src, dst]), if_neg (by simp [move, shift]), if_pos (by simp [mode]), if_neg (by simpa [refOf] using status)]
    rfl
  · rintro _ _ f k rfl src dst move shift status mode soon near onTime rfl
    refine k.goes_pended ?_ rfl
    simp only [clusterMoveAxisCmd]
    rw [if_neg (by simp [src, dst]), if_neg (by simp [move, shift]), if_neg (by simp [mode]), if_neg (by simp [Nat.not_lt.2 soon, Nat.not_lt.2 near]),
      if_neg (by simpa [refOf] using status)]
    simp [refOf, onTime]
  · rintro _ k rfl
    exact k.goes_changed rfl rfl
  · intro r t k config next schedule safe
    have crossed : (decide (selSub p = 1) && s.safe.configured && !t.canSafeOk s.can.s0 s.can.s1 s.can.s2) = false := by
      by_cases port : selSub p = 1
      · cases configured : s.safe.configured with
        | false => simp
        | true => simp [safe port configured]
      · simp [port]
    have scheduled : (!t.schedOk (selSub p) r) = false := congrArg not schedule
    subst next config
    refine k.goes_changed ?_ rfl
    simp only [canSchedWriteCmd]
    rw [if_neg (by exact ne_true_of_eq_false scheduled), if_neg (by exact ne_true_of_eq_false crossed)]
    rfl
  · rintro _ k fits rfl
    exact k.goes_changed (if_neg (by simp [fits])) rfl
  · simp only [canAbortCmd]
    rw [if_neg (by simpa using waits), if_neg (by simpa using owned)]
    rfl
  · simp only [canAbortCmd]
    rw [if_neg (by simpa using waits), if_pos (by simpa using other)]
  · simp only [canRecoverCmd]
    rw [if_neg (by simp [off])]
    rfl

end Sys2Proof.Machine

/-!
PROOF. The commands of the acquisition, the filter engine, the fault classes, the BBR and the firmware slots (Tables 15.17 to 15.20).
-/
namespace Sys2Proof.Machine

/-- A chirp's mode, axis and generator state do not refuse it; other kinds are not asked for them (Table 15.17). -/
theorem chirp_unrefused {s : State} {kind axis : Nat} (chirp : kind = 2 → s.md.mode = .runActive ∧ (s.ax axis).takesChirp = true ∧
      ((s.ax axis).gen.st = 0 ∨ (s.ax axis).gen.st = 7)) :
    (if kind = 2 then chirpMode s.md.mode else 0) = 0 ∧ (kind == 2 && !(s.ax axis).takesChirp) = false ∧
      (decide (kind = 2) && !((s.ax axis).gen.st == 0 || (s.ax axis).gen.st == 7)) = false := by
  by_cases two : kind = 2
  · obtain ⟨mode, takes, state⟩ := chirp two
    refine ⟨by simp [two, chirpMode, mode], by simp [takes], ?_⟩
    obtain idle | held := state
    · simp [idle]
    · simp [held]
  · simp [two]

/-- Settles O26: each command by the branch of its row that the unit's state selects. -/
theorem traceFilterEventFlashCommandsTakeEffect : Obligations.TraceFilterEventFlashCommandsTakeEffect := by
  unfold Obligations.TraceFilterEventFlashCommandsTakeEffect
  intro h p s
  refine ⟨?_, ?_, ?_, ?_, ?_, ?_, fun k known => k.goes_ok (if_neg (by simp [State.jobKnown, known])) rfl, ?_, fun k settings => k.goes_ok ?_ rfl,
    fun k host => k.goes_ok ?_ rfl, ?_, ?_, ?_, ?_, ?_⟩
  · rintro _ k quiet rfl
    exact k.goes_ok (if_neg (by simp [quiet])) rfl
  · rintro _ _ k quiet rfl rfl
    exact k.goes_ok (if_neg (by simp [quiet])) rfl
  · intro u t k enters config fits quiet
    have valid : (!t.trigOk (selItem p) (selItem p + selCount p)) = false := congrArg not fits
    subst enters config
    refine k.goes_ok ?_ rfl
    simp only [traceTrigWriteCmd]
    rw [if_neg (by exact ne_true_of_eq_false valid), if_neg (by simp [quiet])]
    rfl
  · rintro _ k entries slots quiet rfl
    refine k.goes_ok ?_ rfl
    simp only [traceArmCmd]
    rw [if_neg (by simp [Nat.not_lt.2 entries, Nat.not_lt.2 slots]), if_neg (by simp [quiet])]
    rfl
  · rintro _ k rfl
    exact k.goes_ok rfl rfl
  · intro u b j k enters config chirp fits free
    obtain ⟨mode, takes, state⟩ := chirp_unrefused chirp
    have valid : (!b.ok (pw p 0) (pw p 1) s.tc || (b.kind == 2 && !(s.ax b.axis).takesChirp)) = false := by simp [fits, takes]
    subst enters config
    refine k.goes_ok ?_ rfl
    simp only [filterJobStartCmd]
    rw [if_neg (by exact Classical.not_not.2 mode), if_neg (by exact ne_true_of_eq_false valid), if_neg (by exact ne_true_of_eq_false state), entered_freeJob, free]
  · rintro _ _ _ _ _ k rfl rfl rfl rfl rfl
    exact k.goes_changed rfl rfl
  · simp [bbrWriteCmd, bbrAddr, settings]
  · simp [bbrWriteCmd, bbrAddr, Nat.not_lt.2 host]
  · rintro _ _ _ k rfl rfl idle ascends stage rfl
    refine k.goes_wait ?_
    simp only [fwWriteCmd]
    rw [if_neg (by simp [idle, ascends]), if_neg (by simp [stage])]
    rfl
  · rintro _ _ _ k rfl rfl stage rfl
    exact k.goes_wait (if_neg (by simp [stage]))
  · rintro _ k rfl stage verified
    refine k.goes_ok ?_ rfl
    simp only [fwActivateCmd]
    rw [if_neg (by simp [stage]), if_neg (by simp [verified])]
    rfl
  · rintro _ k rfl stage unverified
    refine k.goes_refused ?_ (by decide) (by decide)
    simp only [fwActivateCmd]
    rw [if_neg (by simp [stage]), if_pos (by simp [unverified])]
  · rintro _ k free rfl
    exact k.goes_wait (if_neg (by simp [free]))

end Sys2Proof.Machine

/-!
PROOF. The envelope path: keys, data writes, seal update, timeouts and locking (R252 to R256, R434).
-/
namespace Sys2Proof.Machine

/-- A row's state under another name. -/
theorem goes_of_eq {i : Instr} {s t u : State} (row : Goes i s t) (same : t = u) : Goes i s u := same ▸ row

/-! Keys and data writes of the envelope path, by the level of ENV_WE (R254 to R256). -/

/-- The first key with the ball high is the one that is awaited, or a key fault. -/
theorem State.envKey_first {s : State} (free : s.lockedOut = false) (first : s.env.firstKey = none) {v : Word} (key : fld v 15 0 ≠ 0) :
    s.envKey v true =
      let u : State := { s with env := { s.env with we := true } }
      if fld v 15 0 = 0x5A17 then { u with env := { u.env with firstKey := some s.now } } else u.keyFault 1 := by
  have late : ({ s with env := { s.env with we := true } } : State).keyLate = false := by simp [State.keyLate, first]
  have free' : ({ s with env := { s.env with we := true } } : State).lockedOut = false := free
  unfold State.envKey
  simp only [if_true, late, free', key, Bool.not_true, Bool.false_eq_true, if_false]
  rw [first]
  rfl

/-- The second key with the ball high, in time, unlocks the path. -/
theorem State.envKey_second {s : State} {t : Nat} (free : s.lockedOut = false) (first : s.env.firstKey = some t) (inTime : s.now ≤ t + 1000000)
    {v : Word} (key : fld v 15 0 = 0xC3E9) : s.envKey v true =
      { s with env := { s.env with we := true, firstKey := none, unlocked := true, lastWrite := s.now
                                   written := if s.env.unlocked then s.env.written else 0 } } := by
  have late : ({ s with env := { s.env with we := true } } : State).keyLate = false := by
    simp only [State.keyLate, first]
    exact decide_eq_false (Nat.not_lt.2 inTime)
  have free' : ({ s with env := { s.env with we := true } } : State).lockedOut = false := free
  unfold State.envKey
  simp only [if_true, late, free', key, Bool.not_true, Bool.false_eq_true, if_false]
  rw [first]
  rfl

/-- Any key written with the ball low is a key fault. -/
theorem State.envKey_low {s : State} (free : s.lockedOut = false) (low : s.env.we = false) {v : Word} (key : fld v 15 0 ≠ 0) :
    s.envKey v false = s.keyFault 3 := by
  have still : s.weFall = s := by simp [State.weFall, low]
  unfold State.envKey
  simp only [Bool.false_eq_true, if_false, still]
  cases late : s.keyLate with
  | false => simp [free, key]
  | true =>
    have free' : ({ s with env := { s.env with firstKey := none } } : State).lockedOut = false := free
    simp only [if_true, free', key, Bool.false_eq_true, if_false, Bool.not_false]
    rfl

theorem State.envLock_of_written {s : State} (unlocked : s.env.unlocked = true) (written : 0 < s.env.written) : s.envLock =
    ({ s with env := { s.env with firstKey := none, unlocked := false, written := 0 } } : State).raise 82 s.env.written (s.bbr.word 0x3F5).toNat := by
  simp [State.envLock, unlocked, written]

theorem State.envLock_of_unwritten {s : State} (quiet : s.env.unlocked = false ∨ s.env.written = 0) : s.envLock =
    { s with env := { s.env with firstKey := none, unlocked := false, written := 0 } } := by
  obtain locked | none := quiet
  · simp [State.envLock, locked]
  · simp [State.envLock, none]

/-- The end of a seal update that no held write follows. -/
theorem State.envSealed_of_last {s : State} (busy : s.env.busy = true) (held : s.env.held = []) {b : Bbr}
    (sealed : b = (({ s.bbr with running := none } : Bbr).reseal 1).setOk 1 true) :
    s.envSealed = { s with bbr := b, env := { s.env with
      busy := false
      nextWords := if s.env.busyWord % 2 = 0 then s.env.nextWords else Tbl.put (Tbl.put s.env.nextWords (s.env.busyWord - 1)
        (b.word (0xFF + s.env.busyWord))) s.env.busyWord (b.word (0x100 + s.env.busyWord)) } } := by
  subst sealed
  simp only [State.envSealed, busy, held, Bool.not_true, Bool.false_eq_true, if_false]
  rfl

/-- A check of the envelope's seal (R434). -/
theorem State.checkSeal_envelope (s : State) : s.checkSeal 1 false =
    let t : State := { s with bbr := { s.bbr with ok1 := s.bbr.sealOk 1 } }
    if !s.bbr.sealOk 1 && s.bbr.ok1 then t.raise 81 0 (s.bbr.word 0x3F5).toNat else t := by
  simp [State.checkSeal, Bbr.ok, Bbr.setOk]

/-- Settles O27: the keys by `envKey_first`, `envKey_second` and `envKey_low`, the locks by `envLock`, the rest by the branch of the row. -/
theorem envelopePathEvents : Obligations.EnvelopePathEvents := by
  unfold Obligations.EnvelopePathEvents
  rintro s _ v isOpen free rfl
  have keyRow (we : Bool) : Goes (.envKeyWrite v we) s (s.envKey v we) := congrArg Host.Outcome.next (if_pos isOpen)
  have dataRow : Goes (.envDataWrite v true) s (s.envData v true) := congrArg Host.Outcome.next (if_pos isOpen)
  have sealRow : Goes .sealCheck s (s.checkSeal 1 false) := congrArg Host.Outcome.next (if_pos isOpen)
  rw [State.checkSeal_envelope] at sealRow
  refine ⟨fun first key => ?_, ?_, fun first key some => ?_, fun low key => goes_of_eq (keyRow false) (State.envKey_low free low key), ?_,
    fun first locked => ?_, ?_, fun t first => ?_, fun t lockout => ?_, ?_, ?_, fun ok => ?_, fun bad was => ?_, fun bad was => ?_⟩
  · exact goes_of_eq (keyRow true) ((State.envKey_first free first (by omega)).trans (if_pos key))
  · rintro t _ first inTime key rfl
    exact goes_of_eq (keyRow true) (State.envKey_second free first inTime key)
  · exact goes_of_eq (keyRow true) ((State.envKey_first free first some).trans (if_neg key))
  · rintro _ _ first unlocked idle rfl rfl
    refine goes_of_eq dataRow ?_
    simp [State.envData, first, unlocked, State.envStore, idle, State.envBegin]
    rfl
  · refine goes_of_eq dataRow ?_
    simp [State.envData, first, locked]
    rfl
  · rintro _ _ _ busy held sealed rfl rfl
    exact congrArg Host.Outcome.next (State.envSealed_of_last busy held sealed)
  · show execEnvKeyTimeout s = _
    simp [execEnvKeyTimeout, first]
  · show execEnvLockoutEnd s = _
    simp [execEnvLockoutEnd, lockout]
  · rintro _ _ unlocked rfl rfl
    have row : Goes .envPathTimeout s (s.to (10000000000 + s.env.lastWrite)).envLock := if_neg (by simp [unlocked])
    exact ⟨fun none => goes_of_eq row (State.envLock_of_unwritten (.inr none)), fun some => goes_of_eq row (State.envLock_of_written unlocked some)⟩
  · rintro _ high rfl
    have row : Goes .envWeFall s ({ s with env := { s.env with we := false } } : State).envLock := congrArg Host.Outcome.next (if_pos high)
    exact ⟨fun quiet => goes_of_eq row (State.envLock_of_unwritten quiet), fun unlocked some => goes_of_eq row (State.envLock_of_written unlocked some)⟩
  · simpa [ok] using sealRow
  · simpa [bad, was] using sealRow
  · refine goes_of_eq sealRow ?_
    rw [if_neg (by simp [bad, was]), bad, ← was]

end Sys2Proof.Machine

/-!
PROOF. Serial accesses to the images (R347, R348, R351).
-/
namespace Sys2Proof.Machine

/-! A serial access that is served (R347, R348, R351). -/

theorem goes_qspiWrite {s : State} {ins : Byte} (serial : s.straps.hsel = true) (isOpen : s.portOpen = true)
    (form : ins = 0x02 ∨ ins = 0xA2 ∨ ins = 0x42) (we : Bool) (addr : BitVec 24) (bs : List Byte) :
    Goes (.qspiWrite ⟨ins, we⟩ addr bs) s ((s.seesWe we).qspiPut addr.toNat bs).serve := by
  refine if_neg ?_
  obtain rfl | rfl | rfl := form <;> simp [serial, isOpen]

theorem goes_qspiRead {s : State} {ins : Byte} (serial : s.straps.hsel = true) (isOpen : s.portOpen = true)
    (form : ins = 0x0B ∨ ins = 0xAB ∨ ins = 0x4B) (we : Bool) (addr : BitVec 24) (n : Nat) :
    Goes (.qspiRead ⟨ins, we⟩ addr n) s ((s.seesWe we).qspiGet addr.toNat n) := by
  have timed : s.md.mode.timed = true := by
    simp only [State.portOpen, Bool.and_eq_true] at isOpen
    exact isOpen.1
  refine if_neg ?_
  obtain rfl | rfl | rfl := form <;> simp [serial, timed]

/-- A write that no other waits before and the budget takes lands; otherwise its first part lands and the rest is held. -/
theorem State.qspiPut_first {s : State} (held : s.port.qspiHeld = []) (addr : Nat) (bs : List Byte) : s.qspiPut addr bs =
    match s.chargeHost (qspiCharged addr bs.length) with
    | some t => t.qspiLand addr bs
    | none => (s.qspiPart addr bs).qspiHold (qspiNext addr (s.hostPart addr bs.length)) (bs.drop (s.hostPart addr bs.length)) := by
  rw [State.qspiPut, held]
  rfl

/-- The first write that is held, and none of its bytes is discarded. -/
theorem State.qspiHold_first {s : State} (held : s.port.qspiHeld = []) {bs : List Byte} (short : bs.length ≤ 512) (addr : Nat) :
    s.qspiHold addr bs = { s with port := { s.port with qspiHeld := [(addr, bs)] } } := by
  simp [State.qspiHold, held, PortData.qspiBytes, List.take_of_length_le short, Nat.not_lt.2 short]

/-- Another instruction byte than the three is no access. -/
theorem otherForm {off closed : Bool} {j a b c : Byte} (x : j ≠ a) (y : j ≠ b) (z : j ≠ c) :
    (off || closed || !(j == a || j == b || j == c)) = true := by
  simp [x, y, z]

/-- Settles O30: the row serves the access, and the budget of A6 decides between its two cases. -/
theorem serialAccesses : Obligations.SerialAccesses := by
  unfold Obligations.SerialAccesses
  rintro s _ ins addr bs n we isOpen form rfl
  refine ⟨fun pcie => ⟨if_pos (by simp [pcie]), fun j => if_pos (by simp [pcie])⟩, fun j a b c => if_pos (otherForm a b c),
    fun j a b c => if_pos (otherForm a b c), fun t serial held charged => ?_, ?_, fun j t serial form' image charged => ?_,
    fun j serial form' spent => ⟨_, goes_qspiRead serial isOpen form' we addr n, ?_⟩⟩
  · refine goes_of_eq (goes_qspiWrite serial isOpen form we addr bs) ?_
    rw [State.qspiPut_first (by simpa using held), charged]
  · rintro k serial held spent rfl
    have row := goes_qspiWrite serial isOpen form we addr bs
    rw [State.qspiPut_first (by simpa using held), spent] at row
    refine ⟨fun some => goes_of_eq row ?_, fun none short => ⟨_, row, ?_⟩⟩
    · rw [State.qspiPart, if_neg (by omega)]
    · have part : (s.seesWe we).qspiPart addr.toNat bs = (s.seesWe we).countDefer 6 := if_pos none
      have held' : ((s.seesWe we).countDefer 6).port.qspiHeld = [] := by simpa [State.countDefer] using held
      rw [none, List.drop_zero, part, State.qspiHold_first held' short]
      exact ⟨by simp [State.countDefer], by simp [State.countDefer]⟩
  · refine goes_of_eq (goes_qspiRead serial isOpen form' we addr n) ?_
    rw [State.qspiGet, charged]
    simp only [image, if_true]
  · rw [State.qspiGet, spent]
    simp

end Sys2Proof.Machine

/-!
PROOF. The host link, MSI-X messages and the report of lost events (R346, R359, R360, R413).
-/
namespace Sys2Proof.Machine

/-! The host link (R413): event 11 tells of a change of its state. -/

theorem State.hostLinkTo_of_change {s : State} {gen : Nat} {x2 : Bool} (done : s.md.bootDone = true)
    (change : ¬ (s.host.gen = gen ∧ s.host.x2 = (x2 && decide (gen ≠ 0)))) : s.hostLinkTo gen x2 =
      ({ s with host := { s.host with gen := gen, x2 := x2 && decide (gen ≠ 0) } } : State).raise 11 (gen + bitAt 2 (x2 && decide (gen ≠ 0))) 0 := by
  unfold State.hostLinkTo
  dsimp only
  rw [if_neg (by simpa using change), if_pos (by exact done)]

theorem State.hostLinkTo_of_same {s : State} {gen : Nat} {x2 : Bool} (same : s.host.gen = gen) (width : s.host.x2 = (x2 && decide (gen ≠ 0))) :
    s.hostLinkTo gen x2 = s := if_pos (by simp [same, width])

/-- Settles O31: the link's rows through `hostLinkTo`, a message by the branch of its row, the lost event through `flushLost`. -/
theorem hostLinkEvents : Obligations.HostLinkEvents := by
  unfold Obligations.HostLinkEvents
  intro s pcie timed done
  refine ⟨?_, rfl, fun g x2 perst up change => ?_, fun g x2 up gen width => ?_, ?_, fun none => ?_, ?_⟩
  · rintro _ _ up rfl rfl
    have down : s.hostLinkTo 0 false = ({ s with host := { s.host with gen := 0, x2 := false } } : State).raise 11 0 0 :=
      State.hostLinkTo_of_change done (fun same => up same.1)
    show execPerstAssert s = _
    simp only [execPerstAssert, pcie, timed, Bool.not_true, Bool.or_self, Bool.false_eq_true, if_false, down]
  · have changed := State.hostLinkTo_of_change (gen := g.toNat) (x2 := x2) done (by simpa [up] using change)
    refine (if_neg (by simp [pcie, timed, perst])).trans ?_
    rw [changed]
    simp [up]
  · have same := State.hostLinkTo_of_same (x2 := x2) gen (by simpa [up] using width)
    show execHostLink g x2 s = _
    rw [execHostLink, same, ite_self]
  · rintro v _ up marked open_ seen rfl
    have sees : (({ s.irq with msixEnabled := true } : Irq).seen v.val).isEmpty = false := List.isEmpty_eq_false_iff.2 seen
    have unmasked : ({ s.irq with msixEnabled := true } : Irq).vecMasked v.val = false := open_
    show execMsixPendingSend v true s = _
    unfold execMsixPendingSend
    dsimp only
    rw [if_neg (by simp [pcie, timed, up]), if_neg (by simp [marked, unmasked]), if_neg (ne_true_of_eq_false sees)]
  · exact goes_eventLost_iff.2 (State.flushLost_of_none none)
  · rintro _ lost space rfl
    exact goes_eventLost_iff.2 (State.flushLost_of_space lost space)

end Sys2Proof.Machine

/-!
PROOF. A CAN port put in place, and its queues (R321 to R327, R331).
-/
namespace Sys2Proof.Machine

/-! A CAN port put in place: what is read of it, and of what stands beside it. -/

@[simp] theorem State.canPort_setCan_same (s : State) (n : Nat) (p : CanPort) : (s.setCan n p).canPort n = p := by simp

@[simp] theorem State.canTt_setCan (s : State) (n k : Nat) (p : CanPort) : (s.setCan n p).canTt k = s.canTt k := by
  by_cases port : n = 0 <;> simp [State.setCan, State.canTt, port]

@[simp] theorem State.setCan_setCan (s : State) (n : Nat) (p q : CanPort) : (s.setCan n p).setCan n q = s.setCan n q := by
  by_cases port : n = 0 <;> simp [State.setCan, port]

@[simp] theorem State.setCan_canPort (s : State) (n : Nat) : s.setCan n (s.canPort n) = s := by
  by_cases port : n = 0 <;> simp [State.setCan, State.canPort, port]

/-- A port whose words stay keeps its configuration. -/
theorem State.canCfg_setCan {s : State} {n : Nat} {p : CanPort} (words : p.cfg = (s.canPort n).cfg) : (s.setCan n p).canCfg n = s.canCfg n := by
  simp [State.canCfg, words]

@[simp] theorem State.canPort_to (s : State) (t n : Nat) : (s.to t).canPort n = s.canPort n := rfl
@[simp] theorem State.canPort_by (s : State) (t n : Nat) : (s.by t).canPort n = s.canPort n := rfl
@[simp] theorem State.canTt_to (s : State) (t n : Nat) : (s.to t).canTt n = s.canTt n := rfl
@[simp] theorem State.canTt_by (s : State) (t n : Nat) : (s.by t).canTt n = s.canTt n := rfl
@[simp] theorem State.canCfg_to (s : State) (t n : Nat) : (s.to t).canCfg n = s.canCfg n := rfl
@[simp] theorem State.canCfg_by (s : State) (t n : Nat) : (s.by t).canCfg n = s.canCfg n := rfl
@[simp] theorem State.canPort_raise (s : State) (e a b n : Nat) : (s.raise e a b).canPort n = s.canPort n := by simp [State.canPort]

theorem State.isSafeFrame_setCan (s : State) (n k : Nat) (p : CanPort) (f : CanFrame) : (s.setCan n p).isSafeFrame k f = s.isSafeFrame k f := by
  by_cases port : n = 0 <;> simp [State.isSafeFrame, State.setCan, port]

/-- Without a malformed entry of its own a port is as its sweep leaves it (R323). -/
theorem CanPort.sweep_of_none {p : CanPort} (none : p.owned.filter p.malformed = []) : p.sweep = p := by simp [CanPort.sweep, none]

/-! What the port's state and the window watch leave alone (R328, R336). -/

theorem State.canErrState_of_same {s : State} {n : Nat}
    (same : (decide (127 < (s.canPort n).tec) || decide (127 < (s.canPort n).rec_)) = (s.canPort n).passive) : s.canErrState n = s :=
  if_pos (by simp [← same])

/-- A window is watched by the master of a time-triggered port alone. -/
theorem State.watchStart_of_other {s : State} {n : Nat} (other : (s.canCfg n).tt = false ∨ (s.canPort n).master = false) (ext : Bool) (id t : Nat) :
    s.watchStart n ext id t = s := by
  refine if_pos ?_
  obtain plain | slave := other
  · simp [plain]
  · simp [slave]

theorem State.startEntry_of_other {s : State} {n : Nat} (other : (s.canCfg n).tt = false ∨ (s.canPort n).master = false) (i : Nat)
    (w : Option Nat) : s.startEntry n i w = s.setCan n { s.canPort n with onBus := some (.entry i w) } := by
  refine State.watchStart_of_other ?_ ..
  rwa [State.canCfg_setCan (by rfl), State.canPort_setCan_same]

/-! The host's registers of a port (R326, R327). -/

theorem State.regWrite_rxTail {s : State} (full : s.fullPort = true) (keys : s.env.firstKey = none) (n : Fin 2) (v : Word) :
    s.regWrite (0x40C + 0x40 * n.val) v = s.setCan n.val ((s.canPort n.val).returnTo (fld v 5 0) 64) := by
  have isOpen : s.portOpen = true := by
    simp only [State.fullPort, Bool.and_eq_true] at full
    exact full.1
  unfold State.regWrite
  rw [State.bar0Write_of_none keys]
  match n with
  | 0 => simp [isOpen, full]
  | 1 => simp [isOpen, full]

theorem State.readWord0_rxWindow {s : State} (full : s.fullPort = true) (n : Fin 2) :
    s.readWord0 (0x410 + 0x40 * n.val) = (s.setCan n.val (s.canPort n.val).readWindow.1, (s.canPort n.val).readWindow.2) := by
  have isOpen : s.portOpen = true := by
    simp only [State.fullPort, Bool.and_eq_true] at full
    exact full.1
  unfold State.readWord0
  match n with
  | 0 => simp [isOpen, full]
  | 1 => simp [isOpen, full]

/-- A tail write of the next index returns the entry at the tail, and no more. -/
theorem CanPort.returnTo_next {p : CanPort} (owned : p.rxOwned p.rxTail = true) (free : p.lock = none) (low : p.rxTail < 64) (k : Nat) :
    p.returnTo ((p.rxTail + 1) % 64) (k + 2) = p.returnOne := by
  have next : p.rxTail ≠ (p.rxTail + 1) % 64 := by omega
  rw [CanPort.returnTo, if_neg (by simp [next, owned, free]), CanPort.returnTo, if_pos (by simp [CanPort.returnOne])]

theorem CanPort.returnTo_of_empty {p : CanPort} (none : p.rxOwned p.rxTail = false) (tail k : Nat) : p.returnTo tail (k + 1) = p :=
  if_pos (by simp [none])

/-- Settles O32: the host's rows through the registers, the port's rows by their branch, with what the window watch and the error state leave. -/
theorem canQueueEvents : Obligations.CanQueueEvents := by
  unfold Obligations.CanQueueEvents
  rintro s n _ rfl full keys
  refine ⟨?_, fun v none => ?_, ?_, fun free none => ⟨_, rfl, ?_, ?_⟩, ?_, ?_, fun i ready sound plain best => ?_, fun busy => if_pos (by simp [busy]), ?_, ?_⟩
  · rintro v _ owned free next low rfl
    refine congrArg Host.Outcome.next ((State.regWrite_rxTail full keys n v).trans ?_)
    rw [next, CanPort.returnTo_next owned free low]
    rfl
  · refine congrArg Host.Outcome.next ((State.regWrite_rxTail full keys n v).trans ?_)
    rw [CanPort.returnTo_of_empty none]
  · rintro _ _ free owned rfl rfl
    show execRxwRead n s = _
    rw [execRxwRead, State.readWord0_rxWindow full]
    simp [CanPort.readWindow, free, owned]
  · rw [State.readWord0_rxWindow full]
    simp [CanPort.readWindow, free, none]
    decide
  · rw [State.readWord0_rxWindow full]
    simp only [CanPort.readWindow, free, none, Bool.false_eq_true, if_false, State.setCan_canPort]
    rfl
  · rintro i w0 w1 w2 w3 data _ _ off own other rfl rfl pcie qspi fits
    refine congrArg Host.Outcome.next ?_
    rw [if_neg (by simp [full]), if_pos (by simp [pcie, qspi, fits]), if_neg (by simp [off])]
    simp [own, other]
  · rintro i w0 w1 w2 w3 data _ rfl waits
    refine congrArg Host.Outcome.next ?_
    rw [if_neg (by simp [full]), if_neg ?_]
    obtain pcie | qspi | spent := waits
    · simp [pcie]
    · simp [qspi]
    · simp [spent]
  · have unbound : (s.canPort n.val).owned.filter (fun k => !(s.canPort n.val).bound (s.canCfg n.val) k) = (s.canPort n.val).owned := by
      simp [CanPort.bound, plain]
    show execCanTxOffer n s = _
    unfold execCanTxOffer
    dsimp only
    rw [if_neg (by simp [ready]), CanPort.sweep_of_none sound, unbound, best, State.setCan_canPort]
    dsimp only
    rw [if_pos (by simp [plain]), State.startEntry_of_other (.inl plain)]
  · rintro i t w _ _ _ bus rfl rfl rfl on same
    show execCanTxDone n t s = _
    unfold execCanTxDone
    dsimp only
    rw [State.canPort_by, bus]
    exact congrArg Host.Outcome.next (State.canErrState_of_same (by rw [State.canPort_setCan_same]; exact same))
  · rintro f t k _ _ listens slave plain rfl rfl
    have received : execCanFrameReceived n f t s = match (s.canPort n.val).filter f with
        | some (k, 1) => .next { (s.by t).setCan n.val (({ s.canPort n.val with onBus := none } : CanPort).store f k t s.free) with free := s.free + 1 }
        | _ => .next ((s.by t).setCan n.val { s.canPort n.val with onBus := none
                                                                   cnt := { (s.canPort n.val).cnt with noMatch := cadd (s.canPort n.val).cnt.noMatch 1 } }) := by
      unfold execCanFrameReceived State.losesBus
      rw [State.canPort_by]
      dsimp only
      rw [if_neg (by simp [listens]), if_neg (by rw [State.isSafeFrame_setCan]; exact ne_true_of_eq_false plain),
        State.watchStart_of_other (.inr (by rw [State.canPort_setCan_same]; exact slave)), State.canPort_setCan_same]
      simp only [State.setCan_setCan, State.setCan_free]
      rfl
    refine ⟨fun taken => ?_, fun unmatched => ?_⟩
    · exact received.trans (by rw [taken]; rfl)
    · exact received.trans (by rw [unmatched])

end Sys2Proof.Machine

/-!
PROOF. The error counters of a CAN port (R328 to R330).
-/
namespace Sys2Proof.Machine

/-! The error counters of a port that offers nothing (R328 to R330). -/

theorem CanPort.offBus_self {p : CanPort} (off : p.onBus = none) : { p with onBus := none } = p := by rw [← off]

/-- A failed frame of a port that has none on the bus changes nothing. -/
theorem State.canTxFailed_of_off {s : State} {n : Nat} {p : CanPort} (off : p.onBus = none) : (s.setCan n p).canTxFailed n = s.setCan n p := by
  unfold State.canTxFailed
  rw [State.canPort_setCan_same]
  dsimp only
  rw [off]
  dsimp only
  rw [State.setCan_setCan, CanPort.offBus_self off]

theorem State.canBusOff_of_low {s : State} {n : Nat} (low : (s.canPort n).tec ≤ 255) (entry : Option Nat) : s.canBusOff n entry = s.canErrState n :=
  if_pos (by simp [low])

/-- A port put in place with counters that agree with its error state stays as it is. -/
theorem State.canErrState_setCan {s : State} {n : Nat} {p : CanPort} (same : (decide (127 < p.tec) || decide (127 < p.rec_)) = p.passive) :
    (s.setCan n p).canErrState n = s.setCan n p := State.canErrState_of_same (by rwa [State.canPort_setCan_same])

/-- A port whose counters ask for another error state enters it, with the cause of the change; its counters stay. -/
theorem State.canErrState_port {s : State} {n : Nat} {p : CanPort} (on : p.busOff = false) {passive : Bool}
    (asks : (decide (127 < p.tec) || decide (127 < p.rec_)) = passive) (change : p.passive ≠ passive) :
    ((s.setCan n p).canErrState n).canPort n = { p with passive := passive, cause := if passive then 1 else 2 } := by
  subst asks
  unfold State.canErrState
  rw [State.canPort_setCan_same]
  dsimp only
  rw [if_neg (by simp [on, Ne.symm change])]
  simp [State.canState]

/-- In every error state the receive counter is the port's. -/
theorem State.canErrState_rec (s : State) (n : Nat) : ((s.canErrState n).canPort n).rec_ = (s.canPort n).rec_ := by
  unfold State.canErrState
  dsimp only
  split
  · rfl
  · simp [State.canState]

/-! The rows of a listening port that is not bus-off. -/

theorem execCanError_transmit {s : State} {n : Fin 2} (listens : (s.canPort n.val).listening = true) (on : (s.canPort n.val).busOff = false)
    (off : (s.canPort n.val).onBus = none) : execCanError n .transmit s =
      .next ((s.setCan n.val { s.canPort n.val with tec := (s.canPort n.val).tec + 8, ackRun := 0 }).canBusOff n.val (s.canPort n.val).txEntry) := by
  unfold execCanError
  dsimp only
  rw [if_neg (by simp [on, listens]), State.canTxFailed_of_off (by exact off)]

theorem execCanError_ack {s : State} {n : Fin 2} (listens : (s.canPort n.val).listening = true) (on : (s.canPort n.val).busOff = false)
    (off : (s.canPort n.val).onBus = none) (passive : (s.canPort n.val).passive = true) (few : (s.canPort n.val).ackRun ≠ 15) :
    execCanError n .ack s =
      .next ((s.setCan n.val { s.canPort n.val with ackRun := (s.canPort n.val).ackRun + 1 }).canBusOff n.val (s.canPort n.val).txEntry) := by
  unfold execCanError
  dsimp only
  rw [if_neg (by simp [on, listens]), if_neg (by simp [few]), State.canTxFailed_of_off (by exact off), if_pos passive]

theorem execCanError_receive {s : State} {n : Fin 2} (listens : (s.canPort n.val).listening = true) (on : (s.canPort n.val).busOff = false) :
    execCanError n .receive s = .next ((s.setCan n.val { s.canPort n.val with rec_ := min 255 ((s.canPort n.val).rec_ + 1) }).canErrState n.val) ∧
    execCanError n .receive8 s = .next ((s.setCan n.val { s.canPort n.val with rec_ := min 255 ((s.canPort n.val).rec_ + 8) }).canErrState n.val) :=
  ⟨if_neg (by simp [on, listens]), if_neg (by simp [on, listens])⟩

theorem execCanError_okReceive {s : State} {n : Fin 2} (listens : (s.canPort n.val).listening = true) (on : (s.canPort n.val).busOff = false) :
    execCanError n .okReceive s = if 127 < (s.canPort n.val).rec_ then
      .next (({ (s.setCan n.val { s.canPort n.val with rec_ := 119 + Config.fresh s.free % 9 }) with free := s.free + 1 } : State).canErrState n.val)
    else .next ((s.setCan n.val { s.canPort n.val with rec_ := (s.canPort n.val).rec_ - 1 }).canErrState n.val) :=
  if_neg (by simp [on, listens])

/-- Settles O33: each error by its row; the error state changes where a counter passes 127, and bus-off comes above 255. -/
theorem canErrorEvents : Obligations.CanErrorEvents := by
  unfold Obligations.CanErrorEvents
  rintro s n _ rfl listens
  refine ⟨fun on off tec rec passive => ?_, fun on off above below passive => ⟨_, execCanError_transmit listens on off, ?_⟩,
    fun on off above => ⟨_, execCanError_transmit listens on off, ?_⟩, fun on off passive above below few => ?_, fun on tec rec passive => ?_,
    fun on tec rec passive => ?_, fun on tec rec passive => ?_, fun on above => ?_, fun off recovers => ?_, fun off e => if_pos (by simp [off])⟩
  · refine goes_of_eq (execCanError_transmit listens on off) ?_
    rw [State.canBusOff_of_low (by rw [State.canPort_setCan_same]; dsimp only; omega), State.canErrState_setCan]
    simp only [passive, Bool.or_eq_false_iff, decide_eq_false_iff_not]
    omega
  · rw [State.canBusOff_of_low (by rw [State.canPort_setCan_same]; dsimp only; omega),
      State.canErrState_port (passive := true) (by exact on) (by simp only [Bool.or_eq_true, decide_eq_true_eq]; omega) (by simp [passive])]
    exact ⟨rfl, rfl, rfl⟩
  · unfold State.canBusOff
    rw [State.canPort_setCan_same]
    dsimp only
    rw [if_neg (by simp [on]; omega)]
    simp
  · refine goes_of_eq (execCanError_ack listens on off passive few) ?_
    rw [State.canBusOff_of_low (by rw [State.canPort_setCan_same]; exact below), State.canErrState_setCan]
    simp [passive, above]
  · refine goes_of_eq (execCanError_receive listens on).1 ?_
    rw [Nat.min_eq_right (by omega), State.canErrState_setCan]
    simp only [passive, Bool.or_eq_false_iff, decide_eq_false_iff_not]
    omega
  · refine goes_of_eq (execCanError_receive listens on).2 ?_
    rw [Nat.min_eq_right (by omega), State.canErrState_setCan]
    simp only [passive, Bool.or_eq_false_iff, decide_eq_false_iff_not]
    omega
  · refine goes_of_eq ((execCanError_okReceive listens on).trans (if_neg (Nat.not_lt.2 rec))) ?_
    rw [State.canErrState_setCan]
    simp only [passive, Bool.or_eq_false_iff, decide_eq_false_iff_not]
    omega
  · refine ⟨_, (execCanError_okReceive listens on).trans (if_pos above), ?_⟩
    rw [State.canErrState_rec]
    change 119 ≤ ((s.setCan n.val _).canPort n.val).rec_ ∧ ((s.setCan n.val _).canPort n.val).rec_ ≤ 127
    rw [State.canPort_setCan_same]
    dsimp only
    omega
  · exact if_neg (by simp [off, recovers])

end Sys2Proof.Machine

/-!
PROOF. Time-triggered operation of a CAN port (R332, R334, R335, R337, R338).
-/
namespace Sys2Proof.Machine

/-- The number of the cycle that begins at or after an instant. -/
theorem ceilDiv_eq {now len k : Nat} (after : (k - 1) * len < now) (some : 0 < k) (upto : now ≤ k * len) : (now + len - 1) / max len 1 = k := by
  have positive : 0 < len := Nat.pos_of_ne_zero fun zero => by subst zero; omega
  rw [Nat.max_eq_left positive]
  obtain ⟨j, rfl⟩ : ∃ j, k = j + 1 := ⟨k - 1, by omega⟩
  have next : (j + 1) * len = j * len + len := Nat.succ_mul j len
  rw [Nat.add_sub_cancel] at after
  refine Nat.div_eq_of_lt_le (by omega) ?_
  rw [Nat.succ_mul]
  omega

@[simp] theorem State.canTt_setTt_same (s : State) (n : Nat) (t : CanTt) : (s.setTt n t).canTt n = t := by simp

theorem State.to_setCan_canPort (s : State) (t n : Nat) : (s.to t).setCan n (s.canPort n) = s.to t := State.setCan_canPort (s.to t) n

/-! The rows of a time-triggered port (R332 to R338). -/

section
variable {s : State} {n : Fin 2} (tt : (s.canCfg n.val).tt = true)
include tt

theorem execTtBasicCycle_of_master {k : Nat} (active : (s.canPort n.val).active = true) (master : (s.canPort n.val).master = true)
    (off : (s.canPort n.val).onBus = none) (begun : (s.canTt n.val).begun = true) (base : (s.canTt n.val).base < k * (s.canCfg n.val).cycleNs)
    (after : (k - 1) * (s.canCfg n.val).cycleNs < s.now) (some : 0 < k) (upto : s.now ≤ k * (s.canCfg n.val).cycleNs) {v : CanTt}
    (next : v = { s.canTt n.val with mark := k * (s.canCfg n.val).cycleNs, base := k * (s.canCfg n.val).cycleNs, late := false
                                     count := ((s.canTt n.val).count + 1) % (s.canCfg n.val).matrix }) :
    execTtBasicCycle n s = .next (((s.to (k * (s.canCfg n.val).cycleNs)).setTt n.val v).setCan n.val
      { s.canPort n.val with onBus := Option.some (.reference (refData v.count (k * (s.canCfg n.val).cycleNs))) }) := by
  subst next
  unfold execTtBasicCycle
  dsimp only
  rw [if_neg (by simp [tt, active, master]), ceilDiv_eq after some upto, if_pos (by simp [off]), if_neg (by simp [Nat.not_le.2 base]), if_pos begun,
    State.canTt_setTt_same, ← begun]

theorem execReferenceMessage_of_slave {f : RefMessage} {t : Nat} (listens : (s.canPort n.val).listening = true)
    (slave : (s.canPort n.val).master = false) (raised : (s.canTt n.val).lostRaised = false) (own : foreignRef (s.canCfg n.val) f = false) :
    execReferenceMessage n f t s = .next (((s.by t).setTt n.val
      { s.canTt n.val with mark := t, count := (f.data.headD 0).toNat % 64, begun := true, late := false, lostRaised := false, refAt := t
                           offset := ((beNat ((f.data.drop 2).take 2) : Nat) * 1000 : Int) - t }).setCan n.val
      { s.canPort n.val with refOk := true, master := false, onBus := none }) := by
  unfold execReferenceMessage
  dsimp only
  rw [if_neg (by simp [tt, listens]), if_neg (by simp [own]), if_neg (by simp [slave]), if_neg (by simp [raised]), if_neg (by simp [slave])]
  rfl

theorem execTtWindowStart_of_entry {w : Nat} (low : w < 64) (kind : winKind ((s.canPort n.val).winW w) = 1) (active : (s.canPort n.val).active = true)
    (on : (s.canPort n.val).busOff = false) (off : (s.canPort n.val).onBus = none) (begun : (s.canTt n.val).begun = true)
    (applies : winApplies ((s.canPort n.val).winW w) (s.canTt n.val).count = true)
    (sound : (s.canPort n.val).owned.filter (s.canPort n.val).malformed = [])
    (owned : winEntry ((s.canPort n.val).winW w) ∈ (s.canPort n.val).owned) :
    execTtWindowStart n w true s = .next ((s.to ((s.canTt n.val).mark + winOff ((s.canPort n.val).winW w) * 1000)).startEntry n.val
      (winEntry ((s.canPort n.val).winW w)) (some w)) := by
  have window : s.ttWindow n.val w = some ((s.canPort n.val).winW w) := by simp [State.ttWindow, low, kind]
  unfold execTtWindowStart
  rw [window]
  dsimp only
  rw [if_neg (by simp [tt, active, begun, applies]), State.canPort_to, if_neg (by simp [CanPort.ready, active, on, off]), if_neg (by omega),
    CanPort.sweep_of_none sound, if_pos kind, if_pos (by simpa using owned),
    State.to_setCan_canPort]

theorem execTtWindowMiss_of_entry {w : Nat} {v : CanTt} (low : w < 64) (kind : winKind ((s.canPort n.val).winW w) = 1)
    (runs : v = if (s.canPort n.val).busOff then
      (s.canTt n.val).runOn (s.canCfg n.val) (winOff ((s.canPort n.val).winW w) * 1000 + 16 * (s.canCfg n.val).nBit) s.now else s.canTt n.val)
    (alive : (s.canPort n.val).active = true ∨ (s.canPort n.val).busOff = true) (begun : v.begun = true)
    (applies : winApplies ((s.canPort n.val).winW w) v.count = true) (off : (s.canPort n.val).onBus = none)
    (owned : (s.canPort n.val).busOff = true ∨ winEntry ((s.canPort n.val).winW w) ∈ (s.canPort n.val).owned) :
    execTtWindowMiss n w s = .next ((s.to (v.mark + winOff ((s.canPort n.val).winW w) * 1000 + 16 * (s.canCfg n.val).nBit)).setCan n.val
      { s.canPort n.val with cnt := { (s.canPort n.val).cnt with winMiss := cadd (s.canPort n.val).cnt.winMiss 1 } }) := by
  have window : s.ttWindow n.val w = some ((s.canPort n.val).winW w) := by simp [State.ttWindow, low, kind]
  have lives : ((s.canPort n.val).active || (s.canPort n.val).busOff) = true := by simpa using alive
  unfold execTtWindowMiss
  rw [window]
  dsimp only
  rw [← runs, if_neg (by simp only [tt, lives, begun, kind, applies, off]; simp [low]), if_pos (by simpa using owned)]

theorem execReferenceTimeout_of_potential {b : Nat} (can : (s.canCfg n.val).canMaster = true) (active : (s.canPort n.val).active = true)
    (slave : (s.canPort n.val).master = false) (heads : s.md.mode.heads = true) (off : (s.canPort n.val).onBus = none)
    (begun : (s.canTt n.val).begun = true)
    (due : b = (s.canTt n.val).mark + (s.canCfg n.val).cycleNs + (16 + 16 * (s.canCfg n.val).prio) * (s.canCfg n.val).nBit) {v : CanTt}
    (next : v = { s.canTt n.val with mark := (s.to b).now, base := (s.canTt n.val).mark + (s.canCfg n.val).cycleNs, late := false
                                     count := ((s.canTt n.val).count + 1) % (s.canCfg n.val).matrix }) :
    execReferenceTimeout n s = .next ((((s.to b).setTt n.val v).setCan n.val
      { s.canPort n.val with master := true, onBus := some (.reference (refData v.count (s.to b).now)) }).canState n.val 3) := by
  subst next
  unfold execReferenceTimeout
  dsimp only
  rw [if_neg (by simp [tt, can, active, slave, heads]), if_pos begun, if_pos begun, if_pos (by simp [off]), State.canTt_setTt_same, ← due, ← begun]

end

/-- Settles O34: each row as above, the port and its time-triggered state put in place as the statement says. -/
theorem canTimeTriggeredEvents : Obligations.CanTimeTriggeredEvents := by
  unfold Obligations.CanTimeTriggeredEvents
  rintro s u n _ _ _ rfl rfl rfl tt
  refine ⟨?_, ?_, ?_, ?_, ?_, ?_, ?_, fun raised => if_pos (by simp [raised])⟩
  · rintro k v active master off begun base after some upto - rfl next
    exact execTtBasicCycle_of_master tt active master off begun base after some upto next
  · rintro f t _ listens slave raised own rfl rfl
    exact execReferenceMessage_of_slave tt listens slave raised own
  · rintro f t listens foreign rfl
    refine (if_neg (by simp [tt, listens])).trans ?_
    rw [if_pos (by exact foreign)]
  · rintro w _ low rfl kind active on off begun applies sound owned rfl
    exact ⟨execTtWindowStart_of_entry tt low kind active on off begun applies sound owned,
      fun slave => State.startEntry_of_other (s := s.to _) (.inr slave) _ _⟩
  · rintro w _ v low rfl kind runs alive begun applies off owned rfl
    exact execTtWindowMiss_of_entry tt low kind runs alive begun applies off owned
  · rintro b v can active slave heads off begun due rfl next
    exact execReferenceTimeout_of_potential tt can active slave heads off begun due next
  · rintro listens slave raised begun rfl
    refine (if_neg (by simp [tt, listens, slave, raised])).trans ?_
    rw [if_pos begun]

end Sys2Proof.Machine

/-!
PROOF. Returning copies: candidates, whole copies, the miss instant, and the service, census and delay copies (R17, R19, R102, R106, R118, R165).
-/
namespace Sys2Proof.Machine

/-! ## Returning copies -/

@[simp] theorem State.isHead_by (s : State) (t : Nat) : (s.by t).isHead = s.isHead := rfl

theorem State.discards_of_bad {i : CopyInfo} (bad : i.fcs ≠ .good) (s : State) (c : Nat) (b : Bool) (kind : Nat) :
    s.discards c b i kind = some (s.setCh c ((s.ch c).badFcs i.fcs)) :=
  if_pos bad

theorem State.discards_of_foreign {s : State} {c : Nat} {b : Bool} {i : CopyInfo} {kind : Nat} (good : i.fcs = .good)
    (foreign : (s.ch c).ownCopy b i kind = false) : s.discards c b i kind = some (s.setCh c (s.ch c).foreign) := by
  unfold State.discards
  rw [if_neg (by simp [good]), if_pos (by simp [foreign])]
  rfl

theorem State.discards_of_own {s : State} {c : Nat} {b : Bool} {i : CopyInfo} {kind : Nat} (good : i.fcs = .good)
    (own : (s.ch c).ownCopy b i kind = true) : s.discards c b i kind = none := by
  unfold State.discards
  rw [if_neg (by simp [good]), if_neg (by simp [own])]

section
variable {s : State} {c : Nat} {b : Bool} {i : CopyInfo}

theorem State.copyReturns_of_bad (bad : i.fcs ≠ .good) (idle : ((s.ch c).copy b).state ≠ .outstanding) :
    s.copyReturns c b i = s.setCh c ((s.ch c).badFcs i.fcs) := by
  unfold State.copyReturns
  dsimp only
  rw [if_pos bad, if_neg (by simp [idle])]
  rfl

theorem State.copyReturns_of_foreign (good : i.fcs = .good) (plain : s.swapNow = false) (foreign : (s.ch c).ownCopy b i 1 = false) :
    s.copyReturns c b i = s.setCh c (s.ch c).foreign := by
  unfold State.copyReturns
  dsimp only
  rw [if_neg (by simp [good]), if_pos (by simp [plain, foreign])]
  rfl

theorem State.copyReturns_of_own (good : i.fcs = .good) (plain : s.swapNow = false) (own : (s.ch c).ownCopy b i 1 = true)
    (count : i.count.toNat = ((s.ch c).sent 1).count) (format : i.fmt = ((s.ch c).sent 1).fmt) (out : (s.ch c).out = true)
    (waits : ((s.ch c).copy b).state = .outstanding) : s.copyReturns c b i = s.confirmCopy c b i := by
  unfold State.copyReturns
  dsimp only
  rw [if_neg (by simp [good]), if_neg (by simp [plain, own]), if_neg (by simp [count, format]), if_pos (by simp [out, waits])]

end

/-- The second copy of a spoke whose item is posted is only kept. -/
theorem State.candidate_of_posted {s : State} {c k : Nat} (fb : Feedback) (posted : ((s.ch c).sp k).posted = true) :
    s.candidate c true k fb = s.setCh c ((s.ch c).setSp k { (s.ch c).sp k with b := some fb, tb := s.now }) := by
  unfold State.candidate
  dsimp only
  rw [if_neg (by simp [posted]), if_neg (by simp)]
  rfl

section
variable {s u : State} {c : Fin 2} {b : Bool} {i : CopyInfo} {t : Nat}

theorem execCandidateSpoke_of_due {k : Fin 128} {fb : Feedback} (past : u = (s.by t).expireBefore) (merges : u.merges = true)
    (out : (u.ch c).out = true) (waits : ((u.ch c).copy b).state = .outstanding) (due : u.due u.bNext = true)
    (whole : fb.status.toNat.testBit 15 = true) (echo : (u.ch c).echoOk fb = true ∨ u.swapNow = true) (live : k.val ∈ u.live c)
    (fresh : ((u.ch c).sp k).on b = none) : execCandidateSpoke c b k fb t s = .next (u.candidate c b k fb) := by
  subst past
  exact congrArg Host.Outcome.next (if_pos (by
    simp only [merges, out, waits, due, whole, fresh, List.contains_eq_mem, live, Bool.or_eq_true, Bool.and_eq_true]; simpa using echo))

theorem execCandidateSpoke_of_idle {k : Fin 128} {fb : Feedback} (past : u = (s.by t).expireBefore)
    (idle : fb.status.toNat.testBit 15 = false ∨ u.merges = false ∨ (u.ch c).out = false) :
    execCandidateSpoke c b k fb t s = .next u := by
  subst past
  refine congrArg Host.Outcome.next (if_neg ?_)
  rcases idle with h | h | h <;> simp [h]

theorem execCopyConfirm_of_due (past : u = (s.by t).expireBefore) (merges : u.merges = true) (due : u.due u.bNext = true) :
    execCopyConfirm c b i t s = .next (u.copyReturns c b i) := by
  subst past
  exact congrArg Host.Outcome.next (if_pos (by simp [merges, due]))

theorem execMissInstant_of_due {l : List Nat} (merges : s.merges = true) (out : (s.ch c).out = true)
    (due : s.due (s.bNow + s.missOffset c) = true) (at_ : u = (s.to (s.bNow + s.missOffset c)).expireBefore)
    (missing : l = (u.spokesOf c).filter (fun k => ((u.ch c).sp k).a.isNone && ((u.ch c).sp k).b.isNone)) :
    execMissInstant c s = .next (l.foldl (fun v k => v.postHeld c k) u) := by
  subst missing at_
  exact congrArg Host.Outcome.next (if_pos (by simp [merges, out, due]))

theorem execMissInstant_of_idle (idle : s.merges = false ∨ (s.ch c).out = false ∨ s.due (s.bNow + s.missOffset c) = false) :
    execMissInstant c s = .next s := by
  refine congrArg Host.Outcome.next (if_neg ?_)
  rcases idle with h | h | h <;> simp [h]

variable (replies : List Reply) (safe : List Byte) (hops : Nat) (cs : List CensusRec) (ds : List DelayRec) (rd : Fin 16)

theorem execServiceCopyReturn_of_head (head : s.isHead = true) : execServiceCopyReturn c b i replies safe t s =
    .next (match (s.by t).discards c b i 2 with
      | some u => u
      | none => (((s.by t).takeReplies c replies).safeRegionIn c safe).serve) :=
  congrArg Host.Outcome.next (if_neg (by simp [head]))

theorem execDiscoveryCopyReturn_of_head (head : s.isHead = true) : execDiscoveryCopyReturn c b i hops cs t s =
    .next (match (s.by t).discards c b i 4 with
      | some u => u
      | none => (s.by t).censusBack c b i hops cs) :=
  congrArg Host.Outcome.next (if_neg (by simp [head]))

theorem execDelayCopyReturn_of_head (head : s.isHead = true) : execDelayCopyReturn c b i rd hops ds t s =
    .next (match (s.by t).discards c b i 5 with
      | some u => u
      | none => (s.by t).updCh c (fun x => if x.ring.round = rd.val then x.delayBack b i hops ds else x.foreign)) :=
  congrArg Host.Outcome.next (if_neg (by simp [head]))

end

/-- A delay copy of another round is foreign, whether it is the copy launched or not (R106). -/
theorem execDelayCopyReturn_of_otherRound {s : State} {c : Fin 2} {b : Bool} {i : CopyInfo} {t : Nat} {rd : Fin 16} (hops : Nat)
    (ds : List DelayRec) (head : s.isHead = true) (good : i.fcs = .good) (other : ((s.by t).ch c).ring.round ≠ rd.val) :
    execDelayCopyReturn c b i rd hops ds t s = .next ((s.by t).setCh c ((s.by t).ch c).foreign) := by
  rw [execDelayCopyReturn_of_head _ _ _ head]
  cases own : ((s.by t).ch c).ownCopy b i 5 with
  | false => rw [State.discards_of_foreign good own]
  | true =>
    rw [State.discards_of_own good own]
    exact congrArg (fun x => Host.Outcome.next ((s.by t).setCh c x)) (if_neg other)

/-- A census copy in a mode that does not head is only kept (R118). -/
theorem State.censusBack_of_startup {s : State} {c : Nat} {b : Bool} {i : CopyInfo} {hops : Nat} (cs : List CensusRec) (few : hops ≤ 64)
    (startup : s.md.mode.heads = false) : s.censusBack c b i hops cs = s.setCh c { s.ch c with ring := (s.ch c).ring.take b i hops cs } := by
  unfold State.censusBack
  dsimp only
  rw [if_neg (Nat.not_lt.mpr few), if_neg (by simp [State.updCh, startup])]
  rfl

/-- Settles O36: the rows above, one case of the row's conditions to each clause. -/
theorem returningCopyEvents : Obligations.ReturningCopyEvents := by
  unfold Obligations.ReturningCopyEvents
  intro s u c b i t
  refine ⟨?_, ?_, ?_, ?_, ?_, ?_, execMissInstant_of_idle, ?_, ?_, ?_, fun idle => congrArg Host.Outcome.next (if_neg (by simp [idle]))⟩
  · intro k fb past merges out waits due whole echo live fresh
    exact execCandidateSpoke_of_due past merges out waits due whole echo live fresh
  · intro k fb past merges out waits due whole echo live fresh posted
    exact goes_of_eq (execCandidateSpoke_of_due past merges out waits due whole (.inl echo) live fresh) (State.candidate_of_posted fb posted)
  · intro k fb past idle
    exact execCandidateSpoke_of_idle past idle
  · intro past merges due
    exact execCopyConfirm_of_due past merges due
  · intro past merges due
    have row : Goes (.copyConfirm c b i t) s (u.copyReturns c b i) := execCopyConfirm_of_due past merges due
    exact ⟨fun bad idle => goes_of_eq row (State.copyReturns_of_bad bad idle),
      fun good plain foreign => goes_of_eq row (State.copyReturns_of_foreign good plain foreign),
      fun good plain own count format out waits => goes_of_eq row (State.copyReturns_of_own good plain own count format out waits)⟩
  · intro l merges out due at_ missing
    have row : Goes (.missInstant c) s (l.foldl (fun v k => v.postHeld c k) u) := execMissInstant_of_due merges out due at_ missing
    exact ⟨row, fun none => goes_of_eq row (by rw [none]; rfl)⟩
  · rintro replies safe hops cs ds rd head rfl
    have service : Goes (.serviceCopyReturn c b i replies safe t) s _ := execServiceCopyReturn_of_head replies safe head
    have census : Goes (.discoveryCopyReturn c b i hops cs t) s _ := execDiscoveryCopyReturn_of_head hops cs head
    have delay : Goes (.delayCopyReturn c b i rd hops ds t) s _ := execDelayCopyReturn_of_head hops ds rd head
    refine ⟨fun good own => goes_of_eq service ?_, fun good foreign => goes_of_eq service ?_,
      fun bad => ⟨goes_of_eq service ?_, goes_of_eq census ?_, goes_of_eq delay ?_⟩, fun good own => goes_of_eq census ?_,
      fun good own few startup => goes_of_eq census ?_, fun good foreign => goes_of_eq census ?_,
      fun good own round => goes_of_eq delay ?_, fun good other => execDelayCopyReturn_of_otherRound hops ds head good other⟩
    · rw [State.discards_of_own good own]
    · rw [State.discards_of_foreign good foreign]
    · rw [State.discards_of_bad bad]
    · rw [State.discards_of_bad bad]
    · rw [State.discards_of_bad bad]
    · rw [State.discards_of_own good own]
    · rw [State.discards_of_own good own]
      exact State.censusBack_of_startup cs few startup
    · rw [State.discards_of_foreign good foreign]
    · rw [State.discards_of_own good own]
      exact congrArg ((s.by t).setCh c) (if_pos round)
  · intro replies safe hops cs ds rd idle
    exact ⟨congrArg Host.Outcome.next (if_pos (by simp [idle])), congrArg Host.Outcome.next (if_pos (by simp [idle])),
      congrArg Host.Outcome.next (if_pos (by simp [idle]))⟩
  · rintro x head rfl
    exact congrArg Host.Outcome.next (if_pos head)

end Sys2Proof.Machine

/-!
PROOF. Chain links and pass-through forwarding (R58, R59, R63, R66, R67, R123, R278).
-/
namespace Sys2Proof.Machine

/-! ## Links -/

@[simp] theorem State.forwards_by (s : State) (t c : Nat) : (s.by t).forwards c = s.forwards c := rfl
@[simp] theorem State.ch_by (s : State) (t c : Nat) : (s.by t).ch c = s.ch c := rfl

section
variable {s : State} {c : Nat} {right up : Bool}

/-- A link that does not change. -/
theorem State.linkChange_of_same (same : (s.ch c).link right = up) : s.linkChange c right up = s := by
  unfold State.linkChange
  dsimp only
  exact if_pos (by simp [same])

/-- The link of a used port of an enabled chain changes, on a device that does not forward there (R59). -/
theorem State.linkChange_of_new (enabled : (s.ch c).enabled = true) (used : fld ((s.ch c).portW right) 1 0 ≠ 0) (timed : s.md.mode.timed = true)
    (ends : s.forwards c = false) (new : (s.ch c).link right ≠ up) :
    s.linkChange c right up = (s.setCh c ((s.ch c).setLink right up)).raiseCh c 16 (b2n right + bitAt 1 up) 0 := by
  unfold State.linkChange
  dsimp only
  rw [if_neg (by simp [enabled, used, timed, new]), if_neg (by simp [ends])]

end

/-- What the poll does for one port (R58). -/
def State.pollPort (up : BitVec 4) (u : State) (c : Nat) (right : Bool) : State :=
  if 2 ≤ fld ((u.ch c).portW right) 1 0 then u.linkChange c right (up.toNat.testBit (2 * c + b2n right)) else u

theorem execPhyStatusPoll_eq (up : BitVec 4) (t : Nat) (s : State) : execPhyStatusPoll up t s =
    .next (((((s.by t).pollPort up 0 false).pollPort up 0 true).pollPort up 1 false).pollPort up 1 true) := rfl

/-- A port that is not parallel is not polled. -/
theorem State.pollPort_of_serial {u : State} {c : Nat} {right : Bool} (serial : fld ((u.ch c).portW right) 1 0 < 2) (up : BitVec 4) :
    u.pollPort up c right = u :=
  if_neg (Nat.not_le.mpr serial)

theorem execPhyStatusPoll_of_none {s : State} (none : ∀ n : Fin 2, ∀ r : Bool, fld ((s.ch n.val).portW r) 1 0 < 2) (up : BitVec 4) (t : Nat) :
    execPhyStatusPoll up t s = .next (s.by t) := by
  have left (r : Bool) : (s.by t).pollPort up 0 r = s.by t := State.pollPort_of_serial (u := s.by t) (none 0 r) up
  have right (r : Bool) : (s.by t).pollPort up 1 r = s.by t := State.pollPort_of_serial (u := s.by t) (none 1 r) up
  rw [execPhyStatusPoll_eq, left, left, right, right]

@[simp] theorem State.ch_raiseCh (s : State) (c n a b d : Nat) : (s.raiseCh c n a b).ch d = s.ch d := by
  simp [State.raiseCh, State.ch]

@[simp] theorem Chain.portW_setLink (x : Chain) (right up r : Bool) : (x.setLink right up).portW r = x.portW r := by
  cases right <;> rfl

/-- Only chain 0's left port is parallel: the poll brings its link up (R58, R59). -/
theorem execPhyStatusPoll_of_left {s : State} {up : BitVec 4} {t : Nat} (parallel : 2 ≤ fld (s.ch0.portW false) 1 0)
    (right : fld (s.ch0.portW true) 1 0 < 2) (other : ∀ r : Bool, fld (s.ch1.portW r) 1 0 < 2) (enabled : s.ch0.enabled = true)
    (down : s.ch0.link false = false) (timed : s.md.mode.timed = true) (ends : s.forwards 0 = false) (high : up.toNat.testBit 0 = true) :
    execPhyStatusPoll up t s = .next (((s.by t).setCh 0 (s.ch0.setLink false true)).raiseCh 0 16 2 0) := by
  have used : fld ((s.ch 0).portW false) 1 0 ≠ 0 := Nat.ne_of_gt (Nat.lt_of_lt_of_le (by decide) parallel)
  have new : ((s.by t).ch 0).link false ≠ true := by simpa [State.ch] using down
  have left : (s.by t).pollPort up 0 false = ((s.by t).setCh 0 (s.ch0.setLink false true)).raiseCh 0 16 2 0 := by
    refine (if_pos parallel).trans ?_
    rw [show up.toNat.testBit (2 * 0 + b2n false) = true from high]
    exact State.linkChange_of_new (s := s.by t) enabled used timed ends new
  have second : fld (((((s.by t).setCh 0 (s.ch0.setLink false true)).raiseCh 0 16 2 0).ch 0).portW true) 1 0 < 2 := by
    rw [State.ch_raiseCh]
    simpa [State.setCh, State.ch] using right
  have rest (r : Bool) : fld (((((s.by t).setCh 0 (s.ch0.setLink false true)).raiseCh 0 16 2 0).ch 1).portW r) 1 0 < 2 := by
    rw [State.ch_raiseCh]
    exact other r
  rw [execPhyStatusPoll_eq, left, State.pollPort_of_serial second, State.pollPort_of_serial (rest false), State.pollPort_of_serial (rest true)]

/-! ## Forwarding -/

/-- A member both of whose ports are up does not begin to wrap (R63). -/
theorem Chain.mayWrap_of_links {x : Chain} (left : x.linkL = true) (right : x.linkR = true) : x.mayWrap = x := by
  simp [Chain.mayWrap, left, right]

/-- A close order leaves the ports, the configuration and the count of frames alone (R123). -/
theorem Chain.atClose_frame (x : Chain) (n : Nat) : (x.atClose n).linkL = x.linkL ∧ (x.atClose n).linkR = x.linkR ∧
    (x.atClose n).cfg = x.cfg ∧ (x.atClose n).pass.forwarded = x.pass.forwarded := by
  unfold Chain.atClose
  repeat' split
  all_goals exact ⟨rfl, rfl, rfl, rfl⟩

/-- A member that does not wrap does not wrap after its close order either. -/
theorem Chain.atClose_wrap_none {x : Chain} (plain : x.pass.wrap = none) (n : Nat) : (x.atClose n).pass.wrap = none := by
  unfold Chain.atClose
  repeat' split
  all_goals simp [plain]

theorem Chain.atClose_of_none {x : Chain} (open_ : x.pass.closeAt = none) (n : Nat) : x.atClose n = x := by
  simp [Chain.atClose, open_]

/-- What a member reads of a frame leaves its configuration and the count of frames alone. -/
theorem Chain.readPass_frame (x : Chain) (f : PassFrame) (n : Nat) (w : Bool) :
    (x.readPass f n w).cfg = x.cfg ∧ (x.readPass f n w).pass.forwarded = x.pass.forwarded := by
  unfold Chain.readPass PassMember.stamp
  dsimp only
  refine ⟨rfl, ?_⟩
  repeat' split
  all_goals rfl

/-- A frame at a member whose links are both up and that does not wrap leaves by the far port (R66). -/
theorem Chain.passFrame_through {x : Chain} (f : PassFrame) (n : Nat) (left : x.linkL = true) (right : x.linkR = true)
    (plain : x.pass.wrap = none) : (x.passFrame f n).pass.outRight = !f.right ∧ (x.passFrame f n).pass.outWrapped = f.wrapped ∧
      (x.passFrame f n).pass.outInverted = decide (f.fcs ≠ .good ∨ f.etype.toNat ≠ fld x.cfg 15 0) ∧
      (x.passFrame f n).pass.forwarded = x.pass.forwarded + 1 := by
  obtain ⟨linkL, linkR, cfg, count⟩ := x.atClose_frame n
  have known : (x.passFrame f n) = if x.knows f then ((x.atClose n).readPass f n false).passOn f false else x.passOn f false := by
    unfold Chain.passFrame
    cases x.knows f with
    | false => simp [Chain.mayWrap_of_links left right, plain]
    | true =>
      simp [Chain.mayWrap_of_links (linkL.trans left) (linkR.trans right), Chain.atClose_wrap_none plain]
  obtain ⟨readCfg, readCount⟩ := (x.atClose n).readPass_frame f n false
  rw [known]
  split
  · exact ⟨rfl, Bool.or_false _, by simp [Chain.passOn, readCfg, cfg], by simp [Chain.passOn, readCount, count]⟩
  · exact ⟨rfl, Bool.or_false _, by simp [Chain.passOn], rfl⟩

/-- A frame at a member that wraps on the frame's port leaves by that port, marked wrapped (R63, R64). -/
theorem Chain.passFrame_wrapped {x : Chain} (f : PassFrame) (n : Nat) (left : x.linkL = true) (right : x.linkR = true)
    (wraps : x.pass.wrap = some f.right) (open_ : x.pass.closeAt = none) :
    (x.passFrame f n).pass.outRight = f.right ∧ (x.passFrame f n).pass.outWrapped = true ∧
      (x.passFrame f n).pass.outInverted = decide (f.fcs ≠ .good ∨ f.etype.toNat ≠ fld x.cfg 15 0) ∧
      (x.passFrame f n).pass.forwarded = x.pass.forwarded + 1 := by
  have whole : (x.passFrame f n) = (if x.knows f then x.readPass f n true else x).passOn f true := by
    simp [Chain.passFrame, Chain.atClose_of_none open_, Chain.mayWrap_of_links left right, wraps]
  obtain ⟨readCfg, readCount⟩ := x.readPass_frame f n true
  rw [whole]
  split
  · exact ⟨rfl, Bool.or_true _, by simp [Chain.passOn, readCfg], by simp [Chain.passOn, readCount]⟩
  · exact ⟨rfl, Bool.or_true _, by simp [Chain.passOn], rfl⟩

/-- A frame on the port whose wrap points the other way is discarded (R66). -/
theorem Chain.passFrame_discarded {x : Chain} (f : PassFrame) (n : Nat) (left : x.linkL = true) (right : x.linkR = true)
    (wraps : x.pass.wrap = some (!f.right)) (open_ : x.pass.closeAt = none) : x.passFrame f n = x := by
  simp [Chain.passFrame, Chain.atClose_of_none open_, Chain.mayWrap_of_links left right, wraps]

section
variable {s : State} {c : Fin 2} {f : PassFrame} {t : Nat}

theorem execPassThroughForward_of_plain (forwards : s.forwards c = true) (up : (s.ch c).link f.right = true)
    (plain : s.md.mode ≠ .runStandby ∨ f.kind ≠ 2 ∨ f.safe = []) : execPassThroughForward c f t s =
      .next ((s.by t).setCh c ((s.ch c).passFrame f ((s.by t).clk.extend f.cycle.toNat f.launch))) := by
  refine congrArg Host.Outcome.next ((if_pos (by simp [forwards, up])).trans (if_neg ?_))
  simp only [State.updCh, State.setCh_md, State.by_md, Bool.and_eq_true, decide_eq_true_eq, Bool.not_eq_true', List.isEmpty_eq_false_iff]
  rintro ⟨⟨⟨mode, kind⟩, -⟩, safe⟩
  rcases plain with h | h | h
  · exact h mode
  · exact h kind
  · exact safe h

theorem execPassThroughForward_of_standby (forwards : s.forwards c = true) (up : (s.ch c).link f.right = true)
    (standby : s.md.mode = .runStandby) (service : f.kind = 2) (known : (s.ch c).knows f = true) (safe : f.safe ≠ []) :
    execPassThroughForward c f t s =
      .next (((s.by t).setCh c ((s.ch c).passFrame f ((s.by t).clk.extend f.cycle.toNat f.launch))).safeRegionIn c f.safe) :=
  congrArg Host.Outcome.next ((if_pos (by simp [forwards, up])).trans (if_pos (by simp [State.updCh, standby, service, known, safe])))

theorem execPassThroughForward_of_idle (idle : s.forwards c = false ∨ (s.ch c).link f.right = false) :
    execPassThroughForward c f t s = .next (s.by t) := by
  refine congrArg Host.Outcome.next (if_neg ?_)
  rcases idle with h | h <;> simp [h]

end

/-- Settles O37: the change of a link, the poll as four polled ports, and the passing frame by its wrap. -/
theorem linkAndForwardEvents : Obligations.LinkAndForwardEvents := by
  unfold Obligations.LinkAndForwardEvents
  rintro s u c right t x rfl rfl
  refine ⟨?_, fun up none => execPhyStatusPoll_of_none none up t, ?_, ?_, ?_, ?_, ?_⟩
  · intro enabled used timed ends
    have changes (up : Bool) (new : (s.ch c).link right ≠ up) := State.linkChange_of_new (s := s.by t) enabled used timed ends new
    exact ⟨fun down => congrArg Host.Outcome.next (changes true (by simp [down])),
      fun up => congrArg Host.Outcome.next (State.linkChange_of_same (s := s.by t) up),
      fun up => congrArg Host.Outcome.next (changes false (by simp [up])),
      fun down => congrArg Host.Outcome.next (State.linkChange_of_same (s := s.by t) down)⟩
  · intro up parallel second other enabled down timed ends high
    exact execPhyStatusPoll_of_left parallel second other enabled down timed ends high
  · intro f forwards up plain
    exact execPassThroughForward_of_plain forwards up plain
  · intro f forwards up standby service known safe
    exact execPassThroughForward_of_standby forwards up standby service known safe
  · intro f idle
    exact execPassThroughForward_of_idle idle
  · intro f n left right
    exact ⟨_, rfl, Chain.passFrame_through f n left right, Chain.passFrame_wrapped f n left right, Chain.passFrame_discarded f n left right⟩

end Sys2Proof.Machine

/-!
PROOF. The claim, the time step and the rate (R104, R105, R113 to R116, R120, R288).
-/
namespace Sys2Proof.Machine

/-! ## The claim -/

section
variable {s u : State} {q : Startup} (startup : q = s.startup)
include startup

theorem execListenEnd_of_listen (mode : s.md.mode = .syncUp) (phase : q.phase = .listen) (at_ : u = s.to (3000000 + q.since)) :
    execListenEnd s = .next ({ u with startup := { q with phase := .claim, since := q.since + 3000000 } } : State).launchClaim := by
  subst startup at_
  exact congrArg Host.Outcome.next (if_pos ⟨mode, phase⟩)

/-- The end of a claim period outside a roll's silence: three silent ones win, otherwise the next claim leaves (R113, R114). -/
theorem execClaimPeriod_of_claim {n : Nat} (mode : s.md.mode = .syncUp) (phase : q.phase = .claim) (claims : q.silent = 0)
    (at_ : u = s.to (1000000 + q.since)) (quiet : n = if q.heard then 0 else q.quiet + 1) :
    execClaimPeriod s = .next (if 3 ≤ n then ({ u with startup := { q with since := q.since + 1000000, heard := false, quiet := n } } : State).claimWon
      else ({ u with startup := { q with since := q.since + 1000000, heard := false, quiet := n } } : State).launchClaim) := by
  subst startup at_ quiet
  refine congrArg Host.Outcome.next ((if_pos ⟨mode, phase⟩).trans ?_)
  dsimp only
  rw [if_neg (by omega), if_neg (by omega)]

end

/-- What a claimant does with a claim frame (R114 to R116, R120). -/
theorem execClaimFrameReceived_of_claiming {s : State} {c : Fin 2} {f : ClaimFrame} {t r : Nat} (enabled : (s.ch c).enabled = true)
    (claiming : s.claiming = true) (ranks : r = at_ 32 (b2n f.side) + f.hash.toNat) : execClaimFrameReceived c f t s =
      .next (if r = s.rank && s.startup.stamps.contains f.launch then s.by t
        else if r < s.rank then ((s.by t).setCh c ((s.ch c).noteMember f.src)).claimLost
        else if r = s.rank then ((s.by t).setCh c ((s.ch c).noteMember f.src)).clash f.round.toNat
        else (s.by t).setCh c ((s.ch c).noteMember f.src)) := by
  subst ranks
  refine congrArg Host.Outcome.next ((if_neg (by simp [enabled])).trans ((if_pos claiming).trans ?_))
  have rank : ((s.by t).updCh c (fun x => x.noteMember f.src)).rank = s.rank := by simp [State.rank, State.updCh, State.by]
  dsimp only
  rw [rank]
  rfl

/-! ## The time step and the rate -/

theorem execPpsEdge_of_timed {s : State} (t : Nat) (timed : s.md.mode.timed = true) : execPpsEdge t s =
    .next (if s.clk.waitPps && s.md.mode == .syncUp then
        ({ s.by t with clk := { (s.by t).clk with ppsLast := some (s.by t).now } } : State).stepCluster
      else { s.by t with clk := { (s.by t).clk with ppsLast := some (s.by t).now } }) :=
  congrArg Host.Outcome.next (if_neg (by simp [timed]))

/-- RATE_STEP moves the rate toward the one asked for by at most 214,748 units (R105; log entry 41). -/
theorem Clk.rateMove_eq (c : Clk) : c.rateMove = { c with rate := if c.rateReq < c.rate - 214748 then c.rate - 214748
    else if c.rate + 214748 < c.rateReq then c.rate + 214748 else c.rateReq } := by
  unfold Clk.rateMove
  congr 1
  unfold clampI rateStep50
  (repeat' split) <;> omega

theorem execClaimReport_of_lead {s : State} {m : Fin 4} (won : Bool) (lead : s.straps.lead = true) (mode : s.md.mode = .syncUp)
    (other : s.others.testBit m = true) (phase : s.claiming = true ∨ s.startup.phase = .won ∨ s.startup.phase = .forward) :
    execClaimReport m won s = .next (s.decideClaim m won) := by
  refine congrArg Host.Outcome.next (if_pos ?_)
  rcases phase with h | h | h <;> simp [lead, mode, other, h]

theorem execClaimOrder_of_step {s : State} (v : Option Nat) (member : s.straps.lead = false) (mode : s.md.mode = .syncUp)
    (won : s.startup.phase = .won) : execClaimOrder true v s = .next (s.stepTime v) :=
  congrArg Host.Outcome.next ((if_neg (by simp [member, mode])).trans ((if_pos rfl).trans (if_pos won)))

theorem execClaimOrder_of_forward {s : State} (member : s.straps.lead = false) (mode : s.md.mode = .syncUp)
    (claims : s.claiming = true ∨ s.startup.phase = .won) : execClaimOrder false none s = .next s.forwardOnly :=
  congrArg Host.Outcome.next ((if_neg (by simp [member, mode])).trans ((if_neg (by decide)).trans (if_pos (by simpa using claims))))

/-- Settles O38: each row of the claim and of the time step, by the phase and the mode. -/
theorem claimAndTimeEvents : Obligations.ClaimAndTimeEvents := by
  unfold Obligations.ClaimAndTimeEvents
  intro s u q t startup
  refine ⟨fun mode phase at_ => execListenEnd_of_listen startup mode phase at_, ?_, ?_, ?_, ?_, ?_, ?_, ?_, ?_, ?_⟩
  · intro mode phase claims at_
    have row {n : Nat} (quiet : n = if q.heard then 0 else q.quiet + 1) : Goes .claimPeriod s _ :=
      execClaimPeriod_of_claim startup mode phase claims at_ quiet
    refine ⟨fun heard => ?_, fun silent few => ?_, fun silent won => ?_⟩
    · exact goes_of_eq (row (n := 0) (by simp [heard])) (if_neg (by omega))
    · exact goes_of_eq (row (n := q.quiet + 1) (by simp [silent])) (if_neg (by omega))
    · exact goes_of_eq (row (n := q.quiet + 1) (by simp [silent])) (if_pos (by omega))
  · rintro c f _ r rfl enabled claiming ranks rfl
    have row : Goes (.claimFrameReceived c f t) s _ := execClaimFrameReceived_of_claiming enabled claiming ranks
    refine ⟨fun same own => goes_of_eq row (if_pos (by simp [same, ← startup, own])), fun lower => goes_of_eq row ?_, fun higher => goes_of_eq row ?_⟩
    · rw [if_neg (by simp [Nat.ne_of_lt lower]), if_pos lower]
    · rw [if_neg (by simp [Nat.ne_of_gt higher]), if_neg (by omega), if_neg (by omega)]
  · rintro rfl timed idle
    refine goes_of_eq (execPpsEdge_of_timed t timed) (if_neg ?_)
    rcases idle with h | h <;> simp [h]
  · rintro rfl mode waits
    exact goes_of_eq (execPpsEdge_of_timed t (by rw [mode]; rfl)) (if_pos (by simp [mode, waits]))
  · rintro rfl off
    exact ⟨congrArg Host.Outcome.next (if_pos (by simp [off])), congrArg Host.Outcome.next (if_neg (by simp [off]))⟩
  · rintro r timed rfl
    refine goes_of_eq (t := { s with clk := s.clk.rateMove }) (congrArg Host.Outcome.next (if_pos timed)) ?_
    rw [Clk.rateMove_eq]
  · intro m won lead mode other phase
    subst startup
    exact execClaimReport_of_lead won lead mode other phase
  · intro v member mode won
    subst startup
    exact execClaimOrder_of_step v member mode won
  · rintro member mode claims rfl
    subst startup
    have row : Goes (.claimOrder false none) s s.forwardOnly := execClaimOrder_of_forward member mode claims
    exact ⟨fun single => goes_of_eq row (if_neg (by simp [single])), fun valid paired => goes_of_eq row (if_pos (by simp [valid, paired]))⟩

end Sys2Proof.Machine

/-!
PROOF. The token, its lapse, silence and the takeover (R293 to R297).
-/
namespace Sys2Proof.Machine

/-! ## The token, its lapse, and silence -/

@[simp] theorem State.unhealthy_to (s : State) (t : Nat) : (s.to t).unhealthy = s.unhealthy := rfl

/-- A renewal that counts for its cycle: the standby takes the sequence (R296). -/
theorem State.hear_of_open {v : State} {w : Twin} (same : v.twin = w) (begun : v.clk.begun = true) (open_ : w.checked ≠ v.clk.cycle + 1)
    (due : v.due v.dNow = true) (seq : Nat) : v.hear seq true = { v with twin := { w with leaseSeq := seq, heard := true } } := by
  have hears : v.hears = true := by simp [State.hears, begun, same, open_, due]
  simp [State.hear, hears, same]

/-- A device without a twin, or that is no lead, does not decide the takeover by its own report (R297). -/
theorem State.silence_undecided {v : State} (alone : v.twin.enable = false ∨ v.straps.lead = false) :
    ¬ (v.reportsSilence && v.straps.lead && decide (v.others = 0)) = true := by
  rcases alone with h | h <;> simp [State.reportsSilence, h]

section
variable {s u : State} {w : Twin} {t : Nat} (twin : w = s.twin)
include twin

/-- The renewal instant of a heading device (R294). -/
theorem execLeaseRenewal_of_head (heads : s.md.mode.heads = true) (begun : s.clk.begun = true) (open_ : w.renewed ≠ s.clk.cycle + 1)
    (at_ : u = s.to (3000 + s.bNow)) : execLeaseRenewal s = .next (if s.unhealthy = 0 then
        { u with twin := { w with leaseSeq := (w.leaseSeq + 1) % 2 ^ 32, renewed := s.clk.cycle + 1, token := true, count := 0, failed := 0 } }
      else { u with twin := { w with failed := s.unhealthy, count := cadd w.count 1 } }) := by
  subst twin at_
  exact congrArg Host.Outcome.next (if_neg (by simp [heads, begun, open_]))

theorem State.lapses_iff (token : w.token = true) (head : s.isHead = true) (m : Nat) : s.lapses m = true ↔ w.renewed - 1 + w.l ≤ m := by
  subst twin
  simp only [State.lapses, token, head, Bool.and_self, Bool.true_and]
  exact decide_eq_true_iff

theorem execHeartbeatReceived_of_next {q : Word} (standby : s.md.mode = .runStandby) (begun : s.clk.begun = true)
    (open_ : w.checked ≠ s.clk.cycle + 1) (at_ : u = s.by t) (due : u.due u.dNow = true) (next : q.toNat = (w.leaseSeq + 1) % 2 ^ 32) :
    execHeartbeatReceived q t s = .next { u with twin := { w with leaseSeq := q.toNat, heard := true } } := by
  subst at_
  refine congrArg Host.Outcome.next ((if_pos standby).trans ?_)
  rw [decide_eq_true (by rw [next, twin]; rfl)]
  exact State.hear_of_open (v := s.by t) twin.symm begun open_ due q.toNat

theorem execBeaconReceived_of_newer {c : Fin 2} {f : BeaconFrame} (standby : s.md.mode = .runStandby) (begun : s.clk.begun = true)
    (open_ : w.checked ≠ s.clk.cycle + 1) (at_ : u = s.by t) (due : u.due u.dNow = true) (enabled : (s.ch c).enabled = true)
    (good : f.fcs = .good) (pair : f.twin = true) (lease : f.lease = true) (newer : 0 < sgn 32 (f.leaseSeq.toNat + 2 ^ 32 - w.leaseSeq)) :
    execBeaconReceived c f t s = .next { u with twin := { w with leaseSeq := f.leaseSeq.toNat, heard := true } } := by
  subst at_
  refine congrArg Host.Outcome.next ((if_neg (by simp [enabled])).trans ((if_neg (by simp [good])).trans ((if_neg (by simp [standby])).trans
    ((if_pos ?_).trans ?_))))
  · have later : 0 < sgn 32 (f.leaseSeq.toNat + 2 ^ 32 - (s.by t).twin.leaseSeq) := by rw [twin] at newer; exact newer
    simp only [State.by_md, standby, pair, lease, later, decide_true, Bool.and_self]
  · exact State.hear_of_open (v := s.by t) twin.symm begun open_ due f.leaseSeq.toNat

theorem execSilenceCheck_of_heard (standby : s.md.mode = .runStandby) (begun : s.clk.begun = true) (open_ : w.checked ≠ s.clk.cycle + 1)
    (at_ : u = s.to s.dNow) (heard : w.heard = true) : execSilenceCheck s =
      .next ({ u with twin := { w with checked := s.clk.cycle + 1, heard := false, count := 0 } } : State).judgeCopy := by
  subst twin at_
  exact congrArg Host.Outcome.next ((if_neg (by simp [standby, begun, open_])).trans (if_pos heard))

/-- A silent cycle on a device without a twin, or that is no lead: it is counted and no more. -/
theorem execSilenceCheck_of_silent (standby : s.md.mode = .runStandby) (begun : s.clk.begun = true) (open_ : w.checked ≠ s.clk.cycle + 1)
    (at_ : u = s.to s.dNow) (silent : w.heard = false) (alone : w.enable = false ∨ s.straps.lead = false) : execSilenceCheck s =
      .next { u with twin := { w with checked := s.clk.cycle + 1, heard := false, count := cadd w.count 1 } } := by
  subst twin at_
  refine congrArg Host.Outcome.next ((if_neg (by simp [standby, begun, open_])).trans ((if_neg (by simp [silent])).trans (if_neg ?_)))
  exact State.silence_undecided alone

theorem State.reportsSilence_iff (standby : s.md.mode = .runStandby) (paired : w.enable = true) (ready : w.ready = true)
    (valid : w.valid = true) (lock : w.timeLock = true) (current : w.cfgCurrent = true) (applied : w.applied = true) :
    s.reportsSilence = true ↔ w.l + 2 ≤ w.count := by
  subst twin
  simp [State.reportsSilence, State.standbyReady, standby, paired, ready, valid, lock, current, applied]

end

/-- Settles O39: the rows of the token and of silence, each by whether the renewal or the report counts. -/
theorem tokenAndSilenceEvents : Obligations.TokenAndSilenceEvents := by
  unfold Obligations.TokenAndSilenceEvents
  intro s u w t twin
  refine ⟨?_, ?_, ?_, ?_, ?_, ?_, ?_, ?_⟩
  · intro heads begun open_ at_
    have row : Goes .leaseRenewal s _ := execLeaseRenewal_of_head twin heads begun open_ at_
    exact ⟨fun healthy => goes_of_eq row (if_pos healthy), fun fails => goes_of_eq row (if_neg fails)⟩
  · rintro begun token head late rfl
    exact congrArg Host.Outcome.next (if_pos (by simp [begun, (State.lapses_iff twin token head _).mpr late]))
  · intro begun token head early
    exact congrArg Host.Outcome.next (if_neg (by simp [begun, State.lapses_iff twin token head]; exact early))
  · intro q standby begun open_ at_ due next
    exact execHeartbeatReceived_of_next twin standby begun open_ at_ due next
  · intro c f standby begun open_ at_ due enabled good pair lease newer
    exact execBeaconReceived_of_newer twin standby begun open_ at_ due enabled good pair lease newer
  · intro standby begun open_ at_
    exact ⟨execSilenceCheck_of_heard twin standby begun open_ at_, execSilenceCheck_of_silent twin standby begun open_ at_⟩
  · intro standby paired ready valid lock current applied silent at_
    subst at_
    refine goes_of_eq (congrArg Host.Outcome.next
      (if_pos ((State.reportsSilence_iff twin standby paired ready valid lock current applied).mpr silent))) ?_
    rw [twin]
    rfl
  · intro few
    refine congrArg Host.Outcome.next (if_neg ?_)
    have short : ¬ s.twin.l + 2 ≤ s.twin.count := by rw [← twin]; omega
    simp [State.reportsSilence, short]

end Sys2Proof.Machine

/-!
PROOF. The sync link, the state copy and forwarded changes (R287, R289, R291, R301, R302, R305).
-/
namespace Sys2Proof.Machine

/-- What no step of a fold changes, the fold keeps. -/
theorem State.foldl_keeps {α β : Type} (f : State → β) {g : State → α → State} (keeps : ∀ t k, f (g t k) = f t) (l : List α) (s : State) :
    f (l.foldl g s) = f s := by
  induction l generalizing s with
  | nil => rfl
  | cons k l ih => exact (ih (g s k)).trans (keeps s k)

/-! ## The sync link -/

@[simp] theorem State.notePeer_md (s : State) (src : BitVec 24) : (s.notePeer src).md = s.md := by
  unfold State.notePeer
  split
  · exact State.foldl_keeps State.md (fun t c => State.updCh_md t c _) _ _
  · rfl

theorem State.setLanes_of_same {s : State} {n : Nat} (same : s.twin.lanes = n) : s.setLanes n = s := if_pos same

theorem State.setLanes_of_new {s : State} {n : Nat} (new : s.twin.lanes ≠ n) :
    s.setLanes n = ({ s with twin := { s.twin with lanes := n } } : State).raise 102 n 0 := if_neg new

/-- A heading device follows no twin (R291). -/
theorem State.followPair_of_heads {s : State} (heads : s.md.mode.heads = true) : s.followPair = s := by
  have lock : s.lockTime = s := by
    cases mode : s.md.mode <;> simp [State.lockTime, State.awaits, mode, Mode.heads] at heads ⊢
  unfold State.followPair
  rw [lock]
  exact if_pos heads

/-- The pair goes down on a heading device that knew its twin unready. -/
theorem State.pairDown_of_unready {s : State} (heads : s.md.mode.heads = true) (unready : s.twin.ready = false) :
    s.pairDown = { s with twin := { s.twin with valid := false, timeLock := false, rx := none } } :=
  (if_pos heads).trans (if_pos unready)

/-- A copy that shows no shift, the gear in force and the generation at hand asks for nothing (R303, R305). -/
theorem State.behind_of_level {v : State} {cb : ControlBlock} (gear : cb.gear.toNat = v.clk.gear) (noShift : cb.shiftGear = 0)
    (gen : cb.cfgGen.toNat = v.link.cfgGen) : v.behind cb = false := by
  simp [State.behind, gear, noShift, gen]

theorem State.shiftRecord_of_none {v : State} {cb : ControlBlock} (noShift : cb.shiftGear = 0) : v.shiftRecord cb = v :=
  if_neg (by simp [noShift])

section
variable {s u : State} {w : Twin} {t : Nat} (twin : w = s.twin)
include twin

theorem execSyncLinkLock_of_head {p : PairId} {d : Nat} (linked : s.md.lapsed = false) (lanes : w.lanes = 3) (differs : d = pairDiffers s.pairId p)
    (heads : s.md.mode.heads = true) : execSyncLinkLock p s = .next (if d ≠ 0 then
        (({ s with twin := { w with peer := some p, peerOff := (p.time : Int) - s.now } } : State).pairDown).raise 103 d 0
      else ({ s with twin := { w with peer := some p, peerOff := (p.time : Int) - s.now, valid := true } } : State).notePeer p.src) := by
  subst twin differs
  refine (if_neg (by simp [linked])).trans (congrArg Host.Outcome.next ?_)
  rw [State.setLanes_of_same lanes]
  dsimp only
  congr 1
  refine State.followPair_of_heads ?_
  rwa [State.notePeer_md]

theorem State.receives_of_standby (valid : w.valid = true) (standby : s.md.mode = .runStandby) : (s.by t).receives = true := by
  subst twin
  simp [State.receives, State.by, valid, standby]

theorem execSyncLinkChange_of_locked (linked : s.md.lapsed = false) (new : w.lanes ≠ 3) :
    execSyncLinkChange 3 s = .next (({ s with twin := { w with lanes := 3 } } : State).raise 102 3 0) := by
  subst twin
  refine (congrArg Host.Outcome.next (if_pos rfl)).trans ?_
  rw [linked]
  exact congrArg Host.Outcome.next (State.setLanes_of_new new)

/-! ## The state copy -/

theorem execCopyControlBlock_of_standby {cb : ControlBlock} (rs : List AxisRec) (ps : List ProfileRec) (valid : w.valid = true)
    (standby : s.md.mode = .runStandby) (fixed : s.clk.fixed = true) (at_ : u = s.by t) :
    execCopyControlBlock cb rs ps t s = .next (if cb.crcOk = false then u.copyIncomplete
      else if cb.cycle ≠ s.clk.cycle then u
      else
        let v := ({ u with twin := { w with rx := some { cb := cb, recs := rs, precs := ps } } } : State).shiftRecord cb
        if v.behind cb then v.notCurrent else v) := by
  subst at_
  refine congrArg Host.Outcome.next ((if_neg (by simp [State.receives_of_standby twin valid standby])).trans ?_)
  have settled : (s.by t).firstBlock cb = s.by t := if_pos fixed
  rw [settled, twin]
  cases cb.crcOk <;> rfl

theorem execCopyAcknowledge_of_refresh {q : Word} (paired : w.enable = true) (heads : s.md.mode.heads = true) (valid : w.valid = true)
    (refresh : s.link.refresh = true) : execCopyAcknowledge q s = .next (s.ackCopy q.toNat) := by
  subst twin
  exact congrArg Host.Outcome.next ((if_pos (by simp [State.copies, paired, heads, valid])).trans (if_pos refresh))

/-! ## Forwarded changes -/

theorem execForwardedChange_of_gap {g : Word} {x : Forwarded} (valid : w.valid = true) (standby : s.md.mode = .runStandby)
    (settled : s.link.refresh = false) (gap : g.toNat ≠ (s.link.cfgGen + 1) % 2 ^ 32) :
    execForwardedChange g x t s = .next (s.by t).notCurrent :=
  congrArg Host.Outcome.next ((if_neg (by simp [State.receives_of_standby twin valid standby])).trans 
    (if_pos ((Bool.and_eq_true _ _).mpr ⟨congrArg not settled, decide_eq_true gap⟩)))

/-- A change one generation above the last (R305). -/
theorem execForwardedChange_of_next {g : Word} {x : Forwarded} {l : TwinLink} (valid : w.valid = true) (standby : s.md.mode = .runStandby)
    (next : g.toNat = (s.link.cfgGen + 1) % 2 ^ 32) (link : l = { s.link with cfgGen := g.toNat }) :
    execForwardedChange g x t s = .next (if x.effect = 0 then ({ s.by t with link := l } : State).changeNow x
      else if s.clk.begun && decide (x.effect ≤ s.clk.cycle) then ({ s.by t with link := l } : State).notCurrent
      else ({ s.by t with link := l } : State).pendChange x) := by
  subst link
  exact congrArg Host.Outcome.next ((if_neg (by simp [State.receives_of_standby twin valid standby])).trans (if_neg (by simp [next])))

theorem execConfigRefreshDone_of_standby {g : Word} (standby : s.md.mode = .runStandby) (valid : w.valid = true) :
    execConfigRefreshDone g s =
      .next (({ s with twin := { w with cfgCurrent := true }, link := { s.link with cfgGen := g.toNat, refresh := false } } : State).readiness) := by
  subst twin
  exact congrArg Host.Outcome.next ((if_neg (by simp [standby, Mode.heads])).trans (if_pos (by simp [State.receives, valid, standby])))

theorem execRefreshRequest_of_ready (heads : s.md.mode.heads = true) (valid : w.valid = true) (ready : w.ready = true) :
    execRefreshRequest s =
      .next (({ s with link := { s.link with refresh := true, changes := s.refreshed }, twin := { w with ready := false } } : State).raise 99 0 0) := by
  subst twin
  exact congrArg Host.Outcome.next ((if_pos (by simp [heads, valid])).trans (if_neg (by simp [ready])))

end

/-- Settles O40: each row by its case, a state copy through the one form of its row. -/
theorem syncLinkEvents : Obligations.SyncLinkEvents := by
  unfold Obligations.SyncLinkEvents
  intro s u w t twin
  refine ⟨fun p lapsed => if_pos lapsed, ?_, ?_, ?_, ?_, ?_, fun g heads => congrArg Host.Outcome.next (if_pos heads), ?_, ?_⟩
  · intro p d linked lanes differs heads
    have row : Goes (.syncLinkLock p) s _ := execSyncLinkLock_of_head twin linked lanes differs heads
    refine ⟨fun same => goes_of_eq row (if_neg (by simp [same])), fun other unready => goes_of_eq row ((if_pos other).trans ?_)⟩
    exact congrArg (fun v : State => v.raise 103 d 0) (State.pairDown_of_unready heads unready)
  · exact execSyncLinkChange_of_locked twin
  · intro cb rs ps valid standby fixed at_
    have row : Goes (.copyControlBlock cb rs ps t) s _ := execCopyControlBlock_of_standby twin rs ps valid standby fixed at_
    refine ⟨fun whole cycle gear noShift gen => goes_of_eq row ?_, fun whole other => goes_of_eq row ?_, fun damaged => goes_of_eq row (if_pos damaged)⟩
    · rw [if_neg (by simp [whole]), if_neg (by simp [cycle])]
      dsimp only
      rw [State.shiftRecord_of_none noShift, if_neg]
      subst at_
      exact ne_true_of_eq_false (State.behind_of_level gear noShift gen)
    · rw [if_neg (by simp [whole]), if_pos other]
  · intro q paired heads valid refresh
    exact execCopyAcknowledge_of_refresh twin paired heads valid refresh
  · rintro g x l valid standby settled rfl link
    have row (next) : Goes (.forwardedChange g x t) s _ := execForwardedChange_of_next twin valid standby next link
    refine ⟨fun gap => execForwardedChange_of_gap twin valid standby settled gap, fun next now => goes_of_eq (row next) (if_pos now),
      fun next later => goes_of_eq (row next) ?_⟩
    rw [if_neg (by omega), if_neg (by simp [later])]
  · intro g standby valid
    exact execConfigRefreshDone_of_standby twin standby valid
  · exact execRefreshRequest_of_ready twin

end Sys2Proof.Machine

/-!
PROOF. The planned swap, mirrored events and the cluster (R52, R291, R294, R307, R309 to R314, R371).
-/
namespace Sys2Proof.Machine

/-! ## The planned swap and mirrored events -/

theorem execSwapDue_of_ready {s : State} {h due : Nat} (hours : h = fld s.twin.cfg 23 16)
    (at_ : due = s.link.hoursFrom + (s.link.reminders + 1) * h * 3600000000000) (set : h ≠ 0) (heads : s.md.mode.heads = true)
    (ready : s.twinReady = true) : execSwapDue s =
      .next (({ s.to due with link := { s.link with reminders := s.link.reminders + 1 } } : State).raise 105 0
        (min (((s.to due).now - s.link.hoursFrom) / 3600000000000) 0xFFFFFFFF)) := by
  unfold execSwapDue
  dsimp only
  rw [← hours, ← at_, if_neg (by simp [set, heads, ready]), State.to_link]

/-- Settles O41: each row once its condition is put in. -/
theorem plannedSwapEvents : Obligations.PlannedSwapEvents := by
  unfold Obligations.PlannedSwapEvents
  intro s u
  refine ⟨?_, ?_, ?_, ?_, ?_⟩
  · intro e standby ready ahead
    exact congrArg Host.Outcome.next (if_pos (by simp [standby, ready, ahead]))
  · intro e passed
    exact congrArg Host.Outcome.next (if_neg (by simp [Nat.not_lt.mpr passed]))
  · intro e w swap named active
    have row : Goes (.swapAck e) s _ := rfl
    refine goes_of_eq row ?_
    rw [swap]
    exact if_pos (by simp [named, active])
  · rintro h due hours at_ set heads ready rfl
    exact execSwapDue_of_ready hours at_ set heads ready
  · intro m n a b t lead done standby
    exact congrArg Host.Outcome.next (if_pos (by simp [lead, done, standby]))

/-! ## The cluster -/

section
variable {s u : State} {c : Cluster} {m : Fin 4} {t : Nat} (clu : c = s.clu)

theorem execMemberHealth_of_other {ok : BitVec 5} {cyc : Nat} (lead : s.straps.lead = true) (other : s.others.testBit m = true) :
    execMemberHealth m ok cyc t s = .next ({ s.by t with clu := { s.clu with
      healthAt := Tbl.put s.clu.healthAt m (cyc + 1), health := Tbl.put s.clu.health m (31 - ok.toNat) } } : State).grantDue :=
  congrArg Host.Outcome.next (if_pos (show (s.straps.lead && s.others.testBit m) = true by simp [lead, other]))

theorem execLeaseGrant_of_member {g : Grant} (member : s.straps.lead = false) :
    execLeaseGrant g t s = .next (({ s.by t with clu := { s.clu with grant := g.cycle + 1 } } : State).followLead g.off) :=
  congrArg Host.Outcome.next (if_neg (by simp [member]))

theorem State.followLead_of_running {v : State} {off : Int} (dark : v.md.mode ≠ .configure) (quiet : v.md.mode ≠ .syncUp) :
    v.followLead off = { v with clk := v.clk.steer off } :=
  if_neg (by simp [dark, quiet])

theorem State.followLead_of_configure {v : State} {off : Int} (configure : v.md.mode = .configure) (free : v.clk.fixed = false) :
    v.followLead off = v.setTime ((v.now : Int) - off).toNat :=
  if_pos (by simp [configure, free])

/-! ### Responses over the bridge -/

include clu in
theorem execBridgeResponse_of_out {o : Outgoing} {l : List Outgoing} (st : Byte) (p : List Word) (out : c.out = o :: l)
    (from_ : o.member = m) (small : o.ref.opcode < 65536) : execBridgeResponse m o.ref.tag (BitVec.ofNat 16 o.ref.opcode) st p s =
      .next (({ s with clu := { c with out := l } } : State).respondAs m o.ref st.toNat p).bridgeDone := by
  subst clu
  unfold execBridgeResponse
  rw [out, takeFirst, if_pos (by simp [from_, Nat.mod_eq_of_lt small])]

include clu in
theorem execBridgeResponse_of_gather {g : Gather} (st : Byte) (p : List Word) (none : c.out = []) (gather : c.gather = some g)
    (waits : g.waiting.testBit m = true) (small : g.ref.opcode < 65536) :
    execBridgeResponse m g.ref.tag (BitVec.ofNat 16 g.ref.opcode) st p s = .next (s.gatherStatus g m st.toNat) := by
  subst clu
  unfold execBridgeResponse
  rw [none, takeFirst]
  dsimp only
  rw [gather]
  dsimp only
  rw [if_pos (by simp [waits, Nat.mod_eq_of_lt small])]

include clu in
theorem execBridgeResponse_of_failed_swap (tag : Byte) {st : Byte} (p : List Word) (none : c.out = []) (idle : c.gather = Option.none) (fails : st ≠ 0) :
    execBridgeResponse m tag 0x0F03 st p s = .next s.swapFails := by
  subst clu
  unfold execBridgeResponse
  rw [none, takeFirst]
  dsimp only
  rw [idle]
  dsimp only
  rw [if_pos (by simpa using fails)]

end

/-! ### Commands forwarded to a member -/

section
variable {s : State} {h : Hdr} (member : s.straps.lead = false)
include member

/-- A word without a payload takes back what was accepted under it (R52, R307). -/
theorem execForwardedCommand_of_held {op : BitVec 16} {p : List Word} (empty : h.len = 0)
    (held : op = 0x0303 ∧ s.pend.shift.isSome = true ∨ op = 0x1003 ∧ s.pend.move.isSome = true ∨ op = 0x0F03 ∧ s.link.swap.isSome = true) :
    execForwardedCommand h op p s = .next (s.takenBack op.toNat) := by
  refine congrArg Host.Outcome.next ((if_neg (by simp [member])).trans (if_pos ?_))
  rcases held with ⟨rfl, h⟩ | ⟨rfl, h⟩ | ⟨rfl, h⟩ <;> simp [empty, h]

theorem execForwardedCommand_of_named (p : List Word) (two : h.len = 2) :
    execForwardedCommand h 0x0F03 p s = .next (s.swapNamed (w64 (pw p 0) (pw p 1))) :=
  congrArg Host.Outcome.next ((if_neg (by simp [member])).trans ((if_neg (by simp [two])).trans (if_pos (by simp [two]))))

/-- Any other word is carried out as a command (R312). -/
theorem execForwardedCommand_of_other {op : BitVec 16} (p : List Word)
    (open_ : h.len ≠ 0 ∨ (s.pend.shift = none ∧ s.pend.move = none ∧ s.link.swap = none)) (plain : op ≠ 0x0F03 ∨ h.len ≠ 2) :
    execForwardedCommand h op p s = .next (match cmdOf op.toNat with
      | some d => d.bridged h p s
      | none => s.respond { refOf op.toNat h with viaBridge := true } stBadOpcode []) := by
  refine congrArg Host.Outcome.next ((if_neg (by simp [member])).trans ((if_neg ?_).trans (if_neg ?_)))
  · rcases open_ with full | ⟨shift, move, swap⟩
    · simpa using fun _ => full
    · simp [shift, move, swap]
  · rcases plain with other | len
    · have : op.toNat ≠ 0x0F03 := fun same => other (BitVec.eq_of_toNat_eq same)
      simp [this]
    · simpa using fun _ => len

end

/-! ### Members that join and are lost -/

section
variable {s : State} {m : Fin 4} {id : PairId} (configure : s.md.mode = .configure)
include configure

theorem execMemberJoined_of_duplicate (lead : s.straps.lead = true) : execMemberJoined m id true s = .next (s.raise 109 (0x100 + m.val) 0) :=
  congrArg Host.Outcome.next ((if_neg (by simp [configure])).trans ((if_neg (by simp [lead])).trans (if_pos rfl)))

variable (stepping : id.stepping = s.pairId.stepping) (major : id.fwMajor = s.pairId.fwMajor) (minor : id.fwMinor = s.pairId.fwMinor)
  (protocol : id.protocol = s.pairId.protocol)
include stepping major minor protocol

theorem execMemberJoined_of_lead (lead : s.straps.lead = true) (foreign : m.val ≠ s.straps.cid) (set : bit s.clu.cfg m = true)
    (new : s.clu.joined.testBit m = false) : execMemberJoined m id false s = .next
      (({ s with clu := { s.clu with joined := putBit s.clu.joined m true, lost := putBit s.clu.lost m false, offset := Tbl.put s.clu.offset m 0 } } : State).raise
        108 m 0) :=
  congrArg Host.Outcome.next ((if_neg (by simp [configure])).trans ((if_neg (by simp [lead])).trans ((if_neg (by decide)).trans
    (if_neg (by simp [foreign, set, new, stepping, major, minor, protocol])))))

theorem execMemberJoined_of_member (member : s.straps.lead = false) :
    execMemberJoined m id false s = .next (s.followLead ((s.now : Int) - id.time)) :=
  congrArg Host.Outcome.next ((if_neg (by simp [configure])).trans ((if_pos (by simp [member])).trans
    (if_pos (by simp [stepping, major, minor, protocol]))))

end

theorem execMemberLost_of_quiet {s u : State} {m : Fin 4} (due : s.straps.lead = false ∨ s.others.testBit m = true)
    (known : s.clu.lost.testBit m = false) (foreign : m.val ≠ s.straps.cid)
    (lost : u = ({ s with clu := { s.clu with joined := putBit s.clu.joined m false, lost := putBit s.clu.lost m true } } : State).raise 109 m 0)
    (quiet : (u.timeOut m).twin.enable = true ∨ (u.timeOut m).md.mode.cycles = false) : execMemberLost m s = .next (u.timeOut m) := by
  subst lost
  refine congrArg Host.Outcome.next ((if_neg ?_).trans (if_pos ?_))
  · rcases due with h | h <;> simp [foreign, known, h]
  · simpa using quiet

theorem execMemberEvent_of_single {s : State} (m : Fin 4) (n : Fin 128) (a : BitVec 16) (b : Word) (t : Nat) (lead : s.straps.lead = true)
    (done : s.md.bootDone = true) (single : s.twin.valid = false) :
    execMemberEvent m n a b t s = .next (s.post n.val (eventWords n.val false m.val a.toNat b.toNat t)) := by
  refine congrArg Host.Outcome.next ((if_pos (by simp [lead, done])).trans ?_)
  dsimp only
  rw [if_neg (by simp [single])]

/-- Settles O42: the rows of the cluster, one lemma each. -/
theorem clusterEvents : Obligations.ClusterEvents := by
  unfold Obligations.ClusterEvents
  intro s u c m t clu
  refine ⟨?_, ?_, fun cyc off lead => congrArg Host.Outcome.next (if_pos lead), ?_, ?_, ?_, ?_, ?_, ?_, ?_, ?_, ?_, ?_, ?_, ?_, ?_, ?_⟩
  · rintro ok k lead other rfl cyc rfl
    subst clu
    exact execMemberHealth_of_other lead other
  · rintro cyc off member rfl
    subst clu
    have row : Goes (.leaseGrant ⟨cyc, off⟩ t) s _ := execLeaseGrant_of_member member
    exact ⟨fun dark quiet => goes_of_eq row (State.followLead_of_running dark quiet),
      fun configure free => goes_of_eq row (State.followLead_of_configure configure free)⟩
  · intro o l st p out from_ small
    exact execBridgeResponse_of_out clu st p out from_ small
  · intro g st p none gather waits small
    exact execBridgeResponse_of_gather clu st p none gather waits small
  · intro tag st p none idle fails
    exact execBridgeResponse_of_failed_swap clu tag p none idle fails
  · intro h p member empty
    refine ⟨fun k shift => ?_, fun k move => ?_, fun k swap => ?_⟩
    · exact execForwardedCommand_of_held member empty (.inl ⟨rfl, by simp [shift]⟩)
    · exact execForwardedCommand_of_held member empty (.inr (.inl ⟨rfl, by simp [move]⟩))
    · exact execForwardedCommand_of_held member empty (.inr (.inr ⟨rfl, by simp [swap]⟩))
  · intro h p k member two swap
    exact goes_of_eq (execForwardedCommand_of_named member p two) (by rw [State.swapNamed, swap])
  · intro op h p member open_ plain unknown
    exact goes_of_eq (execForwardedCommand_of_other member p open_ plain) (by rw [unknown])
  · intro op h p d member open_ plain known
    exact goes_of_eq (execForwardedCommand_of_other member p open_ plain) (by rw [known])
  · intro n a b lead done single
    exact execMemberEvent_of_single m n a b t lead done single
  · intro due known foreign lost quiet
    subst clu
    exact execMemberLost_of_quiet due known foreign lost quiet
  · rintro id lead configure foreign set new stepping major minor protocol rfl
    subst clu
    exact execMemberJoined_of_lead configure stepping major minor protocol lead foreign set new
  · intro id member configure stepping major minor protocol
    exact execMemberJoined_of_member configure stepping major minor protocol member
  · intro id lead configure
    exact execMemberJoined_of_duplicate configure lead
  · rintro b other
    subst clu
    exact congrArg Host.Outcome.next (if_neg other)
  · subst clu
    exact congrArg Host.Outcome.next (if_pos rfl)

end Sys2Proof.Machine

/-!
PROOF. The scheduler: dispatch, completion, release, deadlines and fences (R35, R37, R143, R185, R187, R189 to R192).
-/
namespace Sys2Proof.Machine

/-! ## Dispatch -/

section
variable {s u : State} {x : Executor} {it : Item} (now : u = s.expireBefore)
include now

theorem execDispatch_of_free (free : u.execFree x = true) (service : ∀ k, x = .core k → u.sched.inService.testBit k.val = true) :
    execDispatch x s = .next (u.dispatchFor x (u.sched.items.length + 1)) := by
  subst now
  refine congrArg Host.Outcome.next (if_pos ?_)
  cases x with
  | core k => simp [free, service k rfl]
  | filter => simp [free]
  | supervisor => simp [free]

theorem execDispatch_of_busy (busy : u.execFree x = false) : execDispatch x s = .next u := by
  subst now
  exact congrArg Host.Outcome.next (if_neg (by simp [busy]))

end

theorem State.dispatchFor_of_none {u : State} {x : Executor} (none : u.choose x = Option.none) (n : Nat) : u.dispatchFor x n = u := by
  cases n with
  | zero => rfl
  | succ n => rw [State.dispatchFor, none]

theorem execDispatch_of_none {s u : State} {x : Executor} (now : u = s.expireBefore) (none : u.choose x = Option.none) :
    execDispatch x s = .next u := by
  subst now
  unfold execDispatch
  dsimp only
  rw [State.dispatchFor_of_none none, ite_self]

/-- The dispatcher with an item that is not discarded (R35, R37, R185). -/
theorem State.dispatchFor_of_kept {u : State} {x : Executor} {it : Item} (chosen : u.choose x = some it)
    (kept : 2 < it.level ∨ (u.ax it.axis).discards it.level = false) (n : Nat) : u.dispatchFor x (n + 1) =
      if u.chargeFits it then u.start it x
      else if it.level ≤ 1 then (u.dropItem it).dispatchFor x n
      else ((u.countDefer it.kind.act).putItem it { it with passed := true }).dispatchFor x n := by
  rw [State.dispatchFor, chosen]
  dsimp only
  refine if_neg ?_
  rcases kept with high | runs
  · simp [Nat.not_le.mpr high]
  · simp [runs]

/-- Starting an item charges its activity (R35). -/
theorem State.start_budget (u : State) (it : Item) (x : Executor) :
    Tbl.get 0 (u.start it x).budget.left it.kind.act = Tbl.get 0 u.budget.left it.kind.act - it.charge :=
  (Tbl.get_put _ _ _ _ _).trans (if_pos rfl)

/-! ## Completion and release -/

@[simp] theorem State.chargeMeasured_sched (s : State) (it : Item) (since occ : Nat) : (s.chargeMeasured it since occ).sched = s.sched := by
  unfold State.chargeMeasured
  dsimp only
  split <;> rfl

@[simp] theorem State.chargeMeasured_clk (s : State) (it : Item) (since occ : Nat) : (s.chargeMeasured it since occ).clk = s.clk := by
  unfold State.chargeMeasured
  dsimp only
  split <;> rfl

/-- What follows the charge of a completed item: the fence of a bad residue, a dead or discarded item, or its completion (R143, R192). -/
def State.completeCharged (v : State) (k : Nat) (it : Item) (r : Bool) : State :=
  if decide (it.level ≤ 2) && !r then v.fence k 1 none
  else if it.dead then (v.delItem it).closeOld
  else if decide (it.level ≤ 2) && (v.ax it.axis).discards it.level then ((((v.delItem it).markFlow it).noteEnd it).accountOf it).closeOld
  else
    match it.kind with
    | .axis => (v.completeAxis it).closeOld
    | .outer => (v.completeOuter it).closeOld
    | .current => (v.completeCurrent it).closeOld
    | .profile => v.completeProfile it
    | .filter => v.putItem it { it with stage := .done }
    | .house => v.delItem it

/-- The executor's row among the idle times: 16 for the filter engine and the supervisor. -/
def executorRow : Executor → Nat
  | .core k => k.val
  | _ => 16

theorem State.complete_eq (u : State) (x : Executor) (it : Item) (since occ : Nat) (r : Bool) : u.complete x it since occ r =
    ({ u.chargeMeasured it since occ with sched := { u.sched with idleSince := Tbl.put u.sched.idleSince (executorRow x) u.now } } : State).completeCharged
      (executorRow x) it r := by
  have sched := u.chargeMeasured_sched it since occ
  have now : (u.chargeMeasured it since occ).now = u.now := congrArg Clk.tb (u.chargeMeasured_clk it since occ)
  rw [← sched, ← now]
  cases x <;> rfl

/-- The filter engine and the supervisor complete an item of their own levels without a check of its residue. -/
theorem State.completeCharged_of_engine {v : State} {k : Nat} {it : Item} (r : Bool) (level : 2 < it.level) (alive : it.dead = false) :
    v.completeCharged k it r = match it.kind with
      | .axis => (v.completeAxis it).closeOld
      | .outer => (v.completeOuter it).closeOld
      | .current => (v.completeCurrent it).closeOld
      | .profile => v.completeProfile it
      | .filter => v.putItem it { it with stage := .done }
      | .house => v.delItem it := by
  have low : decide (it.level ≤ 2) = false := decide_eq_false (by omega)
  rw [State.completeCharged, low, Bool.false_and, Bool.false_and, alive]
  rfl

theorem execItemComplete_of_running {s u : State} {x : Executor} {it : Item} {since t : Nat} (occ : Nat) (r : Bool) (now : u = (s.by t).expireBefore)
    (runs : u.runningOn x = some (it, since)) : execItemComplete x occ r t s = .next (u.complete x it since occ r) := by
  subst now
  unfold execItemComplete
  dsimp only
  rw [runs]

theorem execItemComplete_of_idle {s u : State} {x : Executor} {t : Nat} (occ : Nat) (r : Bool) (now : u = (s.by t).expireBefore)
    (idle : u.runningOn x = none) : execItemComplete x occ r t s = .next u := by
  subst now
  unfold execItemComplete
  dsimp only
  rw [idle]

section
variable {u : State} {f : Nat}

theorem State.releaseFlow_of_none (chain : f < 2) (none : u.releasable f = Option.none) : u.releaseFlow f = u := by
  rw [State.releaseFlow, if_pos chain, none]

theorem State.releaseFlow_of_chain {it : Item} (chain : f < 2) (head : u.releasable f = some it) :
    u.releaseFlow f = (((u.releaseChain it).delItem it).markFlow it).accountOf it := by
  rw [State.releaseFlow, if_pos chain, head]

theorem State.releaseFlow_of_filter {it : Item} (filter : 4 ≤ f)
    (head : u.sched.items.find? (fun y => y.flow == some f && y.stage == .done && y.fseq == Tbl.get 0 u.sched.heads f) = some it) :
    u.releaseFlow f = ((u.delItem it).markFlow it).chunkDone (f - 4) := by
  rw [State.releaseFlow, if_neg (by omega), if_neg (by omega), if_neg (by omega), head]

end

theorem State.spillReturn_of_spilled {s : State} {l : Nat} {it : Item} (oldest : s.sched.items.find? (fun y => y.level == l && y.stage == .spilled) = some it)
    (room : (s.sched.items.filter (fun y => y.level == l && y.stage == .queued)).length < 128) :
    s.spillReturn l = s.putItem it { it with stage := .queued } := by
  rw [State.spillReturn, oldest]
  exact if_pos room

theorem State.spillReturn_of_none {s : State} {l : Nat} (none : s.sched.items.find? (fun y => y.level == l && y.stage == .spilled) = Option.none) :
    s.spillReturn l = s := by
  rw [State.spillReturn, none]

/-! ## Deadlines -/

/-- What a chain is after the spokes due by `t` have gone out empty. -/
def State.emptied (u : State) (t c : Nat) (x : Chain) : Chain :=
  let gone := x.due.filter (fun k => decide (u.firstByte c u.clk.cycle k ≤ t))
  { x with due := x.due.filter (fun k => !gone.contains k), emptyNow := x.emptyNow + gone.length
           counters := { x.counters with emptyCmd := cadd x.counters.emptyCmd gone.length } }

theorem State.passDue_eq (s : State) (t : Nat) : s.passDue t = { s with ch0 := s.emptied t 0 s.ch0, ch1 := s.emptied t 1 s.ch1 } := rfl

/-- After the deadline `t` every spoke still due lies beyond it. -/
theorem State.passDue_due (s : State) (t : Nat) (c : Fin 2) {k : Nat} (due : k ∈ ((s.passDue t).ch c).due) :
    t < (s.passDue t).firstByte c (s.passDue t).clk.cycle k := by
  have later {n : Nat} {x : Chain} (m : k ∈ (s.emptied t n x).due) : t < s.firstByte n s.clk.cycle k := by
    simp only [State.emptied, List.mem_filter, Bool.not_eq_true', List.contains_eq_mem, decide_eq_false_iff_not, not_and,
      decide_eq_true_eq] at m
    exact Nat.lt_of_not_le (fun passed => m.2 m.1 passed)
  rw [State.passDue_eq] at due ⊢
  obtain rfl | rfl : c = 0 ∨ c = 1 := by omega
  · exact later (n := 0) due
  · exact later (n := 1) due

/-- Settles O43: the dispatcher by the item chosen, a completion by `State.complete_eq`, a release by its flow, and the deadlines. -/
theorem schedulerEvents : Obligations.SchedulerEvents := by
  unfold Obligations.SchedulerEvents
  intro s u x t
  refine ⟨?_, ?_, fun now busy => execDispatch_of_busy now busy, ?_, ?_, ?_, ?_, ?_, ?_, ?_, ?_, ?_, ?_, ?_⟩
  · intro it now free service chosen kept
    have row : Goes (.dispatch x) s _ :=
      (execDispatch_of_free now free service).trans (congrArg Host.Outcome.next (State.dispatchFor_of_kept chosen kept _))
    refine ⟨fun fits => ⟨goes_of_eq row (if_pos fits), State.start_budget u it x⟩, fun tight low => goes_of_eq row ?_,
      fun tight high => goes_of_eq row ?_⟩
    · rw [if_neg (by simp [tight]), if_pos low]
    · rw [if_neg (by simp [tight]), if_neg (by omega)]
  · intro now none
    exact execDispatch_of_none now none
  · intro l it oldest room
    exact congrArg Host.Outcome.next (State.spillReturn_of_spilled oldest room)
  · intro l none
    exact congrArg Host.Outcome.next (State.spillReturn_of_none none)
  · intro it since occ r now runs
    exact execItemComplete_of_running occ r now runs
  · intro it since occ r v now engine runs after level alive
    have row : Goes (.itemComplete x occ r t) s _ := execItemComplete_of_running occ r now runs
    have same : u.complete x it since occ r = v.completeCharged (executorRow x) it r := by
      rw [State.complete_eq, after]
      rcases engine with rfl | rfl <;> rfl
    refine ⟨fun kind => goes_of_eq row ?_, fun kind => goes_of_eq row ?_⟩
    · rw [same, State.completeCharged_of_engine r level alive, kind]
      rfl
    · rw [same, State.completeCharged_of_engine r level alive, kind]
      rfl
  · intro k it since occ v now runs after level
    refine goes_of_eq (execItemComplete_of_running occ false now runs) ?_
    rw [State.complete_eq, after]
    exact if_pos (by rw [decide_eq_true level]; rfl)
  · intro occ r now idle
    exact execItemComplete_of_idle occ r now idle
  · rintro f rfl
    have row : Goes (.release f t) s ((s.by t).expireBefore.releaseFlow f.val) := rfl
    refine ⟨row, fun chain none => goes_of_eq row (State.releaseFlow_of_none chain none), fun records => goes_of_eq row ?_,
      fun chain it head => goes_of_eq row (State.releaseFlow_of_chain chain head), fun copy => goes_of_eq row ?_,
      fun filter it head => goes_of_eq row (State.releaseFlow_of_filter filter head)⟩
    · rw [records]
      rfl
    · rw [copy]
      rfl
  · rintro d nearest rfl
    refine ⟨?_, fun c k due => State.passDue_due _ d c due⟩
    have row : Goes .itemDeadline s _ := rfl
    refine goes_of_eq row ?_
    rw [nearest]
  · intro none
    have row : Goes .itemDeadline s _ := rfl
    refine goes_of_eq row ?_
    rw [none]
    rfl
  · intro k it since runs
    have ack : Goes (.dispatchAckTimeout k) s _ := rfl
    have limit : Goes (.occupancyLimit k) s _ := rfl
    rw [runs] at ack limit
    exact ⟨fun at_ => at_ ▸ ack, fun at_ => at_ ▸ limit⟩
  · intro k idle
    have ack : Goes (.dispatchAckTimeout k) s _ := rfl
    have limit : Goes (.occupancyLimit k) s _ := rfl
    rw [idle] at ack limit
    exact ⟨ack, limit⟩

end Sys2Proof.Machine

/-!
PROOF. Limits, pulse inputs, step outputs and captures (R211, R214, R217, R219, R455).
-/
namespace Sys2Proof.Machine

/-! ## Limits, pulse inputs, step outputs and captures -/

/-- A level that has held for `held` µs replaces the bits up to `held` (R211). -/
theorem levelHeld_testBit (m held j : Nat) (level : Bool) :
    (levelHeld m level held).testBit j = if j ≤ held then level else m.testBit j := by
  have shape : levelHeld m level held = 2 ^ (held + 1) * (m / 2 ^ (held + 1)) + (if level then 2 ^ (held + 1) - 1 else 0) := by
    unfold levelHeld
    cases level <;> simp [Nat.mul_comm]
  have small : (if level then 2 ^ (held + 1) - 1 else 0) < 2 ^ (held + 1) := by
    have := Nat.two_pow_pos (held + 1)
    split <;> omega
  rw [shape, Nat.testBit_two_pow_mul_add _ small]
  by_cases low : j ≤ held
  · rw [if_pos (by omega), if_pos low]
    cases level
    · simp
    · simp [Nat.testBit_two_pow_sub_one]; omega
  · rw [if_neg (by omega), if_neg low, Nat.testBit_div_two_pow]
    congr 1
    omega

section
variable {s u : State} {n : Fin 16} {t : Nat} (live : s.pinsLive = true)
include live

theorem execLimitDebounced_of_live {k : LimPair} {positive : Bool} {x : LimitLevel}
    (new : k = if positive then { s.limp n.val with p := levelHeld (s.limp n.val).p x.level x.held.toNat }
      else { s.limp n.val with n := levelHeld (s.limp n.val).n x.level x.held.toNat }) :
    execLimitDebounced n positive x s = .next { s with pins := { s.pins with lim := Tbl.put s.pins.lim n.val k } } := by
  subst new
  exact congrArg Host.Outcome.next (if_neg (by simp [live]))

theorem execPulseInputStep_of_single {e : PulseStep} (single : e ≠ .both) :
    execPulseInputStep n e t s = .next ((s.by t).setPin n.val ((s.pin n.val).step e (s.by t).now)) :=
  congrArg Host.Outcome.next ((if_neg (by simp [live])).trans (if_neg single))

theorem execPulseInputStep_of_both : execPulseInputStep n .both t s =
    .next (if bit (s.pin n.val).cfg 0 then
        ((s.by t).setPin n.val { s.pin n.val with steps := 0, agree := false, errs := cadd (s.pin n.val).errs 1 }).occur 9 n.val (fun st => some (68, n.val, st))
      else s.by t) :=
  congrArg Host.Outcome.next ((if_neg (by simp [live])).trans (if_pos rfl))

end

/-- What one step does to a pulse input, by its direction `d` (R217). -/
theorem PulseIn.step_of_direction (p : PulseIn) {e : PulseStep} {d : Int} (t : Nat) (single : e ≠ .both)
    (dir : d = if bit p.cfg 1 then -(if e = .forward then 1 else -1) else (if e = .forward then 1 else -1)) :
    p.step e t = { p with count := p.count + d, lastDir := d, tLast := t, period := t - p.tLast, steps := min 2 (p.steps + 1)
                          agree := decide (p.lastDir = d) } := by
  subst dir
  cases e with
  | forward => rfl
  | backward => rfl
  | both => exact absurd rfl single

theorem execStepPulse_of_due {s : State} {n : Fin 16} {at_ : Nat} (due : (s.stp n.val).due s.tc = some at_) : execStepPulse n s =
    .next ((s.to at_).setStp n.val ((s.stp n.val).pulse (s.to at_).now s.tc (s.gated n.val (s.stp n.val).dirNeg))) := by
  unfold execStepPulse
  dsimp only
  rw [due]

/-- A standing output below a whole number has no pulse due (R219). -/
theorem StepPort.due_of_standing {p : StepPort} {tc : Nat} (stands : p.rate = 0) (low : p.acc < 65536 * tc) : p.due tc = none := by
  unfold StepPort.due
  rw [if_neg (by omega), if_pos stands]

/-- Settles O44: the rows of the pins, with the bits of `levelHeld` and the fields of `PulseIn.step`. -/
theorem pinEvents : Obligations.PinEvents := by
  unfold Obligations.PinEvents
  intro s u n t live
  refine ⟨?_, ?_, ?_, ?_, ?_⟩
  · rintro level held a b rfl rfl
    exact ⟨execLimitDebounced_of_live live rfl, execLimitDebounced_of_live live rfl,
      fun j => levelHeld_testBit _ _ j _, fun j => levelHeld_testBit _ _ j _⟩
  · rintro p d rfl rfl
    have step {e : PulseStep} (single : e ≠ .both) : Goes (.pulseInputStep n e t) s _ := execPulseInputStep_of_single live single
    have both : Goes (.pulseInputStep n .both t) s _ := execPulseInputStep_of_both live
    refine ⟨fun dir => goes_of_eq (step (by decide)) ?_, fun dir => goes_of_eq (step (by decide)) ?_,
      fun quad => goes_of_eq both (if_pos quad), fun plain => goes_of_eq both (if_neg (by simp [plain]))⟩
    · rw [PulseIn.step_of_direction (e := .forward) _ _ (by decide) (by simpa using dir)]
    · rw [PulseIn.step_of_direction (e := .backward) _ _ (by decide) (by simpa using dir)]
  · rintro p q at_ rfl due rfl rfl
    have row : Goes (.stepPulse n) s _ := execStepPulse_of_due due
    refine ⟨fun gated => goes_of_eq row ?_, fun open_ => goes_of_eq row ?_⟩
    · rw [gated]
      rfl
    · rw [open_]
      rfl
  · rintro p rfl
    refine ⟨?_, fun stands => ⟨congrArg Host.Outcome.next (if_pos stands), fun low => ?_⟩⟩
    · rintro moves rfl
      refine goes_of_eq (congrArg Host.Outcome.next (if_neg moves)) ?_
      rw [StepPort.expire, StepPort.phase, Nat.min_self]
    · have row : Goes (.stepPulse n) s _ := rfl
      refine goes_of_eq row ?_
      rw [StepPort.due_of_standing stands low]
  · rintro k level c d rfl rfl rfl
    exact ⟨fun selected => congrArg Host.Outcome.next (if_pos (by simp [live, selected])),
      fun other => congrArg Host.Outcome.next (if_neg (by simp [live, other]))⟩

end Sys2Proof.Machine

/-!
PROOF. The feedback ports (R224 to R237).
-/
namespace Sys2Proof.Machine

/-! ## The feedback ports -/

/-- An edge that does not reverse the direction (R229): it counts by its direction `d`. -/
theorem FbPort.quadEdge_of_steady {p : FbPort} {e : QuadEdge} {d c : Int} {t : Nat} (n : Nat) (single : e ≠ .double)
    (dir : d = if p.dirInv then -(if e = .forward then 1 else -1) else (if e = .forward then 1 else -1))
    (steady : p.lastSign = 0 ∨ p.lastSign = d)
    (count : c = if p.zAt == some t && p.mode == 3 && p.zClear then p.count else sgn 32 (ubits 32 (p.count + d))) :
    p.quadEdge n e t = ({ p with count := c, ce := c, te := t, lastSign := d, edge := true, revLast := false
                                 res := if p.zAt == some t then { p.res with zCount := wdi (p.res.zCount.toInt + d) } else p.res }, []) := by
  have same : (decide (p.lastSign ≠ 0) && decide (d ≠ p.lastSign)) = false := by
    rcases steady with h | h <;> simp [h]
  have shape : p.quadEdge n e t =
      let rev := decide (p.lastSign ≠ 0) && decide (d ≠ p.lastSign)
      let m2 := rev && p.mode == 2
      let m3 := rev && p.mode == 3
      ({ p with count := c, ce := c, te := t, lastSign := d, edge := true
                revLast := m2, cr := if m2 then c else p.cr, tr := if m2 then t else p.tr, dir := p.dir || m3
                res := if p.zAt == some t then { p.res with zCount := wdi (p.res.zCount.toInt + d) } else p.res },
       if m3 && !p.dir then [(72, n, ubits 32 c)] else []) := by
    subst count dir
    cases e with
    | forward => rfl
    | backward => rfl
    | double => exact absurd rfl single
  rw [shape, same]
  simp

section
variable {s u : State} {n : Fin 16} {f : FbPort} {t : Nat} (port : f = s.fbp n.val)
include port

theorem execEncoderRequest_of_due (begun : s.clk.begun = true) (heads : s.md.mode.heads = true) (serial : f.mode = 1)
    (open_ : f.complete = false) (idle : f.request = none) (due : s.due (s.bNow + f.offset) = true) (at_ : u = s.to (s.bNow + f.offset)) :
    execEncoderRequest n s = .next (u.setFb n.val { f with request := some u.now, start := none, complete := false }) := by
  subst port at_
  exact congrArg Host.Outcome.next (if_pos (by simp [begun, heads, serial, open_, idle, State.fbInstant, due]))

theorem execEncoderRequestEdge_of_standby (begun : s.clk.begun = true) (standby : s.md.mode = .runStandby) (serial : f.mode = 1)
    (open_ : f.complete = false) (idle : f.request = none) (at_ : u = s.by t) (after : s.bNow + f.offset ≤ u.now)
    (due : u.due (s.bNow + f.offset + f.timeoutNs) = true) :
    execEncoderRequestEdge n t s = .next (u.setFb n.val { f with request := some u.now, start := none, complete := false }) := by
  subst port at_
  have cond : ((s.by t).clk.begun && (s.by t).md.mode == .runStandby && (s.fbp n.val).mode == 1 && !(s.fbp n.val).complete &&
      (s.fbp n.val).request.isNone && decide (s.bNow + (s.fbp n.val).offset ≤ (s.by t).now) &&
      (s.by t).due (s.bNow + (s.fbp n.val).offset + (s.fbp n.val).timeoutNs)) = true := by
    have began : (s.by t).clk.begun = true := begun
    simp only [began, State.by_md, standby, serial, open_, idle, after, due]
    rfl
  exact congrArg Host.Outcome.next (if_pos cond)

/-- The start edge of a request that is out (R224, R227). -/
theorem execEncoderStartEdge_of_request {r : Nat} (request : f.request = some r) (fresh : f.start = none) (at_ : u = s.by t) (after : r ≤ u.now) :
    execEncoderStartEdge n t s = .next (if u.due (r + f.timeoutNs) then u.setFb n.val { f with start := some u.now } else u) := by
  subst port at_
  have row : execEncoderStartEdge n t s = .next (match (s.fbp n.val).request with
    | some r => if (s.fbp n.val).start.isNone && decide (r ≤ (s.by t).now) && (s.by t).due (r + (s.fbp n.val).timeoutNs)
        then (s.by t).setFb n.val { s.fbp n.val with start := some (s.by t).now } else s.by t
    | none => s.by t) := rfl
  rw [row]
  simp only [request, fresh, after, Option.isNone_none, decide_true, Bool.true_and]

theorem execEncoderTimeout_of_request {r : Nat} (request : f.request = some r) (fresh : f.start = none) (at_ : u = s.to (r + f.timeoutNs)) :
    execEncoderTimeout n s = .next ((u.setFb n.val f.timedOut).portDone n.val f.single.isNone) := by
  subst port at_
  unfold execEncoderTimeout
  dsimp only
  rw [request]
  dsimp only
  rw [if_neg (by simp [fresh])]

theorem execEncoderWordDone_of_request {r st : Nat} (bits : List Bool) (request : f.request = some r) (start : f.start = some st)
    (at_ : u = s.to (st + f.wordNs)) :
    execEncoderWordDone n bits s = .next ((u.setFb n.val (f.wordDone bits)).portDone n.val f.single.isNone) := by
  subst port at_
  unfold execEncoderWordDone
  dsimp only
  rw [start]
  dsimp only
  rw [if_pos (by simp [request])]

/-- An A/B edge of an incremental port (R229). -/
theorem execQuadratureEdge_of_live (e : QuadEdge) (live : s.pinsLive = true) (incremental : 2 ≤ f.mode) (at_ : u = s.by t) :
    execQuadratureEdge n e t s = .next (if e = .double then
        ((u.setFb n.val (f.quadEdge n.val e u.now).1).raiseAll (f.quadEdge n.val e u.now).2).occur 12 n.val (fun st => some (71, n.val, st))
      else (u.setFb n.val (f.quadEdge n.val e u.now).1).raiseAll (f.quadEdge n.val e u.now).2) := by
  subst port at_
  have mode : ¬ (s.fbp n.val).mode < 2 := Nat.not_lt.mpr incremental
  exact congrArg Host.Outcome.next (if_neg (show ¬ (!s.pinsLive || decide ((s.fbp n.val).mode < 2)) = true by simp [live, mode]))

theorem execIndexEdge_of_live (live : s.pinsLive = true) (incremental : 2 ≤ f.mode) (at_ : u = s.by t) :
    execIndexEdge n t s = .next ((u.setFb n.val (f.indexEdge n.val u.now).1).raiseAll (f.indexEdge n.val u.now).2) := by
  subst port at_
  have mode : ¬ (s.fbp n.val).mode < 2 := Nat.not_lt.mpr incremental
  exact congrArg Host.Outcome.next (if_neg (show ¬ (!s.pinsLive || decide ((s.fbp n.val).mode < 2)) = true by simp [live, mode]))

theorem execIncrementalLatch_of_due (runs : s.portCycle = true) (incremental : 2 ≤ f.mode) (open_ : f.complete = false)
    (due : s.due (s.bNow + f.offset) = true) (at_ : t = (s.to (s.bNow + f.offset)).now) (done : u = s.to (t + 10)) :
    execIncrementalLatch n s = .next ((u.setFb n.val (f.latch t s.tc)).portDone n.val true) := by
  subst port done at_
  exact congrArg Host.Outcome.next (if_pos (by simp [runs, incremental, open_, State.fbInstant, due]))

end

/-- An edge without reversal, as the row leaves the port. -/
theorem execQuadratureEdge_of_steady {s u : State} {n : Fin 16} {f : FbPort} {t : Nat} {e : QuadEdge} {d c : Int} (port : f = s.fbp n.val)
    (live : s.pinsLive = true) (incremental : 2 ≤ f.mode) (at_ : u = s.by t)
    (dir : (e = .forward ∧ d = if f.dirInv then (-1 : Int) else 1) ∨ (e = .backward ∧ d = if f.dirInv then (1 : Int) else -1))
    (steady : f.lastSign = 0 ∨ f.lastSign = d)
    (count : c = if f.zAt == some u.now && f.mode == 3 && f.zClear then f.count else sgn 32 (ubits 32 (f.count + d))) :
    execQuadratureEdge n e t s = .next (u.setFb n.val { f with count := c, ce := c, te := u.now, lastSign := d, edge := true, revLast := false
                                                               res := if f.zAt == some u.now then { f.res with zCount := wdi (f.res.zCount.toInt + d) } else f.res }) := by
  have single : e ≠ .double := by rcases dir with ⟨rfl, -⟩ | ⟨rfl, -⟩ <;> decide
  have sign : d = if f.dirInv then -(if e = .forward then 1 else -1) else (if e = .forward then 1 else -1) := by
    rcases dir with ⟨rfl, h⟩ | ⟨rfl, h⟩ <;> simpa using h
  rw [execQuadratureEdge_of_live port e live incremental at_, if_neg single, FbPort.quadEdge_of_steady n.val single sign steady count]
  rfl

/-- Settles O45: each row of a feedback port, an edge by `FbPort.quadEdge_of_steady` and `FbPort.indexEdge`. -/
theorem feedbackEvents : Obligations.FeedbackEvents := by
  unfold Obligations.FeedbackEvents
  intro s u n f t port
  refine ⟨execEncoderRequest_of_due port, execEncoderRequestEdge_of_standby port, ?_, ?_, ?_, ?_, execIncrementalLatch_of_due port⟩
  · intro r request fresh at_ after
    have row : Goes (.encoderStartEdge n t) s _ := execEncoderStartEdge_of_request port request fresh at_ after
    exact ⟨fun due => goes_of_eq row (if_pos due), fun late => goes_of_eq row (if_neg (by simp [late]))⟩
  · intro r request fresh at_
    exact execEncoderTimeout_of_request port request fresh at_
  · intro r st bits request start at_
    exact execEncoderWordDone_of_request port bits request start at_
  · intro live incremental at_
    refine ⟨?_, ?_, ?_, ?_⟩
    · intro e d c dir steady
      refine ⟨fun apart count => goes_of_eq (execQuadratureEdge_of_steady (c := c) port live incremental at_ dir steady ?_) ?_,
        fun together count => goes_of_eq (execQuadratureEdge_of_steady (c := c) port live incremental at_ dir steady ?_) ?_⟩
      · rw [count, if_neg (by simp [apart])]
      · rw [if_neg (by simp [apart])]
      · rw [count, together]
        simp
      · rw [if_pos (by simp [together])]
    · exact execQuadratureEdge_of_live port .double live incremental at_
    · intro gated clears
      refine goes_of_eq (execIndexEdge_of_live port live incremental at_) ?_
      rw [FbPort.indexEdge, if_pos (by simp [gated, clears])]
      rfl
    · intro keeps
      refine goes_of_eq (execIndexEdge_of_live port live incremental at_) ?_
      rw [FbPort.indexEdge, if_neg (by simp [keeps])]
      rfl

end Sys2Proof.Machine

/-!
PROOF. The integrating converters (R238, R240, R243 to R246).
-/
namespace Sys2Proof.Machine

/-! ## The integrating converters -/

/-- A start is made at once on an idle converter (R243). -/
theorem Conv.startAt_of_idle {c : Conv} (idle : c.run = none) (nominal t : Nat) (skip : Conv → Conv) :
    c.startAt nominal t skip = c.startSeq nominal t := by
  rw [Conv.startAt, idle]

theorem Conv.startAt_of_running {c : Conv} {r : ConvRun} (runs : c.run = some r) (nominal t : Nat) (skip : Conv → Conv) :
    c.startAt nominal t skip = if r.endsAt t && c.again.isNone then { c with again := some t } else skip c := by
  rw [Conv.startAt, runs]

/-- A crossing more than 5 per cent late ends the lock (R240). -/
theorem Conv.crossing_of_late {c : Conv} {t0 : Nat} {nominal t : Nat} (x : Nat) (cross : c.cross = some t0) (late : 105 * nominal < 100 * (t - t0)) :
    c.crossing x nominal t = ({ c with cross := some t, intervals := ((t - t0) :: c.intervals).take 8, lock := false, period := 0 },
      if c.lock then [(78, x, 0)] else []) := by
  have out : ¬ 100 * (t - t0) ≤ 105 * nominal := by omega
  rw [Conv.crossing, cross]
  simp [out, bitAt]

section
variable {s u : State} {x : Fin 2} {c : Conv} {t : Nat} (conv : c = s.conv x.val) (live : s.pinsLive = true)
include conv live

/-- A programmed time of an armed converter (R243). -/
theorem execAdcTimeTrigger_of_armed {t0 : Nat} {nx : Option Nat} (on : c.off = false) (armed : c.armed = true) (timed : c.trig = 2)
    (next : c.next = some t0) (following : nx = if c.w4.toNat * 1000 = 0 then none else some (t0 + c.w4.toNat * 1000)) (at_ : u = s.to t0) :
    execAdcTimeTrigger x s = .next (u.setConv x.val
      (({ c with next := nx } : Conv).startAt s.mainsNominal u.now (fun k => { k with skip := cadd k.skip 1 }))) := by
  subst conv following at_
  refine congrArg Host.Outcome.next ((if_neg (by simp [live, on, armed, timed])).trans ?_)
  rw [next]

/-- The conversion in hand completes (R238, R243 to R246). -/
theorem execConversionDone_of_run {r : ConvRun} {v : Conversion} {o : ConvOut} (runs : c.run = some r) (at_ : u = s.to r.until_)
    (out : o = c.done x.val r v s.mainsNominal u.now) : execConversionDone x v s = .next ((match o.openWire with
        | some e => (u.setConv x.val o.c).openWire x.val e (entryTag (Tbl.get 0 r.seq e))
        | none => u.setConv x.val o.c).raiseAll o.ev) := by
  subst conv at_ out
  unfold execConversionDone
  rw [runs]
  dsimp only
  rw [if_neg (by simp [live])]
  rfl

theorem execMainsCrossing_of_live (at_ : u = s.by t) : execMainsCrossing x t s =
    .next ((u.setConv x.val (c.crossing x.val s.mainsNominal u.now).1).raiseAll (c.crossing x.val s.mainsNominal u.now).2) := by
  subst conv at_
  exact congrArg Host.Outcome.next (if_neg (by simp [live]))

theorem execMainsLockTimeout_of_cross {t0 : Nat} (cross : c.cross = some t0) (at_ : u = s.to (t0 + 2 * s.mainsNominal)) :
    execMainsLockTimeout x s = .next ((u.setConv x.val (c.lockLost x.val).1).raiseAll (c.lockLost x.val).2) := by
  subst conv at_
  unfold execMainsLockTimeout
  dsimp only
  rw [cross]
  dsimp only
  rw [if_neg (by simp [live])]

theorem execRefSettled_of_unsettled (on : c.off = false) (unsettled : c.refOk = false) :
    execRefSettled x s = .next ((s.setConv x.val (c.settle s.now)).raise 77 (x.val + 2) 0) := by
  subst conv
  have timed : s.md.mode.timed = true := by
    simp only [State.pinsLive, Bool.and_eq_true] at live
    exact live.1
  exact congrArg Host.Outcome.next (if_neg (by simp [timed, on, unsettled]))

end

/-- The reference mark of the conversion in hand when the reference settles (R246). -/
theorem Conv.settle_of_run {c : Conv} {r : ConvRun} (runs : c.run = some r) (t : Nat) :
    c.settle t = { c with refOk := true, run := some { r with refBad := r.refBad && decide (r.begun ≠ t) } } := by
  rw [Conv.settle, runs]
  by_cases same : r.begun = t
  · simp [same]
  · simp [same]

/-- Settles O46: each row of a converter, by what the converter does at the instant. -/
theorem converterEvents : Obligations.ConverterEvents := by
  unfold Obligations.ConverterEvents
  intro s u x c t conv live
  refine ⟨?_, ?_, ?_, ?_, ?_, ?_, ?_⟩
  · rintro t0 nx r on armed timed next following at_ rfl
    have row : Goes (.adcTimeTrigger x) s _ := execAdcTimeTrigger_of_armed conv live on armed timed next following at_
    refine ⟨fun k runs before => goes_of_eq row ?_, fun k runs ended last free => goes_of_eq row ?_, fun idle => goes_of_eq row ?_⟩
    · refine congrArg (u.setConv x.val) ((Conv.startAt_of_running (c := { c with next := nx }) runs _ _ _).trans (if_neg ?_))
      rcases before with early | more | taken
      · simp [ConvRun.endsAt, Nat.not_le.mpr early]
      · simp [ConvRun.endsAt, Nat.not_le.mpr more]
      · simp [taken]
    · exact congrArg (u.setConv x.val) ((Conv.startAt_of_running (c := { c with next := nx }) runs _ _ _).trans
        (if_pos (by simp [ConvRun.endsAt, ended, last, free])))
    · exact congrArg (u.setConv x.val) (Conv.startAt_of_idle (c := { c with next := nx }) idle _ _ _)
  · intro r v o runs at_ out
    have row : Goes (.conversionDone x v) s _ := execConversionDone_of_run conv live runs at_ out
    exact ⟨fun closed => goes_of_eq row (by rw [closed]), fun e opened => goes_of_eq row (by rw [opened]; rfl)⟩
  · intro at_
    have row : Goes (.mainsCrossing x t) s _ := execMainsCrossing_of_live conv live at_
    refine ⟨fun first => goes_of_eq row ?_, fun t0 cross open_ late => goes_of_eq row ?_, fun t0 cross locked late => goes_of_eq row ?_⟩
    · rw [Conv.crossing, first]
      rfl
    · rw [Conv.crossing_of_late x.val cross late, open_]
      rfl
    · rw [Conv.crossing_of_late x.val cross late, locked]
      rfl
  · intro t0 cross at_
    have row : Goes (.mainsLockTimeout x) s _ := execMainsLockTimeout_of_cross conv live cross at_
    exact ⟨fun locked => goes_of_eq row (by rw [Conv.lockLost, if_pos locked]; rfl),
      fun open_ => goes_of_eq row (by rw [Conv.lockLost, if_neg (by simp [open_])]; rfl)⟩
  · intro on unsettled idle
    refine goes_of_eq (execRefSettled_of_unsettled conv live on unsettled) ?_
    rw [Conv.settle, idle]
    rfl
  · intro r on unsettled runs
    refine goes_of_eq (execRefSettled_of_unsettled conv live on unsettled) ?_
    rw [Conv.settle_of_run runs]
  · rintro settled
    exact congrArg Host.Outcome.next (if_pos (by simp [← conv, settled]))

end Sys2Proof.Machine

/-!
PROOF. The safe cycle, the safe inputs, RESTART and the tests of the output pairs (R260, R262, R267, R271 to R276, R281).
-/
namespace Sys2Proof.Machine

/-! ## The safe cycle -/

/-- Without pairs under test no test expires (R276). -/
theorem State.testExpires_of_none {s : State} (none : s.safe.test.pairs = 0) : s.testExpires = s :=
  if_neg (by simp [none])

theorem State.testExpires_of_early {s : State} (early : s.now ≤ s.safe.test.until_) : s.testExpires = s :=
  if_neg (by simp [Nat.not_lt.mpr early])

/-- The safety unit at the start of cycle j, before the head PDU (R260). -/
def Safe.opened (f : Safe) (j : Nat) : Safe :=
  { f with cycle := j, begun := true, evaluated := false, rep1 := [], rep2 := [], sent := 0, stoAtS := f.sto, ss1AtS := f.ss1, pduSeen := false }

/-- The head PDU does not read what the start of a cycle changes. -/
theorem Safe.pdu_opened (f : Safe) (i j : Nat) : (f.opened i).pdu j = f.pdu j := rfl

/-- A safe cycle opens on a state whose RC count has been judged (R260, R262). -/
def State.openCycle (v : State) (j : Nat) : State :=
  { v with safe := { v.safe.opened j with headPdu :=
    if v.md.mode.heads && v.safe.configured && !(v.safe.internal && v.faults.stopLease) then (v.safe.opened j).pdu j else [] } }

theorem State.openCycle_of_sends {v : State} {j : Nat} (heads : v.md.mode.heads = true) (configured : v.safe.configured = true)
    (sends : v.safe.internal = false ∨ v.faults.stopLease = false) :
    v.openCycle j = { v with safe := { v.safe.opened j with headPdu := (v.safe.opened j).pdu j } } := by
  have cond : (v.md.mode.heads && v.safe.configured && !(v.safe.internal && v.faults.stopLease)) = true := by
    rcases sends with h | h <;> simp [heads, configured, h]
  rw [State.openCycle, if_pos cond]

/-- The same, with the head PDU of the unit before the start. -/
theorem State.openCycle_of_sends_pdu {v : State} {f : Safe} {j : Nat} (safe : v.safe = f) (heads : v.md.mode.heads = true)
    (configured : f.configured = true) (sends : f.internal = false ∨ v.faults.stopLease = false) :
    v.openCycle j = { v with safe := { f.opened j with headPdu := f.pdu j } } := by
  subst safe
  rw [State.openCycle_of_sends heads configured sends, Safe.pdu_opened]

theorem State.openCycle_of_silent {v : State} {j : Nat} (silent : v.md.mode.heads = false ∨ v.safe.configured = false ∨
    (v.safe.internal = true ∧ v.faults.stopLease = true)) : v.openCycle j = { v with safe := { v.safe.opened j with headPdu := [] } } := by
  have cond : ¬ (v.md.mode.heads && v.safe.configured && !(v.safe.internal && v.faults.stopLease)) = true := by
    rcases silent with h | h | ⟨h, k⟩
    · simp [h]
    · simp [h]
    · simp [h, k]
  rw [State.openCycle, if_neg cond]

section
variable {s u : State} {f : Safe} (safe : f = s.safe)
include safe

/-- S(j) of a device that runs the safe cycle (R260, R281). -/
theorem execSafeCycleStart_of_runs {j : Nat} (rc : Nat) (runs : s.safeRuns = true) (next : j = f.nextCycle s.now) (untested : f.test.pairs = 0)
    (at_ : u = s.to (f.sAt j)) : execSafeCycleStart rc s = .next ((if f.rcOk rc then u else u.internalFault 3).openCycle j) := by
  subst safe next at_
  unfold execSafeCycleStart
  rw [if_neg (by simp [runs])]
  dsimp only
  rw [State.testExpires_of_none (s := s.to _) untested]
  rfl

omit safe in
/-- What the row does, as a step of the table. -/
theorem goes_safeCycleStart {v : State} {rc : Nat} (row : execSafeCycleStart rc s = .next v) : Goes (.safeCycleStart rc) s v := row

omit safe in
theorem Safe.rcOk_of_band {rc n : Nat} (unit : n = 16000 * max f.tSafe 1) (good : f.begun = false ∨ (95 * n ≤ 100 * rc ∧ 100 * rc ≤ 105 * n)) :
    f.rcOk rc = true := by
  subst unit
  rcases good with h | ⟨low, high⟩
  · simp [Safe.rcOk, h]
  · simp [Safe.rcOk, low, high]

omit safe in
theorem Safe.rcOk_of_off {rc n : Nat} (unit : n = 16000 * max f.tSafe 1) (begun : f.begun = true) (off : 100 * rc < 95 * n ∨ 105 * n < 100 * rc) :
    ¬ f.rcOk rc = true := by
  subst unit
  rcases off with h | h
  · simp [Safe.rcOk, begun, Nat.not_le.mpr h]
  · simp [Safe.rcOk, begun, Nat.not_le.mpr h]

theorem execSafeEvaluation_of_open (v : SafeExchange) (runs : s.safeRuns = true) (begun : f.begun = true) (open_ : f.evaluated = false)
    (at_ : u = s.to (f.eAt f.cycle)) : execSafeEvaluation v s = .next (u.evaluate v) := by
  subst safe at_
  exact if_neg (by simp [runs, begun, open_])

theorem execSafeExchangeTimeout_of_open (runs : s.safeRuns = true) (begun : f.begun = true) (open_ : f.evaluated = false)
    (at_ : u = s.to (100000 + f.eAt f.cycle)) : execSafeExchangeTimeout s =
      .next (({ u with safe := { f with evaluated := true, lastSeq := f.cycle % 65536 } } : State).internalFault 1) := by
  subst safe at_
  unfold execSafeExchangeTimeout
  rw [if_neg (by simp [runs, begun, open_])]
  dsimp only
  rw [State.to_safe]

end

/-! ## The safe inputs -/

@[simp] theorem State.safeRuns_raise (s : State) (n a b : Nat) : (s.raise n a b).safeRuns = s.safeRuns := by simp [State.safeRuns]
@[simp] theorem State.safeRuns_fixedFault (s : State) (c i r : Nat) : (s.fixedFault c i r).safeRuns = s.safeRuns := by simp [State.safeRuns]

section
variable {s u : State} {f : Safe} (safe : f = s.safe)
include safe

/-- The inputs are sampled (R271): both channels of the eight inputs. -/
theorem execSafeInputSample_of_timed {a b : Byte} {g : Safe} (timed : s.md.mode.timed = true)
    (sampled : g = { f with input := (List.range 8).foldl (fun t m =>
      Tbl.upd {} t m (fun x => x.sample (a.toNat.testBit m) (b.toNat.testBit m) (f.siw m) s.now)) f.input }) :
    execSafeInputSample a b s = if s.safeRuns = false then .next { s with safe := g }
      else .next (
        let v := (({ s with safe := g } : State).enterSto (g.demanded 1) 2).enterSs1 (g.demanded 2) 2
        if s.md.mode.heads then (v.enterSto g.hostSto 5).enterSs1 g.hostSs1 5 else v) := by
  subst safe sampled
  unfold execSafeInputSample
  rw [if_neg (by simp [timed])]
  dsimp only
  simp only [State.enterSs1_md, State.enterSto_md]
  have same (g : Safe) : ({ s with safe := g } : State).safeRuns = s.safeRuns := rfl
  rw [same]
  cases s.safeRuns <;> rfl

/-- The second contact has not followed (R272). -/
theorem execSiDiscrepancy_of_since {m : Fin 8} {x : SafeIn} {t : Nat} (input : x = Tbl.get {} f.input m.val) (since : x.since = some t)
    (used : fld (f.siw m.val) 1 0 ≠ 0) (fresh : x.disc = false) (differ : x.a.closed ≠ x.b.closed)
    (at_ : u = { s.to (t + fld (f.siw m.val) 19 10 * 1000000) with
      safe := { f with input := Tbl.put f.input m.val { x with disc := true, bothOpen := false, since := none } } }) :
    execSiDiscrepancy m s = .next (if s.safeRuns then ((u.raise 89 m.val 0).fixedFault 33 m.val 2).enterSto (fld (f.siw m.val) 9 2) 3
      else (u.raise 89 m.val 0).fixedFault 33 m.val 2) := by
  subst safe
  unfold execSiDiscrepancy
  dsimp only
  rw [← input, since]
  dsimp only
  rw [if_neg (by simp [used, fresh, differ]), State.to_safe]
  have runs (k : Nat) (g : Safe) : ({ s.to k with safe := g } : State).safeRuns = s.safeRuns := rfl
  rw [State.safeRuns_fixedFault, State.safeRuns_raise, runs, ← at_]

end

/-! ## RESTART -/

section
variable {s u : State} {f : Safe} (safe : f = s.safe)
include safe

/-- A sample of RESTART on a device that does not hold the line back (R275): both channels measure, and a press that both have measured
re-arms where its edge counts. -/
theorem execRestartSample_of_open {r : RestartLevels} {p1 p2 : Press} {stuck : Bool} (timed : s.md.mode.timed = true) (open_ : f.held = false)
    (first : f.press1.sample r.ch1 s.now = p1) (second : f.press2.sample r.ch2 s.now = p2)
    (still : stuck = if p1.since.isNone && p2.since.isNone then false else f.stuck) :
    execRestartSample r s = .next (match ({ f with press1 := p1, press2 := p2 } : Safe).edge with
      | some k =>
        let v : State := { s with safe := { f with press1 := { p1 with last := none }, press2 := { p2 with last := none }, stuck := stuck } }
        if k && s.md.mode.heads then v.rearm.serve else v
      | none => { s with safe := { f with press1 := p1, press2 := p2, stuck := stuck } }) := by
  subst safe first second still
  unfold execRestartSample
  dsimp only
  rw [if_neg (by simp [timed]), if_neg (by simp [open_])]
  cases (s.safe.press1.sample r.ch1 s.now).since.isNone && (s.safe.press2.sample r.ch2 s.now).since.isNone <;> rfl

end

theorem Press.sample_pressed {p : Press} (free : p = {}) (now : Nat) : p.sample true now = { since := some now } := by
  subst free
  rfl

theorem Press.sample_released {p : Press} {t : Nat} (since : p.since = some t) (now : Nat) : p.sample false now = { last := some (t, now) } := by
  unfold Press.sample
  rw [since]

theorem Press.sample_idle {p : Press} (idle : p.since = none) (now : Nat) : p.sample false now = p := by
  unfold Press.sample
  rw [idle]

/-- The edge of a press that only one channel has measured (R275). -/
theorem Safe.edge_of_single {f : Safe} (single : f.press1.last = none ∨ f.press2.last = none) : f.edge = none := by
  unfold Safe.edge
  rcases single with h | h
  · rw [h]
  · rw [h]
    cases f.press1.last <;> rfl

theorem Safe.edge_of_both {f : Safe} {a b : Nat × Nat} (first : f.press1.last = some a) (second : f.press2.last = some b) :
    f.edge = some (pressOk a && pressOk b && decide (a.2 ≤ b.2 + 1000000) && decide (b.2 ≤ a.2 + 1000000)) := by
  rw [Safe.edge, first, second]

theorem pressOk_iff (a b : Nat) : pressOk (a, b) = true ↔ a + 50000000 ≤ b ∧ b ≤ a + 3000000000 := by
  simp [pressOk]

/-- Both channels measured the press, and saw its release together (R275). -/
theorem press_counts_iff (t1 t2 now : Nat) : (pressOk (t1, now) && pressOk (t2, now) && decide (now ≤ now + 1000000) && decide (now ≤ now + 1000000)) = true ↔
    (t1 + 50000000 ≤ now ∧ now ≤ t1 + 3000000000) ∧ t2 + 50000000 ≤ now ∧ now ≤ t2 + 3000000000 := by
  simp [← pressOk_iff]

section
variable {s u : State} {f : Safe} (safe : f = s.safe)
include safe

/-- Both channels see the release of a press that both measure. -/
theorem execRestartSample_of_release {t1 t2 : Nat} (heads : s.md.mode.heads = true) (first : f.press1.since = some t1) (second : f.press2.since = some t2)
    (open_ : f.held = false) (after : u = { s with safe := { f with press1 := {}, press2 := {}, stuck := false } }) :
    execRestartSample ⟨false, false⟩ s = .next (if pressOk (t1, s.now) && pressOk (t2, s.now) && decide (s.now ≤ s.now + 1000000) &&
      decide (s.now ≤ s.now + 1000000) then u.rearm.serve else u) := by
  rw [execRestartSample_of_open safe (Mode.timed_of_heads heads) open_ (Press.sample_released first _) (Press.sample_released second _) rfl,
    Safe.edge_of_both rfl rfl]
  dsimp only
  rw [heads, Bool.and_true, after]
  rfl

/-- The second channel sees the release more than 1 ms after the first (R275). -/
theorem execRestartSample_of_apart {t1 e1 t2 : Nat} (heads : s.md.mode.heads = true) (idle : f.press1.since = none)
    (first : f.press1.last = some (t1, e1)) (second : f.press2.since = some t2) (open_ : f.held = false)
    (after : u = { s with safe := { f with press1 := {}, press2 := {}, stuck := false } }) (apart : e1 + 1000000 < s.now) :
    execRestartSample ⟨false, false⟩ s = .next u := by
  have late : decide (s.now ≤ e1 + 1000000) = false := decide_eq_false (by omega)
  have edge := Safe.edge_of_both (f := { f with press1 := f.press1, press2 := { last := some (t2, s.now) } }) first rfl
  rw [execRestartSample_of_open safe (Mode.timed_of_heads heads) open_ (Press.sample_idle idle _) (Press.sample_released second _) rfl, edge]
  dsimp only
  rw [late, Bool.and_false, Bool.false_and, if_neg Bool.false_ne_true, after, idle]
  rfl

theorem execRestartSample_of_first {t1 : Nat} (timed : s.md.mode.timed = true) (first : f.press1.since = some t1) (second : f.press2 = {})
    (open_ : f.held = false) :
    execRestartSample ⟨false, false⟩ s = .next { s with safe := { f with press1 := { last := some (t1, s.now) }, stuck := false } } := by
  have idle : f.press2.since = none := by rw [second]
  rw [execRestartSample_of_open safe timed open_ (Press.sample_released first _) (Press.sample_idle idle _) rfl,
    Safe.edge_of_single (.inr (by rw [second]))]
  dsimp only
  rw [idle]
  rfl

theorem execRestartSample_of_press (timed : s.md.mode.timed = true) (first : f.press1 = {}) (second : f.press2 = {}) (open_ : f.held = false) :
    execRestartSample ⟨true, true⟩ s =
      .next { s with safe := { f with press1 := { since := some s.now }, press2 := { since := some s.now } } } := by
  rw [execRestartSample_of_open safe timed open_ (Press.sample_pressed first _) (Press.sample_pressed second _) rfl,
    Safe.edge_of_single (.inl rfl)]
  rfl

theorem execRestartStuck_of_pressed {t : Nat} (pressed : f.pressedSince = some t) (fresh : f.stuck = false)
    (at_ : u = { s.to (3000000000 + t) with safe := { f with stuck := true } }) : execRestartStuck s = .next (u.raise 92 0 0) := by
  subst safe
  unfold execRestartStuck
  rw [pressed]
  dsimp only
  rw [if_neg (by simp [fresh]), State.to_safe, ← at_]

theorem execRestartStuck_of_free (free : f.pressedSince = none) : execRestartStuck s = .next s := by
  subst safe
  unfold execRestartStuck
  rw [free]

end

/-! ## The tests of the output pairs -/

theorem Safe.side_eq (f : Safe) (p : Nat) (b : Bool) : f.side p b = (if b then f.sideB else f.sideA).testBit p := by
  cases b <;> rfl

section
variable {s u : State} {f : Safe} (safe : f = s.safe) {p : Fin 4} {b : Bool} {t : Nat} {r : Readback} (start : t = r.start)
  (at_ : u = s.by (100000 + t + fld f.w1 25 16 * 1000))
include safe start at_

/-- An off-pulse row of an energised side whose test has not expired (R273, R276). -/
theorem execOffPulseTest_of_energised (alive : u.testExpires = u) (on : (if b then f.sideB else f.sideA).testBit p.val = true) :
    execOffPulseTest p b r s = .next (if (f.test.pairs.testBit p.val || f.pulseDue p.val b t) = false then u
      else if f.pulseOk r = false then u.outFail p.val b
      else if f.test.pairs.testBit p.val then u.testPassed p.val b else u) := by
  unfold execOffPulseTest
  dsimp only
  rw [← safe, ← start, ← at_, alive]
  have same : u.safe = f := by rw [at_, safe, State.by_safe]
  rw [same, Safe.side_eq, on]
  cases f.test.pairs.testBit p.val <;> cases f.pulseDue p.val b t <;> cases f.pulseOk r <;> rfl

end

/-- A read-back that differs from a command that has stood fails the pair (R273, R274). -/
theorem execOutTestFail_of_differs {s : State} {f : Safe} {p : Fin 4} {b x : Bool} (safe : f = s.safe) (timed : s.md.mode.timed = true)
    (sound : f.pairFault.testBit p.val = false) (differs : x ≠ (if b then f.sideB else f.sideA).testBit p.val)
    (stood : Tbl.get 0 f.changedAt p.val + 100000 ≤ s.now) : execOutTestFail p b x s = .next (s.outFail p.val b) := by
  subst safe
  refine congrArg Host.Outcome.next (if_pos ?_)
  rw [Safe.side_eq]
  simp [timed, sound, differs, stood]

theorem execOutTestFail_of_agrees {s : State} {f : Safe} {p : Fin 4} {b x : Bool} (safe : f = s.safe)
    (idle : f.pairFault.testBit p.val = true ∨ x = (if b then f.sideB else f.sideA).testBit p.val ∨ s.now < Tbl.get 0 f.changedAt p.val + 100000) :
    execOutTestFail p b x s = .next s := by
  subst safe
  refine congrArg Host.Outcome.next (if_neg ?_)
  rw [Safe.side_eq]
  rcases idle with h | h | h
  · simp [h]
  · simp [h]
  · simp [Nat.not_le.mpr h]

/-- A standby does not head. -/
theorem Mode.heads_of_standby {m : Mode} (standby : m = .runStandby) : m.heads = false := by
  rw [standby]
  rfl

section
variable {s u : State} {f : Safe} {j rc n : Nat} (safe : f = s.safe) (runs : s.safeRuns = true) (next : j = f.nextCycle s.now)
  (untested : f.test.pairs = 0) (at_ : u = s.to (f.sAt j)) (unit : n = 16000 * max f.tSafe 1)
include safe runs next untested at_ unit

/-- S(j) with a good RC count. -/
theorem safeCycleStart_of_band (good : f.begun = false ∨ (95 * n ≤ 100 * rc ∧ 100 * rc ≤ 105 * n)) :
    Goes (.safeCycleStart rc) s (u.openCycle j) := by
  have row := goes_safeCycleStart (execSafeCycleStart_of_runs safe rc runs next untested at_)
  rwa [if_pos (Safe.rcOk_of_band unit good)] at row

/-- S(j) with an RC count off by more than 5 per cent: internal fault 3 (R281). -/
theorem safeCycleStart_of_off (begun : f.begun = true) (off : 100 * rc < 95 * n ∨ 105 * n < 100 * rc) :
    Goes (.safeCycleStart rc) s ((u.internalFault 3).openCycle j) := by
  have row := goes_safeCycleStart (execSafeCycleStart_of_runs safe rc runs next untested at_)
  rwa [if_neg (Safe.rcOk_of_off unit begun off)] at row

end

/-- Settles O47: each row of the safety unit, the start of a cycle through `State.openCycle` and a press through the edge of both channels. -/
theorem safeEvents : Obligations.SafeEvents := by
  unfold Obligations.SafeEvents
  intro s u f safe
  refine ⟨?_, ?_, ?_, ?_, ?_, ?_, ?_, ?_, ?_, ?_, ?_, execRestartStuck_of_free safe, ?_, ?_⟩
  · intro j rc n v g runs next untested at_ unit
    refine ⟨fun good => ?_, fun begun off faulted opened => ?_⟩
    · have row := safeCycleStart_of_band safe runs next untested at_ unit good
      have same : u.safe = f := by rw [at_, safe, State.to_safe]
      have mode : u.md = s.md := by rw [at_, State.to_md]
      have faults : u.faults = s.faults := by rw [at_, State.to_faults]
      refine ⟨fun heads configured sends => goes_of_eq row ?_, fun standby => goes_of_eq row ?_⟩
      · rw [State.openCycle_of_sends_pdu same (by rwa [mode]) configured (by rwa [faults])]
        rfl
      · rw [State.openCycle_of_silent (.inl (by rw [mode]; exact Mode.heads_of_standby standby)), same]
        rfl
    · have row := safeCycleStart_of_off safe runs next untested at_ unit begun off
      rw [← faulted] at row
      obtain rfl : g = v.safe.opened j := opened
      exact ⟨fun heads configured sends => goes_of_eq row (State.openCycle_of_sends heads configured sends),
        fun silent => goes_of_eq row (State.openCycle_of_silent silent)⟩
  · intro v runs begun open_
    exact ⟨execSafeEvaluation_of_open safe v runs begun open_, execSafeExchangeTimeout_of_open safe runs begun open_⟩
  · intro a b g configure sampled
    exact (execSafeInputSample_of_timed safe (by rw [configure]; rfl) sampled).trans (if_pos (by rw [State.safeRuns, configure]; rfl))
  · intro a b g standby sampled
    refine (execSafeInputSample_of_timed safe (by rw [standby]; rfl) sampled).trans ((if_neg (by rw [State.safeRuns, standby]; decide)).trans ?_)
    exact congrArg Host.Outcome.next (if_neg (by rw [standby]; decide))
  · rintro a b g v heads sampled rfl
    refine (execSafeInputSample_of_timed safe (Mode.timed_of_heads heads) sampled).trans ((if_neg (by simp [State.safeRuns, heads])).trans ?_)
    exact congrArg Host.Outcome.next (if_pos heads)
  · intro m x t input since used fresh differ at_
    have row : Goes (.siDiscrepancy m) s _ := execSiDiscrepancy_of_since safe input since used fresh differ at_
    exact ⟨fun runs => goes_of_eq row (if_pos runs), fun off => goes_of_eq row (if_neg (by simp [off]))⟩
  · exact execRestartSample_of_press safe
  · intro t1 t2 heads first second open_ after
    have row : Goes (.restartSample ⟨false, false⟩) s _ := execRestartSample_of_release safe heads first second open_ after
    refine ⟨fun low1 high1 low2 high2 => goes_of_eq row (if_pos ((press_counts_iff _ _ _).mpr ⟨⟨low1, high1⟩, low2, high2⟩)),
      fun out => goes_of_eq row (if_neg (fun counts => ?_))⟩
    obtain ⟨⟨low1, high1⟩, low2, high2⟩ := (press_counts_iff _ _ _).mp counts
    omega
  · intro t1 e1 t2 heads idle first second open_ after apart
    exact execRestartSample_of_apart safe heads idle first second open_ after apart
  · intro t1 timed first second open_
    exact execRestartSample_of_first safe timed first second open_
  · intro t pressed fresh at_
    exact execRestartStuck_of_pressed safe pressed fresh at_
  · intro p b t r start at_ on
    have row (alive : u.testExpires = u) : Goes (.offPulseTest p b r) s _ := execOffPulseTest_of_energised safe start at_ alive on
    have same : u.safe = f := by rw [at_, safe, State.by_safe]
    have idle (none : f.test.pairs = 0) : u.testExpires = u := State.testExpires_of_none (same ▸ none)
    have plain (none : f.test.pairs = 0) : f.test.pairs.testBit p.val = false := by rw [none, Nat.zero_testBit]
    refine ⟨fun none due => ⟨fun bad => goes_of_eq (row (idle none)) ?_, fun good => goes_of_eq (row (idle none)) ?_⟩,
      fun none early => goes_of_eq (row (idle none)) ?_, fun tested early => ?_⟩
    · rw [due, Bool.or_true, if_neg Bool.true_eq_false.mp, if_pos bad]
    · rw [due, Bool.or_true, if_neg Bool.true_eq_false.mp, if_neg (by simp [good]), plain none]
      rfl
    · rw [early, plain none]
      rfl
    · have alive : u.testExpires = u := State.testExpires_of_early (same ▸ early)
      refine ⟨fun bad => goes_of_eq (row alive) ?_, fun good => goes_of_eq (row alive) ?_⟩
      · rw [tested, Bool.true_or, if_neg Bool.true_eq_false.mp, if_pos bad]
      · rw [tested, Bool.true_or, if_neg Bool.true_eq_false.mp, if_neg (by simp [good])]
        rfl
  · intro p b x timed
    exact ⟨execOutTestFail_of_differs safe timed, execOutTestFail_of_agrees safe⟩

end Sys2Proof.Machine

/-!
PROOF. The arbiter, trace records, the fault log and awaited completions (R193, R363, R365, R374, R384, R390, R400, R401, R411).
-/
namespace Sys2Proof.Machine

/-! ## The arbiter -/

section
variable {s u : State} {x y : ArbRes} {w : Nat}

/-- A free resource goes to the best request (R400). -/
theorem State.arbGrant_of_best {r : Nat} {q : ArbReq} (res : x = s.arb.get r) (free : x.holder = none)
    (best : bestReq s.now (x.raised.filter (fun q => !x.ignored.contains q.who && !s.arb.holds q.who)) = some q)
    (new : y = { x with holder := some q.who, since := s.now, frames := 0, cut := false, raised := x.raised.filter (fun y => y.who != q.who) }) :
    s.arbGrant r = { s with arb := s.arb.put r y } := by
  subst res new
  unfold State.arbGrant
  dsimp only
  rw [if_neg (by simp [free]), best]

theorem State.arbGrant_of_none {r : Nat} (res : x = s.arb.get r)
    (none : bestReq s.now (x.raised.filter (fun q => !x.ignored.contains q.who && !s.arb.holds q.who)) = Option.none) : s.arbGrant r = s := by
  subst res
  unfold State.arbGrant
  dsimp only
  rw [none]
  exact ite_self _

theorem execArbiterGrant_of_other {r : Fin 4} (other : r.val ≠ 0) : execArbiterGrant r s = .next (s.arbGrant r.val) :=
  congrArg Host.Outcome.next (if_neg other)

/-- A window is taken at its next fill, where its holder has had its frames (R401). -/
theorem execArbCutoff_of_window {r : Fin 4} (window : r.val = 1 ∨ r.val = 2) (res : x = s.arb.get r.val) (held : x.holder = some w) :
    execArbCutoff r s = .next (if fld s.arb.w1 15 0 ≤ x.frames then { s with arb := s.arb.put r.val { x with cut := true } } else s) := by
  subst res
  unfold execArbCutoff
  dsimp only
  rw [held]
  dsimp only
  rw [if_pos window, ← held]

theorem execArbCutoff_of_engine (res : x = s.arb.get 0) (held : x.holder = some w) (at_ : u = s.to (x.since + fld s.arb.w0 15 0 * 100000)) :
    execArbCutoff 0 s = .next (((u.arbCut 0 w).reraise (w - 2)).arbGrant 0).runHolder := by
  subst res
  unfold execArbCutoff
  have zero : (0 : Fin 4).val = 0 := rfl
  rw [zero]
  dsimp only
  rw [held]
  dsimp only
  rw [if_neg (by decide), Arbiter.holdNs, if_pos rfl, if_pos rfl, ← at_]

theorem execArbCutoff_of_bridge (res : x = s.arb.get 3) (held : x.holder = some w) (at_ : u = s.to (x.since + fld s.arb.w2 15 0 * 1000)) :
    execArbCutoff 3 s = .next ((((u.arbCut 3 w).heed 3 w).agentRaise w).arbGrant 3) := by
  subst res
  unfold execArbCutoff
  have three : (3 : Fin 4).val = 3 := rfl
  rw [three]
  dsimp only
  rw [held]
  dsimp only
  rw [if_neg (by decide), Arbiter.holdNs, if_neg (by decide), if_neg (by decide), ← at_]

end

/-! ## Records and the fault log -/

/-- The oldest staged record goes to the ring (R390): here while no trigger has been found. -/
theorem State.traceWrite_of_fits {s u : State} {r : StagedRec} {l : List StagedRec} {k : Trace} (staged : s.trace.stage = r :: l)
    (fits : s.chargeBytes 5 s.trace.recLen = some u) (armed : s.trace.st = 2) (noSlot : s.trace.trigSlot = none) (noSample : s.trace.trigSample = none)
    (after : k = { s.trace with stage := l, slots := s.trace.slots + 1, gaps := s.trace.gaps + b2n r.gap }) :
    s.traceWrite = { u with
      mem := { u.mem with trace := u.mem.trace.writeBytes (s.trace.slots % s.trace.slotCount * s.trace.recLen) (s.trace.slotData r false) }, trace := k } := by
  subst after
  unfold State.traceWrite
  dsimp only
  rw [staged, fits]
  simp [armed, noSlot, noSample]

theorem State.traceWrite_of_short {s : State} {r : StagedRec} {l : List StagedRec} (staged : s.trace.stage = r :: l)
    (short : s.chargeBytes 5 s.trace.recLen = none) : s.traceWrite = s.countDefer 5 := by
  unfold State.traceWrite
  dsimp only
  rw [staged, short]

theorem State.traceWrite_of_empty {s : State} (empty : s.trace.stage = []) : s.traceWrite = s := by
  unfold State.traceWrite
  dsimp only
  rw [empty]

section
variable {s u : State} {q : LogReq} {l : List LogReq} (asked : s.faults.log = q :: l) (rest : u = { s with faults := { s.faults with log := l } })
include asked rest

theorem execFaultLogWrite_of_last {e : Nat} (last : s.bbr.lastLog = some e) : execFaultLogWrite s =
    .next (u.bbrWrite 2 (0x300 + 4 * ((e + 1) % 32)) (q.words s.straps.cid (fld (s.bbr.logW e 3) 15 0 + 1))) := by
  unfold execFaultLogWrite
  rw [asked, last]
  dsimp only
  rw [← rest]

theorem execFaultLogWrite_of_first (empty : s.bbr.lastLog = none) :
    execFaultLogWrite s = .next (u.bbrWrite 2 0x300 (q.words s.straps.cid 0)) := by
  unfold execFaultLogWrite
  rw [asked, empty]
  dsimp only
  rw [← rest]

end

/-! ## Awaited completions -/

theorem execFlashOperationDone_of_write {s : State} {b : Bool} {off : Nat} {d : List Word} {m : MsgRef}
    (stage : s.fw.stage = some (.write b off d, m)) : execFlashOperationDone .done s =
      .next (({ s with fw := ({ s.fw with stage := none } : Fw).program b off d } : State).respond m stOk []).serve := by
  unfold execFlashOperationDone
  rw [stage]

theorem execFlashOperationDone_of_verify {s : State} {b : Bool} {m : MsgRef} {h : ImageHeader} {f : Fw} (stage : s.fw.stage = some (.verify b, m))
    (after : f = { s.fw with stage := none }) : execFlashOperationDone (.checked h) s =
      .next (if imageOk h then ({ s with fw := f.setSlot b ((f.slot b).checked h) } : State).respond m stOk
          [wd (h.version.toNat + at_ 16 h.svn.toNat), h.seq, h.length]
        else ({ s with fw := f.setSlot b ((f.slot b).checked h) } : State).respond m stAuthFail []).serve := by
  subst after
  unfold execFlashOperationDone
  rw [stage]

theorem execCoreTestDone_of_test {s : State} {k : Fin 16} {m : MsgRef} (passed : Bool) (test : s.power.coreTest = some (k.val, m)) :
    execCoreTestDone k passed s = .next
      (let u : State := if passed then { s with power := { s.power with coreTest := none }, sched := { s.sched with inService := putBit s.sched.inService k.val true } }
        else ({ s with power := { s.power with coreTest := none } } : State).fence k.val 5 none
      (u.respond m stOk [wd (bitAt 0 passed + bitAt 1 (u.sched.inService.testBit k.val))]).serve) := by
  unfold execCoreTestDone
  rw [test]
  dsimp only
  rw [if_neg (Classical.not_not.mpr rfl)]

theorem execModeSetTimeout_of_wait {s u : State} {m : MsgRef} {t : Nat} (waits : s.safe.waitArm = some (m, t))
    (at_ : u = { s.to (30000000000 + t) with safe := { s.safe with waitArm := none } }) :
    execModeSetTimeout s = .next (u.respond m stTimeout []).serve := by
  unfold execModeSetTimeout
  rw [waits]
  dsimp only
  rw [← at_]

/-- Settles O48: the arbiter by its best request, the records and the log by what waits, and the completions by their command. -/
theorem arbiterLogAndStageEvents : Obligations.ArbiterLogAndStageEvents := by
  unfold Obligations.ArbiterLogAndStageEvents
  intro s u
  refine ⟨?_, ?_, ?_, ?_, ?_, ?_, ?_, ?_, ?_, ?_, ?_, ?_, ?_⟩
  · intro r x res other free
    have row : Goes (.arbiterGrant r) s _ := execArbiterGrant_of_other other
    exact ⟨fun q y best new => goes_of_eq row (State.arbGrant_of_best res free best new),
      fun none => goes_of_eq row (State.arbGrant_of_none res none)⟩
  · rintro x y q w res free best new rfl
    exact congrArg (fun v : State => Host.Outcome.next v.runHolder) (State.arbGrant_of_best res free best new)
  · intro r x w window res held
    have row : Goes (.arbCutoff r) s _ := execArbCutoff_of_window window res held
    exact ⟨fun full => goes_of_eq row (if_pos full), fun few => goes_of_eq row (if_neg (Nat.not_le.mpr few))⟩
  · intro x w res held at_
    exact execArbCutoff_of_engine res held at_
  · intro x w res held at_
    exact execArbCutoff_of_bridge res held at_
  · intro r l k staged fits armed noSlot noSample after
    exact congrArg Host.Outcome.next (State.traceWrite_of_fits staged fits armed noSlot noSample after)
  · intro r l staged short
    exact congrArg Host.Outcome.next (State.traceWrite_of_short staged short)
  · intro empty
    exact congrArg Host.Outcome.next (State.traceWrite_of_empty empty)
  · intro q l asked rest
    exact ⟨fun e last => execFaultLogWrite_of_last asked rest last, execFaultLogWrite_of_first asked rest⟩
  · rintro b off d m f stage rfl
    exact execFlashOperationDone_of_write stage
  · rintro b m f h stage after rfl
    have row : Goes (.flashOperationDone (.checked h)) s _ := execFlashOperationDone_of_verify stage after
    exact ⟨fun good => goes_of_eq row (by rw [if_pos good]), fun bad => goes_of_eq row (by rw [if_neg (by simp [bad])])⟩
  · intro k m test
    refine ⟨?_, ?_⟩
    · rintro rfl
      exact execCoreTestDone_of_test true test
    · rintro rfl
      refine goes_of_eq (execCoreTestDone_of_test false test) ?_
      rw [show bitAt 0 false = 0 from rfl]
      simp only [Nat.zero_add]
      rfl
  · intro m t waits at_
    exact execModeSetTimeout_of_wait waits at_

end Sys2Proof.Machine

/-!
PROOF. The supervisors and the detectors (R28, R281, R409, R415, R426).
-/
namespace Sys2Proof.Machine

/-! ## The supervisors and the oscillator -/

theorem execHardwareWatchdog_of_silent {s : State} (timed : s.md.mode.timed = true) (runs : s.host.fwRunning = true) (alone : s.twinReady = false) :
    execHardwareWatchdog s = .next (s.enterReset true false) :=
  congrArg Host.Outcome.next (if_pos (by simp [timed, runs, alone]))

theorem execHardwareWatchdog_of_idle {s : State} (idle : s.host.fwRunning = false ∨ s.twinReady = true) : execHardwareWatchdog s = .next s := by
  refine congrArg Host.Outcome.next (if_neg ?_)
  rcases idle with h | h <;> simp [h]

theorem execOscFault_of_bad {s : State} {lost : Bool} {ppm : Int} (timed : s.md.mode.timed = true) (good : s.faults.oscBad = false)
    (bad : lost = true ∨ 5000 < ppm.natAbs) : execOscFault lost ppm s =
      .next (((({ s with faults := { s.faults with oscBad := true } } : State).drivePairs).raise 3
        (bitAt 0 lost + bitAt 1 (decide (5000 < ppm.natAbs))) (ubits 32 ppm)).fixedFault 22 0 5) := by
  refine if_neg ?_
  rcases bad with h | h
  · simp [timed, good, h]
  · simp [timed, good, Nat.not_le.mpr h]

theorem execOscFault_of_good {s : State} {ppm : Int} (good : ppm.natAbs ≤ 5000) : execOscFault false ppm s = .next s :=
  if_pos (by simp [good])

/-! ## Rails, temperature and VBAT -/

/-- A rail with its warning and its fault judged as `w` and `f` (R415). -/
theorem execSupplyDetector_of_judged {s : State} {r : Fin 6} {mv : Nat} {w f : Bool} (timed : s.md.mode.timed = true)
    (warns : railWarns r.val mv = w) (fails : railFails r.val mv = f) : execSupplyDetector r mv s = .next
      (let u : State := { s with power := { s.power with railWarn := putBit s.power.railWarn r.val w, railFault := putBit s.power.railFault r.val f } }
      let v := if w && !s.power.railWarn.testBit r.val then u.raise 4 r.val mv else u
      if f && !s.power.railFault.testBit r.val then v.occur 19 r.val (fun _ => some (5, r.val, mv)) else v) := by
  subst warns fails
  exact if_neg (by simp [timed])

/-- The thresholds of VCORE, and those below nominal of VIO33 (Table 17.5). -/
theorem railWarns_vcore {mv : Nat} (low : 720 ≤ mv) (high : mv < 760) : railWarns 0 mv = true ∧ railFails 0 mv = false := by
  simp only [railWarns, railFails, if_true, Bool.or_eq_true, Bool.or_eq_false_iff, decide_eq_true_eq, decide_eq_false_iff_not]
  omega

theorem railWarns_vio33 {mv : Nat} (low : mv < 2970) : railWarns 2 mv = true ∧ railFails 2 mv = true := by
  have nominal : railNominal 2 = 3300 := rfl
  simp only [railWarns, railFails, nominal, Nat.reduceEqDiff, if_false, Bool.or_eq_true, decide_eq_true_eq]
  omega

/-- A temperature with its levels judged as `w` and `f` (R415). -/
theorem execTempDetector_of_judged {s : State} {tj : Int} {w f : Bool} (timed : s.md.mode.timed = true)
    (warns : tempLevel s.power.tempWarn 1150 tj = w) (fails : tempLevel s.power.tempFault 1280 tj = f) : execTempDetector tj s = .next
      (let u : State := { s with power := { s.power with tempWarn := w, tempFault := f } }
      let v := if w = s.power.tempWarn then u else u.raise 6 (b2n w) (ubits 32 tj)
      if f = s.power.tempFault then v
      else if f then v.occur 20 0 (fun _ => some (7, 1, ubits 32 tj)) else v.raise 7 0 (ubits 32 tj)) := by
  subst warns fails
  exact if_neg (by simp [timed])

theorem tempLevel_of_high {limit tj : Int} (old : Bool) (high : limit ≤ tj) : tempLevel old limit tj = true := if_pos high

theorem tempLevel_of_low {limit tj : Int} (old : Bool) (low : tj ≤ limit - 50) : tempLevel old limit tj = false := by
  rw [tempLevel, if_neg (by omega), if_pos low]

theorem tempLevel_of_between {limit tj : Int} (old : Bool) (low : limit - 50 < tj) (high : tj < limit) : tempLevel old limit tj = old := by
  rw [tempLevel, if_neg (by omega), if_neg (by omega)]

section
variable {s : State} {tj : Int} (timed : s.md.mode.timed = true) (sound : s.power.tempFault = false)
include timed sound

theorem tempDetector_warns (low : 1150 ≤ tj) (high : tj ≤ 1230) (cool : s.power.tempWarn = false) :
    execTempDetector tj s = .next (({ s with power := { s.power with tempWarn := true } } : State).raise 6 1 (ubits 32 tj)) := by
  rw [execTempDetector_of_judged timed (tempLevel_of_high _ low) ((tempLevel_of_low _ (by omega)).trans sound.symm)]
  dsimp only
  rw [if_pos rfl, cool, if_neg (by decide)]
  rfl

theorem tempDetector_cools (low : tj ≤ 1100) (warm : s.power.tempWarn = true) :
    execTempDetector tj s = .next (({ s with power := { s.power with tempWarn := false } } : State).raise 6 0 (ubits 32 tj)) := by
  rw [execTempDetector_of_judged timed (tempLevel_of_low _ (by omega)) ((tempLevel_of_low _ (by omega)).trans sound.symm)]
  dsimp only
  rw [if_pos rfl, warm, if_neg (by decide)]
  rfl

theorem tempDetector_stays (low : 1100 < tj) (high : tj < 1150) : execTempDetector tj s = .next s := by
  rw [execTempDetector_of_judged timed (tempLevel_of_between _ (by omega) high) ((tempLevel_of_low _ (by omega)).trans sound.symm)]
  dsimp only
  rw [if_pos rfl, if_pos rfl]

theorem tempDetector_fails (high : 1280 ≤ tj) (warm : s.power.tempWarn = true) : execTempDetector tj s =
    .next (({ s with power := { s.power with tempFault := true } } : State).occur 20 0 (fun _ => some (7, 1, ubits 32 tj))) := by
  rw [execTempDetector_of_judged timed ((tempLevel_of_high _ (by omega)).trans warm.symm) (tempLevel_of_high _ high)]
  dsimp only
  rw [if_pos rfl, sound, if_neg (by decide), if_pos rfl]

end

section
variable {s : State} {mv : Nat} (timed : s.md.mode.timed = true)
include timed

theorem execVbatLow_of_low (low : mv < 1900) (fresh : s.power.vbatLow = false) :
    execVbatLow mv s = .next (({ s with power := { s.power with vbatLow := true } } : State).raise 8 0 mv) := by
  unfold execVbatLow
  dsimp only
  rw [if_neg (by simp [timed]), decide_eq_true low, if_pos (by simp [fresh])]

theorem execVbatLow_of_good (good : 1900 ≤ mv) : execVbatLow mv s = .next { s with power := { s.power with vbatLow := false } } := by
  unfold execVbatLow
  dsimp only
  rw [if_neg (by simp [timed]), decide_eq_false (Nat.not_lt.mpr good)]
  rfl

/-! ## Memory errors -/

theorem execMemEccError_of_corrected {a : Fin 5} (off : Nat) (other : a.val < 4) : execMemEccError a false off s =
    .next (({ s with power := { s.power with eccCorr := Tbl.put s.power.eccCorr a.val (cadd (Tbl.get 0 s.power.eccCorr a.val) 1) } } : State).occur 17 a.val
      (fun st => some (126, a.val, st))) := by
  refine (if_neg (by simp [timed])).trans ((if_pos rfl).trans (congrArg Host.Outcome.next ?_))
  exact if_pos other

theorem execMemEccError_of_uncorrectable {a : Fin 5} (off : Nat) (other : a.val < 4) : execMemEccError a true off s =
    .next (({ s with power := { s.power with eccUnc := cadd s.power.eccUnc 1 } } : State).occur 18 a.val
      (fun _ => some (127, a.val, off % 2 ^ 32))) :=
  (if_neg (by simp [timed])).trans ((if_neg (by decide)).trans (if_neg (by omega)))

theorem execMemEccError_of_safety (off : Nat) : execMemEccError 4 true off s = .next (s.internalFault 4) :=
  (if_neg (by simp [timed])).trans ((if_neg (by decide)).trans (if_pos rfl))

end

/-- Settles O49: each detector by the thresholds its reading lies within. -/
theorem detectorEvents : Obligations.DetectorEvents := by
  unfold Obligations.DetectorEvents
  intro s u v
  refine ⟨fun runs => congrArg Host.Outcome.next (if_pos runs), ?_, execHardwareWatchdog_of_silent,
    fun ready => execHardwareWatchdog_of_idle (.inr ready), ?_, fun ppm good => execOscFault_of_good good, ?_, ?_, ?_, ?_, ?_, ?_⟩
  · intro off
    exact ⟨congrArg Host.Outcome.next (if_neg (by simp [off])), execHardwareWatchdog_of_idle (.inl off)⟩
  · rintro lost ppm timed good rfl bad
    exact execOscFault_of_bad timed good bad
  · rintro mv timed rfl low high fresh
    obtain ⟨warns, fails⟩ := railWarns_vcore low high
    refine goes_of_eq (execSupplyDetector_of_judged (r := 0) timed warns fails) ?_
    dsimp only
    rw [if_neg (by simp)]
    exact if_pos (congrArg not fresh)
  · rintro mv timed rfl low known fresh
    obtain ⟨warns, fails⟩ := railWarns_vio33 low
    refine goes_of_eq (execSupplyDetector_of_judged (r := 2) timed warns fails) ?_
    dsimp only
    refine (if_pos (congrArg not fresh)).trans ?_
    rw [if_neg]
    · rfl
    · exact ne_true_of_eq_false (congrArg not known)
  · intro r mv timed warns fails
    exact execSupplyDetector_of_judged timed warns fails
  · intro tj timed sound
    refine ⟨?_, ?_, tempDetector_stays timed sound, ?_⟩
    · rintro low high cool rfl
      exact tempDetector_warns timed sound low high cool
    · rintro low warm rfl
      exact tempDetector_cools timed sound low warm
    · rintro high warm rfl
      exact tempDetector_fails timed sound high warm
  · intro mv timed
    exact ⟨execVbatLow_of_low timed, execVbatLow_of_good timed⟩
  · intro a off timed
    refine ⟨?_, ?_, execMemEccError_of_safety timed off, congrArg Host.Outcome.next (if_pos timed), congrArg Host.Outcome.next (if_pos timed)⟩
    · rintro other rfl
      exact execMemEccError_of_corrected timed off other
    · rintro other rfl
      exact execMemEccError_of_uncorrectable timed off other

end Sys2Proof.Machine

/-!
PROOF. Power, resets and BOOT (R361 to R364, R402, R420, R422, R423, R425, R427, R428, R434, R436, R444, R447).
-/
namespace Sys2Proof.Machine

/-! ## Power and resets -/

/-- Settles O50: each row by the mode, the reset through `State.enterReset`. -/
theorem powerEvents : Obligations.PowerEvents := by
  unfold Obligations.PowerEvents
  intro s t
  refine ⟨?_, fun dormant => congrArg Host.Outcome.next (if_pos dormant), fun x reset => congrArg Host.Outcome.next (if_neg (Classical.not_not.mpr reset)),
    fun x other => congrArg Host.Outcome.next (if_pos other), ?_, ?_, ?_, fun b dormant => if_pos dormant,
    fun dormant => congrArg Host.Outcome.next (if_neg (Classical.not_not.mpr dormant)), ?_, fun b => rfl,
    fun dormant => congrArg Host.Outcome.next (if_pos dormant), fun awake => congrArg Host.Outcome.next (if_neg awake), ?_, ?_⟩
  · rintro awake rfl
    exact congrArg Host.Outcome.next (if_neg awake)
  · rintro r d reset rfl
    have row : Goes .sysResetExpiry s _ := rfl
    refine goes_of_eq row ?_
    rw [reset]
    rfl
  · intro none
    have row : Goes .sysResetExpiry s _ := rfl
    refine goes_of_eq row ?_
    rw [none]
  · intro awake
    refine ⟨?_, ?_⟩
    · rintro rfl
      exact if_neg awake
    · rintro rfl
      exact if_neg awake
  · intro awake
    exact ⟨congrArg Host.Outcome.next (if_pos awake), congrArg Host.Outcome.next (if_neg awake)⟩
  · rintro extest rfl
    exact congrArg Host.Outcome.next (if_pos extest)
  · intro plain
    exact congrArg Host.Outcome.next (if_neg (by simp [plain]))

/-! ## BOOT -/

section
variable {s u : State} (boot : s.md.mode = .boot)
include boot

theorem execMemoryClearDone_of_retained (clearing : s.md.clearing = true) (awake : s.md.asleep = false) (kept : s.md.retained = true)
    (image : s.straps.bootsel ≠ 3) : execMemoryClearDone s = .next { s with md := { s.md with clearing := false } } := by
  unfold execMemoryClearDone
  rw [if_neg (by simp [boot, clearing, awake])]
  dsimp only
  rw [if_pos kept]
  exact congrArg Host.Outcome.next (if_neg image)

theorem execMemoryClearDone_of_cleared (clearing : s.md.clearing = true) (awake : s.md.asleep = false) (fresh : s.md.retained = false)
    (cleared : u = { s with
      md := { s.md with clearing := false }, mem := {}, host := { s.host with cmdMem := [], rspMem := [], evtMem := [] }
      can := { s.can with p0 := { s.can.p0 with txMem := [], rxMem := [] }, p1 := { s.can.p1 with txMem := [], rxMem := [] } } }) :
    execMemoryClearDone s = .next (if s.straps.bootsel = 3 then u.enterLoader else u) := by
  unfold execMemoryClearDone
  rw [if_neg (by simp [boot, clearing, awake])]
  dsimp only
  have lost : ¬ s.md.retained = true := by simp [fresh]
  have straps : u.straps = s.straps := by rw [cleared]
  rw [if_neg lost, ← cleared, straps]

section
variable {h : ImageHeader} (settled : s.md.clearing = false) (image : s.host.loader = false) (open_ : s.md.imageOk = false)
  (due : s.imageDue h.slotB = true)
include settled image open_ due

theorem execImageVerified_of_good (good : imageOk h = true) : execImageVerified h s = .next { s with
    fw := s.fw.setSlot h.slotB ((s.fw.slot h.slotB).checked h)
    md := { s.md with imageOk := true }, host := { s.host with imageB := h.slotB, fallback := s.md.tried != 0 } } := by
  unfold execImageVerified
  rw [if_neg (by simp [boot, settled, image, open_, due])]
  exact congrArg Host.Outcome.next (if_pos good)

theorem execImageVerified_of_bad (bad : imageOk h = false) (tried : u = { s with
      fw := s.fw.setSlot h.slotB ((s.fw.slot h.slotB).checked h)
      md := { s.md with tried := putBit s.md.tried (b2n h.slotB) true } }) :
    execImageVerified h s = .next (if u.allTried then u.enterLoader else u) := by
  subst tried
  unfold execImageVerified
  rw [if_neg (by simp [boot, settled, image, open_, due])]
  exact congrArg Host.Outcome.next (if_neg (by simp [bad]))

end

/-- The self-test's result, with its cores fenced (R423). -/
theorem execSelfTestDone_of_boot {f : SelfTest} {v : State} (image : s.md.imageOk = true) (open_ : s.md.tested = false)
    (fenced : v = (setBits 16 f.cores.toNat).foldl (fun t k => t.fence k 4 none) s)
    (told : u = { v with
      md := { v.md with
        tested := true, safetyBad := f.safety, hardwired := f.hardwired
        selfTest := f.cores.toNat + bitAt 16 f.convS + bitAt 17 f.convP }
      pins := { v.pins with convS := { v.pins.convS with off := f.convS }, convP := { v.pins.convP with off := f.convP } } }) :
    execSelfTestDone f s = .next (if f.safety then u.internalFault 4 else if f.hardwired then u.internalFault 5 else u) := by
  subst fenced told
  exact if_neg (by simp [boot, image, open_])

/-- The end of BOOT (R361, R402, R420, R434): `u` in CONFIGURE, `v` with event 1, `w` with the seals checked, `x` with what the self-test
found. -/
theorem execBootDone_of_limits {g : Nat} {b : Arbiter} {v w x : State} (tested : s.md.tested = true) (image : s.host.loader = false)
    (gear : g = s.bootGear) (arb : b = s.arbLimits) (limits : s.limitsOk g s.ch0.active s.ch1.active = true) (currents : s.curAxesOk g = true)
    (configure : u = ({ s with
        md := { s.md with bootDone := true }
        host := { s.host with fwRunning := true, mbxReady := true }
        env := { s.env with inForce := (List.range 512).map (fun k => (k, s.bbr.word (0x100 + k))) }
        arb := b, clk := { s.clk with gear := g }
        room := { s.room with slackLast := (tcOf g : Nat), slackMin := (tcOf g : Nat), projLast := (tcOf g : Nat), projMin := (tcOf g : Nat) }
        faults := { s.faults with hbTime := s.now, hbNow := false } } : State).enter .configure 6)
    (told : v = (u.raise 1 (bitAt 0 u.host.imageB + bitAt 1 u.host.fallback + bitAt 2 u.md.retained) u.md.selfTest))
    (sealed : w = [0, 1, 2, 3].foldl (fun t r => t.checkSeal r true) v)
    (found : x = w.raiseAll ((if w.md.safetyBad then [(93, 4, 0)] else []) ++ (if w.md.hardwired then [(93, 5, 0)] else []))) :
    execBootDone s = .next (if x.md.linkSeen then x.raise 11 (x.host.gen + bitAt 2 x.host.x2) 0 else x) := by
  have gears : (if s.limitsOk s.bootGear s.ch0.active s.ch1.active && s.curAxesOk s.bootGear then s.bootGear else 2) = g := by
    rw [← gear, limits, currents]
    rfl
  unfold execBootDone
  rw [if_neg (by simp [boot, tested, image])]
  dsimp only
  rw [gears, ← arb, State.envAtBoot, ← configure, ← told, ← sealed, ← found]

end

/-- Settles O51: each row of BOOT by how far BOOT has come. -/
theorem bootEvents : Obligations.BootEvents := by
  unfold Obligations.BootEvents
  intro s u v boot
  refine ⟨congrArg Host.Outcome.next (if_pos boot), execMemoryClearDone_of_retained boot, ?_, ?_, ?_, ?_⟩
  · intro clearing awake fresh cleared
    have row : Goes .memoryClearDone s _ := execMemoryClearDone_of_cleared boot clearing awake fresh cleared
    exact ⟨fun image => goes_of_eq row (if_neg image), fun loader => goes_of_eq row (if_pos loader)⟩
  · intro h settled image open_ due
    refine ⟨execImageVerified_of_good boot settled image open_ due, fun bad tried => ?_⟩
    have row : Goes (.imageVerified h) s _ := execImageVerified_of_bad boot settled image open_ due bad tried
    exact ⟨fun all => goes_of_eq row (if_pos all), fun left => goes_of_eq row (if_neg (by simp [left]))⟩
  · intro f image open_ fenced told
    have row : Goes (.selfTestDone f) s _ := execSelfTestDone_of_boot boot image open_ fenced told
    refine ⟨fun sound wired => goes_of_eq row ?_, fun bad => goes_of_eq row (if_pos bad), fun sound wired => goes_of_eq row ?_⟩
    · rw [if_neg (by simp [sound]), if_neg (by simp [wired])]
    · rw [if_neg (by simp [sound]), if_pos wired]
  · intro g b tested image gear arb limits currents configure told w x sealed found
    have row : Goes .bootDone s _ := execBootDone_of_limits boot tested image gear arb limits currents configure told sealed found
    exact ⟨fun dark => goes_of_eq row (if_neg (by simp [dark])), fun seen => goes_of_eq row (if_pos seen)⟩

end Sys2Proof.Machine

/-!
PROOF. A boundary at which nothing waits: what each stage of it keeps (R15, R16, R27 to R29, R36 to R38, R42, R191, R293)
-/
namespace Sys2Proof.Machine

/-- Nothing waits for a boundary: the device holds in SAFE-HOLD with no chain, axis, job, item, trace, twin, pending change, held access or
command, and its clock stands at `k`. -/
structure State.Quiet (k : Clk) (s : State) : Prop where
  clk : s.clk = k
  mode : s.md.mode = .safeHold
  next : s.md.next = none
  phase : s.startup.phase = .idle
  out0 : s.ch0.out = false
  out1 : s.ch1.out = false
  enabled0 : s.ch0.enabled = false
  enabled1 : s.ch1.enabled = false
  map0 : s.ch0.prevMap = []
  map1 : s.ch1.prevMap = []
  axes : s.axes = []
  jobs : s.jobs = []
  items : s.sched.items = []
  drops : s.sched.dropsNow = 0
  timeouts : s.sched.timeoutsNow = 0
  traceSt : s.trace.st = 0
  armNew : s.trace.armNew = false
  pair : s.twin.enable = false
  token : s.twin.token = false
  swapE : s.link.swapE = none
  swap : s.link.swap = none
  pend : s.pend.commit = none ∧ s.pend.swap = none ∧ s.pend.move = none ∧ s.pend.shift = none
  pcieHeld : s.port.pcieHeld = []
  qspiHeld : s.port.qspiHeld = []
  queue : s.host.cmdCount = 0

section
variable {k : Clk} {s : State}

theorem State.Quiet.isHead (q : s.Quiet k) : s.isHead = true := by
  simp [State.isHead, q.mode, Mode.heads]

theorem State.Quiet.chains (q : s.Quiet k) : s.chains = [] := by
  simp [State.chains, State.ch, q.enabled0, q.enabled1]

theorem State.Quiet.axisList (q : s.Quiet k) : s.axisList = [] := by
  simp [State.axisList, q.axes]

theorem State.Quiet.swapNow (q : s.Quiet k) : s.swapNow = false := by
  simp [State.swapNow, q.swapE]

theorem State.quiet_ite {p : Prop} [Decidable p] {t : State} (yes : s.Quiet k) (no : t.Quiet k) : (if p then s else t).Quiet k := by
  split
  · exact yes
  · exact no

/-! ### Events -/

/-- An event entry leaves the command queue. -/
theorem HostPort.cmdCount_pushEvt (h : HostPort) (w : List Word) : (h.pushEvt w).cmdCount = h.cmdCount := by
  unfold HostPort.pushEvt
  split <;> rfl

theorem State.Quiet.signal (q : s.Quiet k) (e : Nat) : (s.signal e).Quiet k := { q with }

theorem State.Quiet.flushLost (q : s.Quiet k) : s.flushLost.Quiet k := by
  unfold State.flushLost
  refine State.quiet_ite q (State.Quiet.signal ?_ 121)
  exact { q with queue := (HostPort.cmdCount_pushEvt s.host _).trans q.queue }

theorem State.Quiet.post (q : s.Quiet k) (n : Nat) (w : List Word) : (s.post n w).Quiet k := by
  refine State.Quiet.signal ?_ n
  exact { q.flushLost with queue := (HostPort.cmdCount_pushEvt _ w).trans q.flushLost.queue }

theorem State.Quiet.raise (q : s.Quiet k) (n a b : Nat) : (s.raise n a b).Quiet k := by
  unfold State.raise
  dsimp only
  refine State.quiet_ite q (State.quiet_ite { q with } (State.Quiet.post (State.quiet_ite ?_ ?_) n _))
  · exact { q with }
  · exact { q with }

/-! ### The end of a cycle -/

theorem State.Quiet.meter (q : s.Quiet k) (slack proj : Int) : (s.meter slack proj).Quiet k := by
  unfold State.meter
  dsimp only
  generalize peaks : (if 2 ^ (s.budget.activeW5.toNat % 32) ≤ s.room.count + 1 then
    { s with budget := { s.budget with peak := s.budget.run, run := [] } } else s) = t
  have qt : t.Quiet k := by
    rw [← peaks]
    exact State.quiet_ite { q with } q
  refine State.quiet_ite (State.Quiet.raise ?_ 42 0 _) ?_
  · exact { qt with }
  · exact { qt with }

theorem State.Quiet.closeMeter (q : s.Quiet k) (bn1 : Nat) (tEnd : Option Nat) (run : Nat) : (s.closeMeter bn1 tEnd run).Quiet k := by
  unfold State.closeMeter
  split <;> exact q.meter _ _

theorem State.Quiet.usageEnd (q : s.Quiet k) : s.usageEnd.Quiet k :=
  { q with items := by simp [State.usageEnd, q.items], drops := rfl, timeouts := rfl }

theorem State.Quiet.meterEnd (q : s.Quiet k) (r : Nat) : (s.meterEnd r).Quiet k := by
  unfold State.meterEnd
  dsimp only
  generalize earlier : (if (s.cornerK r).sched.open0 = true then _ else s.cornerK r) = t
  have corner : (s.cornerK r).Quiet k := { q with }
  have qt : t.Quiet k := by
    rw [← earlier]
    refine State.quiet_ite (State.Quiet.closeMeter ?_ _ _ _) corner
    exact { corner with }
  rw [qt.items, List.any_nil, if_neg Bool.false_ne_true]
  exact { qt.usageEnd.closeMeter _ _ _ with }

theorem State.Quiet.reportEnd (q : s.Quiet k) : s.reportEnd = s := by
  unfold State.reportEnd
  dsimp only
  rw [if_pos q.drops, if_pos q.timeouts]

theorem State.Quiet.closeWindow (q : s.Quiet k) (c : Nat) : s.closeWindow c = s := by
  refine if_pos ?_
  unfold State.ch
  split
  · rw [q.out0]; rfl
  · rw [q.out1]; rfl

theorem State.Quiet.healthEnd (q : s.Quiet k) (beat : s.faults.hbNow = true) : s.healthEnd.Quiet k := by
  have alive : s.heartbeatEnd.Quiet k := by
    unfold State.heartbeatEnd
    dsimp only
    rw [beat]
    exact { q with }
  unfold State.healthEnd
  dsimp only
  exact State.quiet_ite { alive with } alive

theorem State.Quiet.places (q : s.Quiet k) (f : Nat) : s.places f true = [] := by
  have empty : (s.ch f).prevMap = [] := by
    unfold State.ch
    split
    · exact q.map0
    · exact q.map1
  unfold State.places
  rw [if_pos rfl, empty]
  rfl

theorem State.Quiet.expire (q : s.Quiet k) (t : Nat) : s.expire t = s.passDue t := by
  have none0 (f : Nat) : s.emptyPlaces f t = [] := by rw [State.emptyPlaces, q.places]; rfl
  unfold State.expire
  rw [q.items, List.filter_nil, List.foldl_nil, State.passPlaces, List.foldl_cons, none0, List.foldl_nil, List.foldl_cons, none0]
  rfl

theorem State.Quiet.passDue (q : s.Quiet k) (t : Nat) : (s.passDue t).Quiet k := by
  rw [State.passDue_eq]
  exact { q with }

theorem State.Quiet.endCycle (q : s.Quiet k) (beat : s.faults.hbNow = true) (r : Nat) : (s.endCycle r).Quiet k := by
  unfold State.endCycle
  dsimp only
  have due := q.passDue s.bNext
  have healthy := due.healthEnd (by rw [State.passDue_eq]; exact beat)
  rw [q.expire, due.axisList, List.foldl_nil, List.foldl_cons, healthy.closeWindow, List.foldl_cons, healthy.closeWindow, List.foldl_nil,
    healthy.reportEnd]
  exact healthy.meterEnd r

/-! ### What takes effect at a boundary -/

theorem State.Quiet.traceBoundary (q : s.Quiet k) (m b ev : Nat) : s.traceBoundary m b ev = s := by
  unfold State.traceBoundary
  dsimp only
  rw [q.armNew, q.traceSt]
  rfl

theorem State.Quiet.lapses (q : s.Quiet k) (m : Nat) : s.lapses m = false := by
  simp [State.lapses, q.token]

theorem State.Quiet.modeBoundary (q : s.Quiet k) : s.modeBoundary = s := by
  unfold State.modeBoundary
  rw [q.next]

theorem State.Quiet.takeEffect (q : s.Quiet k) : s.takeEffect = s := by
  obtain ⟨commit, swap, move, shift⟩ := q.pend
  unfold State.takeEffect
  dsimp only
  rw [commit]
  dsimp only
  rw [swap]
  dsimp only
  rw [move]
  dsimp only
  rw [shift]

theorem State.Quiet.takeoverBoundary (q : s.Quiet k) : s.takeoverBoundary = s :=
  if_pos (by simp [q.mode])

theorem State.Quiet.swapBoundary (q : s.Quiet k) : s.swapBoundary = s := by
  unfold State.swapBoundary
  rw [q.swap]

theorem State.Quiet.settingsBoundary (q : s.Quiet k) : s.settingsBoundary.Quiet k :=
  { q with axes := by simp [State.settingsBoundary, q.axes] }

theorem State.Quiet.envBoundary (q : s.Quiet k) : s.envBoundary.Quiet k := { q with }

theorem State.Quiet.fillBudgets (q : s.Quiet k) : s.fillBudgets.Quiet k := { q with }

/-! ### The start of a cycle -/

theorem State.Quiet.startupBoundary (q : s.Quiet k) : s.startupBoundary = s := by
  unfold State.startupBoundary
  dsimp only
  rw [q.phase]

theorem State.Quiet.startAxes (q : s.Quiet k) : s.startAxes = s := by
  unfold State.startAxes
  dsimp only
  rw [q.axisList, List.foldl_nil, q.axisList, List.foldl_nil, State.running, q.axisList]
  rfl

theorem State.Quiet.chirpBoundary (q : s.Quiet k) (m : Nat) : (s.chirpBoundary m).Quiet k := by
  unfold State.chirpBoundary
  dsimp only
  rw [q.jobs, List.map_nil, List.foldl_nil]
  exact { q with jobs := rfl, axes := by rw [q.axes]; rfl }

theorem State.Quiet.noLaunch (q : s.Quiet k) (c : Nat) : (s.noLaunch c).Quiet k := by
  unfold State.noLaunch State.updCh State.setCh
  by_cases first : c = 0
  · rw [if_pos first, first]
    exact { q with out0 := rfl }
  · rw [if_neg first, State.ch, if_neg first]
    exact { q with out1 := rfl }

theorem State.Quiet.launchFrames (q : s.Quiet k) : s.launchFrames.Quiet k := by
  unfold State.launchFrames
  dsimp only
  rw [q.swapNow, Bool.false_and, if_neg Bool.false_ne_true, q.chains, List.foldl_nil, if_neg Bool.false_ne_true]
  exact State.quiet_ite ((q.noLaunch 0).noLaunch 1) q

theorem State.Quiet.advanceBuild (q : s.Quiet k) (b : CopyBuild) : s.advanceBuild b = (s, b) :=
  if_pos (by simp [State.copies, q.pair])

theorem State.Quiet.tryClose (q : s.Quiet k) : s.tryClose.Quiet k := by
  have q1 : ({ s with link := { s.link with old := s.link.old } } : State).Quiet k := { q with }
  unfold State.tryClose
  dsimp only
  rw [q.advanceBuild]
  split
  · exact q1
  · rw [q1.advanceBuild]
    exact { q with }

theorem State.Quiet.beginCopy (q : s.Quiet k) : s.beginCopy.Quiet k := by
  unfold State.beginCopy
  dsimp only
  generalize begun : ({ s with link := _ } : State) = t
  have qt : t.Quiet k := by
    rw [← begun]
    exact { q with }
  rw [State.templated, qt.axisList]
  exact qt.tryClose

theorem State.Quiet.beginCycle (q : s.Quiet k) : s.beginCycle.Quiet k := by
  unfold State.beginCycle
  dsimp only
  rw [q.axisList, List.foldl_nil, q.swapNow, Bool.false_and, if_neg Bool.false_ne_true, q.chains, List.foldl_nil, ite_self, q.startupBoundary,
    q.axisList, List.foldl_nil, q.startAxes, ite_self]
  have launched := (q.chirpBoundary s.clk.cycle).launchFrames
  exact State.quiet_ite launched.beginCopy launched

theorem State.Quiet.releaseHeld (q : s.Quiet k) : s.releaseHeld = s := by
  unfold State.releaseHeld
  dsimp only
  rw [q.pcieHeld, List.length_nil, State.releasePcie, q.qspiHeld, List.length_nil, State.releaseQspi]

/-- A boundary at which nothing waits is only counted. -/
theorem State.Quiet.crossBoundary (q : s.Quiet k) (begun : s.clk.begun = true) (beat : s.faults.hbNow = true) (r : Nat) :
    (s.crossBoundary r).Quiet { (s.to s.bNext).clk with cycle := s.clk.cycle + 1, begun := true } := by
  unfold State.crossBoundary
  dsimp only
  rw [begun, Bool.not_true, if_neg Bool.false_ne_true, if_neg Bool.false_ne_true]
  have at_ : s.clk.b (s.clk.cycle + 1) = s.bNext := rfl
  rw [at_]
  have arrived : (s.to s.bNext).Quiet (s.to s.bNext).clk := { q with clk := rfl }
  have beating : (s.to s.bNext).faults.hbNow = true := beat
  generalize s.to s.bNext = u at *
  generalize sent : (if u.eventsSent.trace.sampling (s.clk.cycle + 1) = true then _ else u.eventsSent) = s1
  have q1 : s1.Quiet u.clk := by
    rw [← sent]
    exact State.quiet_ite { arrived with } { arrived with }
  have beats : s1.faults.hbNow = true := by
    rw [← sent]
    split <;> exact beating
  have q2 := q1.endCycle beats r
  generalize s1.endCycle r = s2 at *
  rw [q2.clk]
  generalize counted : ({ s2 with clk := _, faults := _ } : State) = s3
  have q3 : s3.Quiet { u.clk with cycle := s.clk.cycle + 1, begun := true } := by
    rw [← counted]
    exact { q2 with clk := rfl }
  have noSwap : ((none : Option Nat) == some (s.clk.cycle + 1 - 1) && !false) = false := rfl
  rw [q3.traceBoundary, q3.lapses, if_neg Bool.false_ne_true, q3.modeBoundary, q3.mode, if_neg (by decide), q3.swapE, noSwap,
    if_neg Bool.false_ne_true, if_pos q3.isHead, q3.takeEffect, q3.takeoverBoundary, q3.swapBoundary]
  have started := q3.settingsBoundary.envBoundary.fillBudgets.beginCycle
  rw [started.releaseHeld, State.serve_of_empty started.queue]
  exact started

end

end Sys2Proof.Machine

/-!
PROOF. What a head launches in a cycle: cycle points, windows and their frames (R15, R22, R26, R62, R69, R91, R92, R101 to R103, R106, R117, R122, R400)
-/
namespace Sys2Proof.Machine

@[simp] theorem State.ch_to (s : State) (t c : Nat) : (s.to t).ch c = s.ch c := rfl

/-- No window opens for a device that is no head. -/
theorem State.windowOpen_of_not_head {s : State} (head : s.isHead = false) (c kind : Nat) : s.windowOpen c kind = none := by
  simp [State.windowOpen, head]

/-! ## Cycle points -/

theorem State.cpStart_of_unarmed {s : State} {x : Nat} (unarmed : (s.conv x).armed = false) (k : Nat) : s.cpStart x k = s :=
  if_pos (by simp [unarmed])

theorem cyclePoint_fires (s u : State) (n : Fin 8) (p q : CyclePt) (at_ : p = Tbl.get {} s.pins.cp n.val) (begun : s.clk.begun = true)
    (cycles : s.md.mode.cycles = true) (enabled : bit p.now 24 = true) (once : p.fired ≠ s.clk.cycle + 1)
    (inside : s.bNow + fld p.now 23 0 < s.bNext) (idleS : s.pins.convS.armed = false) (idleP : s.pins.convP.armed = false)
    (fired : q = { p with fired := s.clk.cycle + 1, driveUntil := if bit p.now 25 then (s.to (s.bNow + fld p.now 23 0)).now + 100 else p.driveUntil })
    (after : u = { s.to (s.bNow + fld p.now 23 0) with pins := { s.pins with cp := Tbl.put s.pins.cp n.val q } }) :
    Goes (.cyclePoint n) s (u.raise (32 + n.val) 0 (s.clk.cycle % 2 ^ 32)) := by
  have started : ([0, 1].foldl (fun t x => t.cpStart x n.val) u) = u := by
    have s0 : u.cpStart 0 n.val = u := State.cpStart_of_unarmed (by rw [after]; exact idleS) _
    have s1 : u.cpStart 1 n.val = u := State.cpStart_of_unarmed (by rw [after]; exact idleP) _
    rw [List.foldl_cons, s0, List.foldl_cons, s1, List.foldl_nil]
  have fires : ¬(!s.clk.begun || !s.md.mode.cycles || !bit p.now 24 || p.fired = s.clk.cycle + 1 || s.bNext ≤ s.bNow + fld p.now 23 0) = true := by
    simp [begun, cycles, enabled, once, inside]
  rw [at_] at fires
  refine goes_of_eq (congrArg Host.Outcome.next (if_neg fires)) ?_
  dsimp only
  rw [← at_, ← fired, State.to_pins, ← after, started]

theorem cyclePoint_rests (s : State) (n : Fin 8) (p : CyclePt) (at_ : p = Tbl.get {} s.pins.cp n.val)
    (rests : s.clk.begun = false ∨ s.md.mode.cycles = false ∨ bit p.now 24 = false ∨ p.fired = s.clk.cycle + 1 ∨ s.bNext ≤ s.bNow + fld p.now 23 0) :
    Goes (.cyclePoint n) s s :=
  congrArg Host.Outcome.next (if_pos (by
    rw [← at_]
    obtain rests | rests | rests | rests | rests := rests <;> simp [rests]))

/-! ## Frames that leave in their windows -/

theorem State.ch_launch (s : State) (c : Nat) (f : TxFrame) : (s.launch c f).ch c =
    if (s.ch c).gate f then { s.ch c with tx := Tbl.put (s.ch c).tx f.kind ((s.ch c).addressed c f) } else s.ch c := by
  simp [State.launch]

theorem State.sent_launch {s : State} {c : Nat} {f : TxFrame} (holds : (s.ch c).gate f = true) :
    ((s.launch c f).ch c).sent f.kind = (s.ch c).addressed c f := by
  simp [State.ch_launch, holds, Chain.sent]

/-- What decides whether and how a frame leaves on a chain, and what left on it. -/
structure Chain.SamePort (x y : Chain) : Prop where
  tx : y.tx = x.tx
  cfg : y.cfg = x.cfg
  left : y.portL = x.portL
  right : y.portR = x.portR
  active : y.active = x.active
  kA : y.kA = x.kA
  kB : y.kB = x.kB

theorem Chain.SamePort.trans {x y z : Chain} (a : x.SamePort y) (b : y.SamePort z) : x.SamePort z :=
  ⟨b.tx.trans a.tx, b.cfg.trans a.cfg, b.left.trans a.left, b.right.trans a.right, b.active.trans a.active, b.kA.trans a.kA, b.kB.trans a.kB⟩

theorem Chain.SamePort.gate {x y : Chain} (same : x.SamePort y) (f : TxFrame) : y.gate f = x.gate f := by
  unfold Chain.gate Chain.rate
  rw [same.left, same.right, same.active]

theorem Chain.SamePort.addressed {x y : Chain} (same : x.SamePort y) (c : Nat) (f : TxFrame) : y.addressed c f = x.addressed c f := by
  simp [Chain.addressed, same.cfg, same.kA, same.kB]

theorem State.placeReqs_samePort (c : Nat) (l : List Nat) (s : State) : (s.ch c).SamePort ((s.placeReqs c l).1.ch c) := by
  induction l generalizing s with
  | nil => exact ⟨rfl, rfl, rfl, rfl, rfl, rfl, rfl⟩
  | cons a l ih =>
    rw [State.placeReqs]
    split
    · refine Chain.SamePort.trans ?_ (ih _)
      simp only [State.setNd, State.ch_updCh]
      exact ⟨rfl, rfl, rfl, rfl, rfl, rfl, rfl⟩
    · exact ih s

theorem State.placeReqs_clk (c : Nat) (l : List Nat) (s : State) : (s.placeReqs c l).1.clk = s.clk := by
  induction l generalizing s with
  | nil => rfl
  | cons a l ih =>
    rw [State.placeReqs]
    split
    · exact (ih _).trans (State.setNd_clk s c a _)
    · exact ih s

/-- Counting the frame of a window moves the arbiter alone. -/
theorem State.countFrame_ch (s : State) (c d : Nat) : (s.countFrame c).ch d = s.ch d := by
  unfold State.countFrame
  dsimp only
  split <;> rfl

section
variable {s u : State} {c : Fin 2} {k : Nat}

theorem serviceFrameLaunch_opens (opens : s.windowOpen c.val 2 = some k)
    (after : u = (s.to (s.windowAt c.val k)).updCh c.val Chain.dropAssigns) :
    Goes (.serviceFrameLaunch c) s ((u.serviceFrame c.val k).countFrame c.val) := by
  refine congrArg Host.Outcome.next ?_
  rw [opens, after]

theorem openFrameLaunch_opens (opens : s.windowOpen c.val 5 = some k) (after : u = s.to (s.windowAt c.val k)) :
    ((s.ch c.val).openFilled = [] → Goes (.openFrameLaunch c) s u) ∧
    ((s.ch c.val).openFilled ≠ [] → Goes (.openFrameLaunch c) s ((u.openFrame c.val k).countFrame c.val)) := by
  constructor <;> intro filled <;> refine congrArg Host.Outcome.next ?_ <;> rw [opens, after]
  · exact if_pos (by simp [filled])
  · exact if_neg (by simp [filled])

end

/-- What a frame of requests that is launched from a state which has only placed them leaves on its chain. -/
theorem State.launch_after_placing {s u : State} {c : Nat} {f : TxFrame} (same : (s.ch c).SamePort (u.ch c)) (kind : f.kind = 2) :
    ((s.ch c).gate f = true → ((u.launch c f).ch c).sent 2 = (s.ch c).addressed c f) ∧
    ((s.ch c).gate f = false → ((u.launch c f).ch c).tx = (s.ch c).tx) := by
  constructor <;> intro gate <;> rw [← same.gate] at gate
  · rw [← kind, State.sent_launch gate, same.addressed]
  · rw [State.ch_launch, if_neg (by simp [gate]), same.tx]

theorem State.openFrame_launches (s : State) (c k : Nat) : ∃ f : TxFrame, f.kind = 2 ∧ f.window = k ∧ f.cycle = s.clk.cycle ∧
    f.launchA = s.now ∧ ((s.openFrame c k).ch c).openFilled = [] ∧
    ((s.ch c).gate f = true → ((s.openFrame c k).ch c).sent 2 = (s.ch c).addressed c f) ∧
    ((s.ch c).gate f = false → ((s.openFrame c k).ch c).tx = (s.ch c).tx) := by
  have clock := State.placeReqs_clk c ((s.ch c).openFilled.take ((s.ch c).slotRoom k 0)) s
  have same := State.placeReqs_samePort c ((s.ch c).openFilled.take ((s.ch c).slotRoom k 0)) s
  unfold State.openFrame
  generalize s.placeReqs c ((s.ch c).openFilled.take ((s.ch c).slotRoom k 0)) = p at *
  dsimp only
  generalize p.1.notice c false ++ beBytes 2 p.2.length ++ beBytes 2 0 ++ p.2.flatten = body
  refine ⟨{ p.1.frame 2 k body.length with payload := body }, rfl, rfl, congrArg Clk.cycle clock, congrArg Clk.tb clock, ?_, ?_⟩
  · simp
  · simpa [Chain.sent] using State.launch_after_placing same (f := { p.1.frame 2 k body.length with payload := body }) rfl

theorem Chain.samePort_ring (x : Chain) (r : Ring) : x.SamePort { x with ring := r } := ⟨rfl, rfl, rfl, rfl, rfl, rfl, rfl⟩

/-- What naming the nodes to loop back touches: the ring of the chain. -/
theorem Chain.samePort_nameFirst (x : Chain) : x.SamePort x.nameFirst := by
  unfold Chain.nameFirst
  split <;> exact ⟨rfl, rfl, rfl, rfl, rfl, rfl, rfl⟩

theorem State.serviceFrame_launches (s : State) (c k : Nat) : ∃ f : TxFrame, f.kind = 2 ∧ f.window = k ∧ f.cycle = s.clk.cycle ∧
    f.launchA = s.now ∧ ((s.serviceFrame c k).ch c).filled = [] ∧
    ((s.ch c).gate f = true → ((s.serviceFrame c k).ch c).sent 2 = (s.ch c).addressed c f) ∧
    ((s.ch c).gate f = false → ((s.serviceFrame c k).ch c).tx = (s.ch c).tx) := by
  unfold State.serviceFrame
  dsimp only
  generalize named : s.updCh c _ = s0
  have first : (s.ch c).SamePort (s0.ch c) := by
    rw [← named, State.ch_updCh, if_pos Iff.rfl]
    split
    · exact (Chain.samePort_ring _ _).trans (Chain.samePort_nameFirst _)
    · exact Chain.samePort_ring _ _
  have clock0 : s0.clk = s.clk := by rw [← named, State.updCh_clk]
  generalize (s0.ch c).filled.take _ = l
  have clock := (State.placeReqs_clk c l s0).trans clock0
  have same := first.trans (State.placeReqs_samePort c l s0)
  generalize s0.placeReqs c l = p at *
  generalize p.1.notice c _ ++ _ ++ _ ++ _ ++ _ = body
  refine ⟨{ p.1.frame 2 k body.length with payload := body }, rfl, rfl, congrArg Clk.cycle clock, congrArg Clk.tb clock, ?_, ?_⟩
  · simp
  · simpa [Chain.sent] using State.launch_after_placing same (f := { p.1.frame 2 k body.length with payload := body }) rfl

section
variable {s : State} {c : Fin 2} {k : Nat}

theorem serviceFrameLaunch_leaves (opens : s.windowOpen c.val 2 = some k) : ∃ (t : State) (f : TxFrame), Goes (.serviceFrameLaunch c) s t ∧
    f.kind = 2 ∧ f.window = k ∧ f.cycle = s.clk.cycle ∧ f.launchA = (s.to (s.windowAt c.val k)).now ∧ (t.ch c.val).filled = [] ∧
    ((s.ch c.val).gate f = true → (t.ch c.val).sent 2 = (s.ch c.val).addressed c.val f) ∧
    ((s.ch c.val).gate f = false → (t.ch c.val).tx = (s.ch c.val).tx) := by
  have same : (s.ch c.val).SamePort (((s.to (s.windowAt c.val k)).updCh c.val Chain.dropAssigns).ch c.val) := by
    rw [State.ch_updCh, if_pos Iff.rfl]
    exact ⟨rfl, rfl, rfl, rfl, rfl, rfl, rfl⟩
  obtain ⟨f, kind, window, cycle, launch, filled, sent, kept⟩ :=
    State.serviceFrame_launches ((s.to (s.windowAt c.val k)).updCh c.val Chain.dropAssigns) c.val k
  rw [same.gate, same.addressed] at sent
  rw [same.gate, same.tx] at kept
  rw [State.updCh_clk] at cycle
  refine ⟨_, f, serviceFrameLaunch_opens opens rfl, kind, window, cycle, ?_, ?_, ?_, ?_⟩
  · rw [launch, State.now, State.updCh_clk, State.now]
  · rw [State.countFrame_ch, filled]
  · rwa [State.countFrame_ch]
  · rwa [State.countFrame_ch]

theorem openFrameLaunch_leaves (opens : s.windowOpen c.val 5 = some k) (fills : (s.ch c.val).openFilled ≠ []) :
    ∃ (t : State) (f : TxFrame), Goes (.openFrameLaunch c) s t ∧
    f.kind = 2 ∧ f.window = k ∧ f.cycle = s.clk.cycle ∧ f.launchA = (s.to (s.windowAt c.val k)).now ∧ (t.ch c.val).openFilled = [] ∧
    ((s.ch c.val).gate f = true → (t.ch c.val).sent 2 = (s.ch c.val).addressed c.val f) ∧
    ((s.ch c.val).gate f = false → (t.ch c.val).tx = (s.ch c.val).tx) := by
  obtain ⟨f, kind, window, cycle, launch, filled, sent, kept⟩ := State.openFrame_launches (s.to (s.windowAt c.val k)) c.val k
  refine ⟨_, f, (openFrameLaunch_opens opens rfl).2 fills, kind, window, cycle, launch, ?_, ?_, ?_⟩
  · rw [State.countFrame_ch, filled]
  · rwa [State.countFrame_ch]
  · rwa [State.countFrame_ch]

theorem beaconLaunch_opens {u : State} {f : TxFrame} (opens : s.windowOpen c.val 4 = some k) (heads : s.md.mode.heads = true)
    (after : u = s.to (s.windowAt c.val k)) (frame : f = { u.frame 6 k 16 with payload := u.beaconBytes }) :
    Goes (.beaconLaunch c) s (u.launch c.val f) ∧
    ((s.ch c.val).gate f = true → ((u.launch c.val f).ch c.val).sent 6 = (s.ch c.val).addressed c.val f) ∧
    ((s.ch c.val).gate f = false → (u.launch c.val f).ch c.val = s.ch c.val) := by
  subst after frame
  refine ⟨congrArg Host.Outcome.next ?_, fun gate => ?_, fun gate => ?_⟩
  · rw [opens]
    exact if_pos heads
  · exact State.sent_launch (s := s.to _) (f := { State.frame _ 6 k 16 with payload := _ }) gate
  · rw [State.ch_launch, State.ch_to, if_neg (by simp [gate])]

theorem discoveryLaunch_census {u v : State} {x : Ring} {f : TxFrame} (opens : s.windowOpen c.val 3 = some k) (heads : s.md.mode.heads = true)
    (idle : (s.ch c.val).ring.measuring = false) (after : u = s.to (s.windowAt c.val k)) (due : (s.ch c.val).ring.lastCensus + 1000000 ≤ u.now)
    (ring : x = { (s.ch c.val).ring with censuses := (s.ch c.val).ring.censuses + 1, lastCensus := u.now })
    (counted : v = u.setCh c.val { s.ch c.val with ring := x }) (frame : f = { u.frame 4 k 516 with payload := List.replicate 516 0 }) :
    Goes (.discoveryLaunch c) s (v.launch c.val f) ∧
    ((s.ch c.val).gate f = true → ((v.launch c.val f).ch c.val).sent 4 = (s.ch c.val).addressed c.val f) ∧
    ((v.launch c.val f).ch c.val).ring = x := by
  have chain : v.ch c.val = { s.ch c.val with ring := x } := by rw [counted, State.ch_setCh, if_pos Iff.rfl]
  have same : (s.ch c.val).SamePort (v.ch c.val) := by
    rw [chain]
    exact Chain.samePort_ring _ _
  have kind : f.kind = 4 := by rw [frame]; rfl
  refine ⟨congrArg Host.Outcome.next ?_, fun gate => ?_, ?_⟩
  · rw [opens, counted, frame, ring]
    dsimp only
    rw [← after]
    have at_ : u.ch c.val = s.ch c.val := by rw [after, State.ch_to]
    have mode : u.md.mode.heads = true := by rw [after]; exact heads
    unfold State.discovery
    dsimp only
    rw [at_, if_neg (by simp [idle]), if_pos (by simp [idle, mode, due]), State.updCh, at_]
  · rw [← kind, State.sent_launch (by rwa [same.gate]), same.addressed]
  · rw [State.ch_launch, chain]
    split <;> rfl

theorem acyclicFill_open {u : State} {z : State × List Nat} (opens : s.windowOpen c.val 5 = some k)
    (after : u = s.to (s.windowAt c.val k - 2000)) (fills : z = (u.windowHolder c.val).fill c.val true) :
    Goes (.acyclicFill c true) s
      ((z.1.updCh c.val (fun x => { x with openFilled := z.2.filter (fun a => !x.filled.contains a) })).serve) ∧
    (z.1.host.cmdCount = 0 → ∃ t, Goes (.acyclicFill c true) s t ∧
      (t.ch c.val).openFilled = z.2.filter (fun a => !(z.1.ch c.val).filled.contains a)) := by
  have row : Goes (.acyclicFill c true) s
      ((z.1.updCh c.val (fun x => { x with openFilled := z.2.filter (fun a => !x.filled.contains a) })).serve) := by
    refine congrArg Host.Outcome.next ?_
    rw [if_pos rfl, opens, fills, after]
    rfl
  refine ⟨row, fun empty => ⟨_, row, ?_⟩⟩
  rw [State.serve_of_empty (by rw [State.updCh_host, empty]), State.ch_updCh, if_pos Iff.rfl]

theorem acyclicFill_service {u : State} {z : State × List Nat} (opens : s.windowOpen c.val 2 = some k)
    (after : u = s.to (s.windowAt c.val k - 2000))
    (fills : z = (((u.settle c.val).timeReports c.val).windowHolder c.val).fill c.val false) :
    Goes (.acyclicFill c false) s ((z.1.updCh c.val (fun x => { x with filled := z.2 })).serve) ∧
    (z.1.host.cmdCount = 0 → ∃ t, Goes (.acyclicFill c false) s t ∧ (t.ch c.val).filled = z.2) := by
  have row : Goes (.acyclicFill c false) s ((z.1.updCh c.val (fun x => { x with filled := z.2 })).serve) := by
    refine congrArg Host.Outcome.next ?_
    rw [if_neg Bool.false_ne_true, opens, fills, after]
    rfl
  refine ⟨row, fun empty => ⟨_, row, ?_⟩⟩
  rw [State.serve_of_empty (by rw [State.updCh_host, empty]), State.ch_updCh, if_pos Iff.rfl]

theorem windowRows_not_head (head : s.isHead = false) :
    Goes (.serviceFrameLaunch c) s s ∧ Goes (.openFrameLaunch c) s s ∧ Goes (.beaconLaunch c) s s ∧
    Goes (.discoveryLaunch c) s s ∧ Goes (.acyclicFill c true) s s ∧ Goes (.acyclicFill c false) s s := by
  have shut := State.windowOpen_of_not_head head c.val
  refine ⟨?_, ?_, ?_, ?_, ?_, ?_⟩ <;> refine congrArg Host.Outcome.next ?_ <;> rw [shut]

end

/-- A boundary of a device that holds in SAFE-HOLD with nothing that waits. -/
theorem cycleBoundary_quiet (s : State) (r : Nat) (mv : Option MovedAxis) (fixed : s.clk.fixed = true) (begun : s.clk.begun = true)
    (beat : s.faults.hbNow = true) (quiet : s.Quiet s.clk) :
    ∃ t, Goes (.cycleBoundary ⟨r, mv⟩) s t ∧ t.clk.cycle = s.clk.cycle + 1 ∧ t.clk.tb = (s.to s.bNext).now := by
  have arrived : (s.arrives mv).Quiet s.clk := { quiet with }
  have crossed := arrived.crossBoundary begun beat r
  refine ⟨(s.arrives mv).crossBoundary r, congrArg Host.Outcome.next (if_pos ?_), ?_, ?_⟩
  · simp [fixed, quiet.mode, Mode.cycles]
  · rw [crossed.clk]
    rfl
  · rw [crossed.clk]
    rfl

/-- Settles O35: the boundary of a device at rest by the stages of the boundary, each of which a quiet state passes unchanged but for
its clock; the frames by the chain that the launch finds, as placing their requests leaves it. -/
theorem cycleAndWindowEvents : Obligations.CycleAndWindowEvents := by
  intro s u c k r mv
  refine ⟨?boundary, ?idle, ?quiet, cyclePoint_fires s u, cyclePoint_rests s, serviceFrameLaunch_opens, serviceFrameLaunch_leaves,
    openFrameLaunch_opens, openFrameLaunch_leaves, fun f => beaconLaunch_opens, fun x v f => discoveryLaunch_census,
    fun z => acyclicFill_open, fun z => acyclicFill_service, windowRows_not_head⟩
  case boundary =>
    intro fixed cycles
    exact congrArg Host.Outcome.next (if_pos (by simp [fixed, cycles]))
  case idle =>
    intro rests
    refine congrArg Host.Outcome.next (if_neg ?_)
    obtain rests | rests := rests <;> simp [rests]
  case quiet =>
    intro fixed mode begun next phase out0 out1 enabled0 enabled1 map0 map1 axes jobs items drops timeouts beat traceSt armNew pair token
      swapE swap commit swapNext move shift pcieHeld qspiHeld queue
    exact cycleBoundary_quiet s r mv fixed begun beat
      { clk := rfl, mode, next, phase, out0, out1, enabled0, enabled1, map0, map1, axes, jobs, items, drops, timeouts, traceSt, armNew, pair,
        token, swapE, swap, pend := ⟨commit, swapNext, move, shift⟩, pcieHeld, qspiHeld, queue }

end Sys2Proof.Machine
